-- ==== Sys2Proof/Word.lean ====
section
/-! DEFINITION. The machine's words: a register is 32 bits (R8), a byte 8, a lane frame body 64. -/

namespace Sys2Proof

/-- A register of the 24-bit register space: 32 bits. -/
abbrev Word := BitVec 32

/-- A byte of the loft, of a record or of a bus transfer. -/
abbrev Byte := BitVec 8

/-- The 64-bit body of a lane frame. -/
abbrev Body := BitVec 64

end Sys2Proof
end

