-- ==== Sys2Proof/Syntax.lean ====
section
/-! DEFINITION. The commands of the block: one constructor of `Instr` per row of spec/opcode_table.json, with the
contents of the messages and transactions that some of them carry. Every command begins with `t`, the instant at which
it happens, in eu of an outside clock that never runs backward (log entry 10). -/

namespace Sys2Proof

/-- A block of a link in one slot (R79): nothing, a control block with header 0b10, or a frame's or message's block with
header 0b01. -/
inductive Block where
  | nothing | control (body : Body) | frame (body : Body)
deriving DecidableEq, Repr

/-- The links whose messages arrive here: the pair link's MIRB (R386), and the domain ports DUP, DDN0, DDN1 (R407). -/
inductive LinkPort where
  | mirb | dup | ddn0 | ddn1
deriving DecidableEq, Repr

/-- One SMBus transaction as its command code's row receives it (R421, R422): whether it writes, the data bytes after
the command code (a block's bytes without its count), the PEC byte if the host sent one, or of a read whether it clocks one, and
whether the transaction was cut off by a repeated start to another address. -/
structure Txn where
  write : Bool
  data : List Byte
  pec : Option Byte
  cut : Bool
deriving DecidableEq, Repr

/-- What the high-voltage die samples beside the bus and the shunt: the intermediate bus's code (R305), and, of use while ticks are
lost, the drop monitor's code and whether the loop holds the current at its limit (R14, R282). -/
structure DieSample where
  vib : Nat
  drop : Nat
  acting : Bool
deriving DecidableEq, Repr

/-- The content of HELLO (R389). -/
structure HelloMsg where
  strap : Nat
  domid : Nat
  state : Nat
  step : Nat
  term : Nat
  owner : Bool
  authority : Bool
  seq : Nat
  bodyCrc : Nat
deriving DecidableEq, Repr

/-- The content of RC, a rail commit (R394). -/
structure RcMsg where
  rail : Nat
  boundary : Nat
  epoch : Nat
  state : Nat
  mode : Nat
  region : Nat
  pg : Bool
  trimIndex : Nat
  u : Nat
  vc : Int
  s : Int
  ifilt : Int
  x1 : Int
  x2 : Int
  y1 : Int
  y2 : Int
  pos : Nat
  dest : Nat
  off : Int
  cls : Nat
  warn : Bool
  dir : Nat
  warnCls : Nat
  offt : Int
  trims : List Int
  flags : Nat
  rebasePend : Bool
  missRun : Nat
  inside : Nat
  episode : Nat
deriving DecidableEq, Repr

/-- The content of DC, a device commit (R396): for each rail its state, retries, hiccup time left in ms and
PROT_STAT.WAIT. -/
structure DcMsg where
  tick : Nat
  state : Nat
  hswState : Nat
  hswRetries : Nat
  owner : Bool
  unusable : Bool
  rails : List (Nat × Nat × Nat × Bool)
  retAcc : Nat
  hints : List Nat
  delta : Nat
  epoch : Nat
deriving DecidableEq, Repr

/-- One delta (R397), by kind. -/
inductive Delta where
  | cfg (addr : Nat) (value : Word)
  | commit (group rail boundary : Nat)
  | cmd (src : Nat) (request : Nat)
  | role (stall state roleOf cause segok : Nat)
  | unit (addr : Nat) (value : Word)
  | count (addr inc : Nat)
deriving DecidableEq, Repr

/-- One JOIN item (R393): a register's RW fields as the host reads them and as they are in force, a count's live value, a
stall's state and trim, a unit map, the OFFSET last written to a position of a lane, LCP_CMDSTATn of a rail, or LCP_LAST
of a port. -/
inductive JoinItem where
  | reg (addr : Nat) (shadow inForce : Word)
  | count (addr value : Nat)
  | stall (stall state roleOf cause segok : Nat) (trim : Int)
  | unit (addr : Nat) (value : Word)
  | offset (lane pos : Nat) (value : Int)
  | cmd (rail : Nat) (word : Word)
  | last (port request : Nat)
deriving DecidableEq, Repr

/-- A JOIN message: its place in the sequence, whether it is the last, the sequence number of the next delta when the
first item was sent, and its items. -/
structure JoinMsg where
  index : Nat
  final : Bool
  firstDelta : Nat
  items : List JoinItem
deriving DecidableEq, Repr

/-- The content of REPORT (R408, R412). -/
structure ReportMsg where
  id : Nat
  group : Nat
  strap : Nat
  partner : Nat
deriving DecidableEq, Repr

/-- The messages of the pair link (R387). -/
inductive PairMsg where
  | hello (m : HelloMsg)
  | rc (m : RcMsg)
  | dc (m : DcMsg)
  | ack (seq : Nat) (armed : Bool)
  | join (m : JoinMsg)
  | taken (term : Nat)
  | handover
  | owner (accept : Bool)
  | deltas (first : Nat) (ds : List Delta)
  | time (sender : Nat)
deriving DecidableEq, Repr

/-- The messages of the domain ports (R408). An alarm names the lowest member with a bit set by its address word (R5, R414). -/
inductive DomMsg where
  | enum (base size depth : Nat)
  | time (sender : Nat)
  | epoch (count at_ : Nat)
  | ilv (target group delta : Nat)
  | snap (seq ts : Nat)
  | alarm (word count addr : Nat)
  | report (r : ReportMsg)
deriving DecidableEq, Repr

/-- The commands of the block. -/
inductive Instr where
  /-- POWER_UP (R25). Supplies rise from power-off and the device begins a cold start in START at step 1. -/
  | powerUp (t : Nat) (role : Nat) (domRoot : Bool) (resetLow : Bool) (extractLow : Bool)
  /-- RESET_ASSERT (R25). RESET# is driven low, rails stop under the DEVICE stop action and the device leaves its state. -/
  | resetAssert (t : Nat)
  /-- RESET_RELEASE (R25). RESET# is released and the device begins a cold start, or leaves HALT. -/
  | resetRelease (t : Nat) (role : Nat) (domRoot : Bool)
  /-- SUPPLY_FALL (R457). A low-voltage supply falls below its power-on threshold, so a cold start follows when it returns. -/
  | supplyFall (t : Nat) (store : Bool)
  /-- VAUX_FALL (R457). VAUX falls below its threshold and the VAUX-retained items are lost while the device continues. -/
  | vauxFall (t : Nat)
  /-- SUPERVISOR_RISE (R36). The input supervisor makes a rising crossing of 38.0 V and moves to the above state, which can complete step 1. -/
  | supervisorRise (t : Nat)
  /-- SUPERVISOR_FALL (R36). The input supervisor makes a falling crossing of 35.0 V; the fuse gate turns off, a brown-out start follows, and a bleed starts if ON_UV is set. -/
  | supervisorFall (t : Nat)
  /-- VBUS_HV_BELOW_POWER_ON (R457). VBUS_HV falls below 7.0 V; the high-voltage die stops and any bleed ends without BLEED_TIMEOUT. -/
  | vbusHvBelowPowerOn (t : Nat)
  /-- EXTRACT_ASSERT (R292). EXTRACT# falls; the rails stop HARD, IBC_EN goes low, the gate-off command is sent and the device returns to step 1. -/
  | extractAssert (t : Nat)
  /-- EXTRACT_RELEASE (R35). EXTRACT# returns high, which can complete a waiting step 1. -/
  | extractRelease (t : Nat)
  /-- EN_PIN_EDGE (R427). An edge on EN[n] changes the rail's enable under ON_OFF_CONFIG, which can start or stop the rail or wake the device. -/
  | enPinEdge (t : Nat) (n : Nat) (level : Bool)
  /-- PFLT_EDGE (R399). An edge on PFLT# starts or restarts the PFLT# persistence timing of a standby, or the role wait. -/
  | pfltEdge (t : Nat) (low : Bool)
  /-- TRIG_EDGE (R310). A TRIG edge of the configured kind is taken as a SAR trigger, accepted if the bank is free and counted as an overrun if not. -/
  | trigEdge (t : Nat) (level : Bool)
  /-- COMPARATOR_EDGE (R237). A comparator output changes; the edge goes to capture, PROT_IRQ, the edge counters, FAULT#, MALERT# and wake, and starts or restarts dwell and persistence timing. -/
  | comparatorEdge (t : Nat) (src : Nat) (level : Bool)
  /-- WAKE_RETRAIN_COMPLETE (R64). The PARKED lanes finish retraining after a wake; the device enters RUN and acts on the waking event.
  `okMask` names the lanes that complete phase 6 at this instant. -/
  | wakeRetrainComplete (t : Nat) (okMask : Nat)
  /-- IDLE_ENTRY (R62). The IDLE conditions have held for DWELL, so the device enters IDLE and parks its lanes. -/
  | idleEntry (t : Nat)
  /-- HOLDOVER_ENTRY (R75). SYNC_IN is missing or out of band for 4 periods; the timebase enters holdover and SYNC_LOST is logged. -/
  | holdoverEntry (t : Nat)
  /-- SYNC_HOLDOVER_EXPIRED (R75). Holdover outlasts HOLDOVER_MAX; LOSS_FAULT is set and, with LOSS_ACTION at 1, every rail stops with cause TIMEBASE. -/
  | syncHoldoverExpired (t : Nat)
  /-- SYNC_RETURN (R76). SYNC_IN returns within range and the timebase locks in frequency and starts slewing its phase. -/
  | syncReturn (t : Nat) (phase : Int)
  /-- SYNC_RESTORED (R76). The phase slew reaches less than 1 coarse step; SYNC_LOCK reads 1 and SYNC_RESTORED is logged. -/
  | syncRestored (t : Nat)
  /-- TIMEBASE_LOCK (R37). The timebase locks to SYNC_IN and start step 2 completes. -/
  | timebaseLock (t : Nat) (hz : Nat)
  /-- TIMEBASE_LOCK_TIMEOUT (R37). Lock is not reached 500 ms after step 1, so step 2 fails and the device enters HALT. -/
  | timebaseLockTimeout (t : Nat)
  /-- TIME_WAIT_TIMEOUT (R410). No TIME message arrives within 100 ms in step 2, so the member locks unaligned and clears ALIGNED. -/
  | timeWaitTimeout (t : Nat)
  /-- LOFT_INTEGRITY_SCAN (R38). Step 3 completes its loft reads, selects image A or B and loads the IMG fields, or fails into HALT. -/
  | loftIntegrityScan (t : Nat)
  /-- CALIBRATION_CERTIFICATE_LOAD (R40). Step 4 loads the newest valid certificate of each path, or the factory coefficients. -/
  | calibrationCertificateLoad (t : Nat)
  /-- IDENTITY_AND_KEY_CHECK (R41). Step 5 checks the serial, the key area and the image binding, and falls back or halts on failure. -/
  | identityAndKeyCheck (t : Nat)
  /-- NEG_WAIT_EXPIRY (R389). A pair member with no HELLO has seen PFLT# low for its NEG_WAIT and becomes primary alone. -/
  | negWaitExpiry (t : Nat)
  /-- STALL_CENSUS (R42). Step 6 completes; each census answer is compared with the stall table and failed stalls are replaced. -/
  | stallCensus (t : Nat)
  /-- PRE_START_PROBES (R43). The device part of step 7 completes its presence probes and fails the stalls that never answered. -/
  | preStartProbes (t : Nat)
  /-- LAW_UNIT_SELF_TEST (R47). Step 9 completes its test vectors, assigns the serving units, or fails into HALT. -/
  | lawUnitSelfTest (t : Nat) (failLaw : Nat) (failBal : Nat)
  /-- LOFT_TAIL_RECOVERY (R48). Step 10 writes the last-words latches, recovers interrupted records, rescans the counters and releases the queued events. -/
  | loftTailRecovery (t : Nat)
  /-- RAIL_PROBE (R44). The rail part of step 7 completes its switch-node probes and the rail goes to RAMP or LATCHED. -/
  | railProbe (t : Nat) (n : Nat)
  /-- WINDOW_SEARCH (R49). The window search finds the measured rail voltage and the ramp begins, or the search gives the OV cause. -/
  | windowSearch (t : Nat) (n : Nat) (convs : List Int)
  /-- SEQUENCE_SLOT_DELAY (R54). A rail's slot DELAY after the previous slot reached REG or LATCHED expires, and the rail leaves OFF. -/
  | sequenceSlotDelay (t : Nat) (n : Nat)
  /-- STOP_SLOT_DELAY (R59). A rail's DELAY after the higher slot reached OFF expires, and the rail enters STOP. -/
  | stopSlotDelay (t : Nat) (n : Nat)
  /-- HICCUP_TIME_EXPIRY (R252). A rail's hiccup time expires; the rail enters PROBE, enters OFF, or waits for its release conditions. -/
  | hiccupTimeExpiry (t : Nat) (n : Nat)
  /-- RAIL_WARM_START (R252). A rail waiting in HICCUP finds every release condition met and makes a rail warm start into PROBE. -/
  | railWarmStart (t : Nat) (n : Nat)
  /-- RAIL_SAMPLE_BOUNDARY (R156). At a rail-sample boundary the job is committed or discarded, writes are applied, the ramp and region move, thresholds are set and new law and balance jobs are queued. -/
  | railSampleBoundary (t : Nat) (n : Nat) (track : Nat)
  /-- LAW_JOB_DISPATCH (R160). A pending law job is handed to the serving unit that has been free longest. -/
  | lawJobDispatch (t : Nat)
  /-- LAW_JOB_COMPLETE (R161). A law unit completes a job; its result is latched, the unit is freed and the lame rule is updated. -/
  | lawJobComplete (t : Nat) (unit : Nat)
  /-- LAW_UNIT_HUNG (R165). A unit has not completed a job 8 µs after dispatch, so it meets the lame rule at once and takes no further jobs. -/
  | lawUnitHung (t : Nat) (unit : Nat)
  /-- LAW_DEADLINE_TURN_OFF (R164). MISSRUN reaches MISS_MAX and the rail is turned off with cause DEADLINE. -/
  | lawDeadlineTurnOff (t : Nat) (n : Nat)
  /-- BALANCE_JOB_DISPATCH (R127). A pending balance job is dispatched to a free serving balance unit. -/
  | balanceJobDispatch (t : Nat)
  /-- BALANCE_JOB_COMPLETE (R125). A balance unit completes its job and the new trims are committed. -/
  | balanceJobComplete (t : Nat) (unit : Nat)
  /-- EDGE_FRAME_SEND (R97). At its even slot the yard manager builds and sends a stall's EDGE frame for the firing window. -/
  | edgeFrameSend (t : Nat) (stall : Nat) (start : Nat)
  /-- EDGE_FRAME_DISCARD (R97). An EDGE frame that has not left by its bound is discarded and LANE_EDGEDROPn advances. -/
  | edgeFrameDiscard (t : Nat) (stall : Nat) (start : Nat)
  /-- STOP_FRAME_SEND (R123). A stop CUT for a stall leaves at the first slot after its last start plus ON. -/
  | stopFrameSend (t : Nat) (stall : Nat)
  /-- HOLD_SEND (R98). At each multiple of 51,200 eu a HOLD carrying lane time is sent on every lane that sends HOLD. -/
  | holdSend (t : Nat) (lane : Nat)
  /-- EPOCH_BOUNDARY_DECISION (R143). At B − L the yard decides whether to take boundary B or defer it, and the drain begins. -/
  | epochBoundaryDecision (t : Nat) (n : Nat)
  /-- EPOCH_BOUNDARY (R144). At boundary B the pending layout changes take effect and the epoch count advances. -/
  | epochBoundary (t : Nat) (n : Nat)
  /-- DRAIN_END (R144). The old layout's last periods end and DRAINING returns to 0. -/
  | drainEnd (t : Nat) (n : Nat)
  /-- SHED_PROGRESS (R130). A shed stall completes its taper or HELD periods and moves to HELD or SHED. -/
  | shedProgress (t : Nat) (stall : Nat)
  /-- TELEM_RECEIVE (R92). A valid TELEM frame updates the stall's current, temperature, limit flags and wear accumulator. -/
  | telemReceive (t : Nat) (lane : Nat) (body : Body)
  /-- TELEM_TIMEOUT (R22). A stall passes 8, or 48 when not switching, of its periods without a valid TELEM and is failed. -/
  | telemTimeout (t : Nat) (stall : Nat)
  /-- VIN_STALE (R22). No intermediate bus update for 4 µs, so the image nominal is used and VIN_STALE is set. -/
  | vinStale (t : Nat)
  /-- PROBE_ANSWER (R93). A STATUS PROBE_ANSWER is received and judged for presence or a high-side short. -/
  | probeAnswer (t : Nat) (lane : Nat) (body : Body)
  /-- CFG_ACK (R93). A STATUS CFG_ACK is received and its VCHK is checked against the parameter sent. -/
  | cfgAck (t : Nat) (lane : Nat) (body : Body)
  /-- CFG_NAK (R93). A STATUS CFG_NAK is received and the STAGECFG is resent at the end of the answer window. -/
  | cfgNak (t : Nat) (lane : Nat) (body : Body)
  /-- FAULT_CHANGE (R260). A STATUS FAULT_CHANGE is received and each newly set fault bit gets its stall response. -/
  | faultChange (t : Nat) (lane : Nat) (body : Body)
  /-- CENSUS_ANSWER (R94). A CENSUS answer word is received and recorded for the position. -/
  | censusAnswer (t : Nat) (lane : Nat) (body : Body)
  /-- ANSWER_WINDOW_EXPIRY (R474). An owed answer is missing 3 µs after its request, so the attempt ends and is repeated or the stall is failed. -/
  | answerWindowExpiry (t : Nat) (lane : Nat) (pos : Nat)
  /-- RETURNED_FRAME_CHECK (R105). A returning downstream frame is compared with what was sent and a HOLD's timing is checked against RT. -/
  | returnedFrameCheck (t : Nat) (lane : Nat) (slot : Nat) (body : Body) (dev : Int)
  /-- LOSS_OF_LOCK (R105). 16 invalid headers in 64 slots declare loss of lock and the lane goes DOWN. -/
  | lossOfLock (t : Nat) (lane : Nat)
  /-- LANE_TRAINING_PHASE (R104). A lane training phase completes and the next phase starts, or the lane becomes UP. -/
  | laneTrainingPhase (t : Nat) (lane : Nat) (marks : List Nat)
  /-- TRAINING_ATTEMPT_TIMEOUT (R104). A training attempt exceeds 500 µs and is repeated, or the lane is retired or left DOWN. -/
  | trainingAttemptTimeout (t : Nat) (lane : Nat)
  /-- LCP_ABORT (R195). LCK has no rising edge for 2 µs inside a transaction, so the partial request is discarded. -/
  | lcpAbort (t : Nat) (port : Nat)
  /-- NOP (R197). The load command port NOP request returns the device state. -/
  | nop (t : Nat) (port : Nat) (n : Nat) (seq : Nat) (arg : Nat)
  /-- SETV (R193). The SETV request sets a rail destination and class, with its status and optional enable. -/
  | setv (t : Nat) (port : Nat) (n : Nat) (seq : Nat) (code : Nat) (cls : Nat) (notify : Bool)
  /-- PSTATE (R201). The PSTATE request sets the rail's power-state hint from the next boundary. -/
  | pstate (t : Nat) (port : Nat) (n : Nat) (seq : Nat) (hint : Nat)
  /-- STEP_AHEAD (R202). The STEP_AHEAD request recalls the yard, latches ir0 and starts pre-positioning, or cancels a warning. -/
  | stepAhead (t : Nat) (port : Nat) (n : Nat) (seq : Nat) (lead : Nat) (dir : Nat) (cls : Nat)
  /-- QUERY (R199). The QUERY request returns the named item of the rail or port. -/
  | query (t : Nat) (port : Nat) (n : Nat) (seq : Nat) (item : Nat)
  /-- CLRALERT (R207). The CLRALERT request clears the named alert causes of the port. -/
  | clralert (t : Nat) (port : Nat) (n : Nat) (seq : Nat) (mask : Nat)
  /-- STEP_AHEAD_MISS (R204). No arrival by ts + GRACE, so the warning ends as a miss and STEP_MISSED is set. -/
  | stepAheadMiss (t : Nat) (n : Nat)
  /-- EPISODE_START (R217). A comparator held for the 20 ns dwell starts a BURST or CUT episode: MODE changes, the yard is recalled and uhold is latched. -/
  | episodeStart (t : Nat) (n : Nat)
  /-- EPISODE_RENEWAL (R220). At ti + DUR the episode frames are renewed if the comparator is high, or the episode ends at MAXN. -/
  | episodeRenewal (t : Nat) (n : Nat)
  /-- EPISODE_END (R221). The comparator has been low for 20 ns, so end frames are sent and the episode ends. -/
  | episodeEnd (t : Nat) (n : Nat)
  /-- RETURNED_ENERGY_UPDATE (R228). Every 1 µs the returned-energy bucket is updated. -/
  | returnedEnergyUpdate (t : Nat)
  /-- LIMITED_INTERVAL_COUNT (R250). At each Tp instant the limited stalls are counted, OCRUN is updated and the hottest TEMP is taken. -/
  | limitedIntervalCount (t : Nat) (n : Nat)
  /-- OVERCURRENT_TURN_OFF (R250). The limited-interval run reaches NLIMP and the rail is turned off with cause OC. -/
  | overcurrentTurnOff (t : Nat) (n : Nat)
  /-- RAIL_OVER_TEMPERATURE (R259). HOT is at or above RAILOT for OTN instants and the rail is turned off with cause OT. -/
  | railOverTemperature (t : Nat) (n : Nat)
  /-- OVERVOLTAGE (R255). OVN consecutive conversions meet the overvoltage condition, giving the OV cause and CROWBAR. -/
  | overvoltage (t : Nat) (n : Nat)
  /-- UNDERVOLTAGE (R257). UVN consecutive undervoltage samples give the UV cause. -/
  | undervoltage (t : Nat) (n : Nat)
  /-- GPC_PERSISTENCE (R261). A general comparator stays active for its persistence time and its ACTION turns off the rails in RAILMASK. -/
  | gpcPersistence (t : Nat) (k : Nat)
  /-- CROWBAR_RENEWAL (R246). A CROWBAR CUT is renewed at ti + DUR until NCUT frames have gone, then the HARD frame follows. -/
  | crowbarRenewal (t : Nat) (n : Nat)
  /-- RING_FREEZE (R265). 32 µs after tf the waveform ring freezes for the last-fault record. -/
  | ringFreeze (t : Nat)
  /-- LAST_FAULT_RECORD_WRITE (R267). A pending last-fault record is written to its slot, body then CRC then SEQ, and the ring re-arms. -/
  | lastFaultRecordWrite (t : Nat)
  /-- ARCHIVE_COPY_WRITE (R378). After a record's slot write completes, its copy is written to the waveform archive. -/
  | archiveCopyWrite (t : Nat)
  /-- PROT_CAPL_READ (R241). A read of PROT_CAPL returns and removes the oldest capture entry and latches PROT_CAPH. -/
  | protCaplRead (t : Nat)
  /-- HV_TICK (R15). Every 1 µs the control die sends a tick and the intermediate bus voltage to the high-voltage die, which runs its fault timer. -/
  | hvTick (t : Nat) (vdsRaw : Nat) (acting : Bool)
  /-- HV_TICK_LOSS (R15). No tick for 4 µs, so the high-voltage die holds the gate and times faults from its own oscillator. -/
  | hvTickLoss (t : Nat)
  /-- HV_TICK_RESUMED (R15). Ticks return to the high-voltage die and pending trips are reported. -/
  | hvTickResumed (t : Nat)
  /-- INPUT_RECORD_WRITTEN (R290). The input record write completes, moving ARM to RAMP or releasing IBC_EN. -/
  | inputRecordWritten (t : Nat)
  /-- RAMP_FULLY_ON (R281). The drop reads ≤ 0.48 V for 100 µs; the gate is fully enhanced, the state is ON and the capacitance is measured. -/
  | rampFullyOn (t : Nat)
  /-- FAULT_TIMER_TRIP (R283). efet reaches EBUDGET and the input path trips with cause TIMER. -/
  | faultTimerTrip (t : Nat)
  /-- RAMP_TIMEOUT (R284). RAMP has not reached ON within TMAX and trips with cause RAMP_TIMEOUT. -/
  | rampTimeout (t : Nat)
  /-- SEVERE_CURRENT_TRIP (R285). The severe-current comparator fires; the gate is sunk off and the path trips with cause SEVERE. -/
  | severeCurrentTrip (t : Nat)
  /-- BUS_OV_TRIP (R286). Bus overvoltage persists for OVTIME and the path trips to OFF with cause BUS_OV. -/
  | busOvTrip (t : Nat)
  /-- BUS_OV_REARM (R286). The bus overvoltage comparator stays inactive for 10 ms and the path arms again. -/
  | busOvRearm (t : Nat)
  /-- RETRY_PERIOD_EXPIRY (R287). The input retry period expires and the path moves to ARM or OFF. -/
  | retryPeriodExpiry (t : Nat)
  /-- RETRIES_RESET (R287). The path has been ON for one retry period without a break and RETRIES returns to 0. -/
  | retriesReset (t : Nat)
  /-- IBC_EN_RELEASE_TIMEOUT (R280). 2 ms after the gate turned off without the record write completing, IBC_EN goes low. -/
  | ibcEnReleaseTimeout (t : Nat)
  /-- GATE_OFF_CONFIRM (R292). After extraction the gate is seen off, or 10 µs pass, and the path enters BLEED. -/
  | gateOffConfirm (t : Nat) (shown : Bool)
  /-- BLEED_STOP (R294). VBUS_SNS reaches VSTOP and the bleeder turns off. -/
  | bleedStop (t : Nat)
  /-- BLEED_TIMEOUT (R294). TSAFE expires before VSTOP; the bleed ends with BLEED_TO and a possible FET_SHORT. -/
  | bleedTimeout (t : Nat)
  /-- HSW_CTRL_CLEAR (R287). A write of HSW_CTRL.CLEAR takes the input path out of LATCHED with RETRIES 0. -/
  | hswCtrlClear (t : Nat)
  /-- HSW_CTRL_BLEED (R294). A write of HSW_CTRL.BLEED starts a commanded bleed at maintenance level. -/
  | hswCtrlBleed (t : Nat)
  /-- METERING_SAMPLE (R297). At each 8 µs sample the input voltage, current and power are calibrated and the energies accumulate.
  `x` is what the high-voltage die samples beside the bus and the shunt. -/
  | meteringSample (t : Nat) (vraw : Nat) (iraw : Int) (x : DieSample)
  /-- LIFETIME_ENERGY_FLUSH (R298). Every FLUSH s the lifetime input-energy spread counter is written. -/
  | lifetimeEnergyFlush (t : Nat)
  /-- WEAR_FLUSH (R134). Every FLUSH s each stall's wear counter is written with the flush margin and the weights are recomputed. -/
  | wearFlush (t : Nat)
  /-- SPARE_PROBE (R139). Every PROBE_INT ms each spare receives a presence probe. -/
  | spareProbe (t : Nat) (stall : Nat)
  /-- OPERATING_TIME_FLUSH (R352). Every OPFLUSH s the operating-time counter is written ahead by one interval. -/
  | operatingTimeFlush (t : Nat)
  /-- SAR_RESULT (R311). A SAR conversion completes and its result enters its queue; the sequence ends with the last one. -/
  | sarResult (t : Nat) (conv : Nat) (code : Nat)
  /-- PATH_CHECK (R308). A SAR path is checked against the reference and is failed after two bad checks. -/
  | pathCheck (t : Nat) (conv : Nat) (code : Nat)
  /-- SPARE_PATH_SWITCH (R308). When no sequence runs, a spare path is switched in for a failed path. -/
  | sparePathSwitch (t : Nat) (conv : Nat)
  /-- WINDOW_PUBLISH (R316). The closed metering window finishes draining and is published to the MEAS_W registers. -/
  | windowPublish (t : Nat)
  /-- DOMAIN_SNAPSHOT_TRIGGER (R413). At a snapshot instant ts a member with DOMTRIG at 1 takes a SAR trigger. -/
  | domainSnapshotTrigger (t : Nat)
  /-- MEAS_SARCTRL_TRIG (R310). A write of MEAS_SARCTRL.TRIG makes a software trigger. -/
  | measSarctrlTrig (t : Nat)
  /-- MEAS_SARCTRL_CLRQ (R315). A write of MEAS_SARCTRL.CLRQ empties the named queues. -/
  | measSarctrlClrq (t : Nat) (mask : Nat)
  /-- MEAS_QUEUE_READ (R315). A read of MEAS_Qk returns and removes the oldest queue entry. -/
  | measQueueRead (t : Nat) (k : Nat)
  /-- SPLIT_READ_LOW (R318). A read of a wide value's low word returns it and latches the upper words as fresh. -/
  | splitReadLow (t : Nat) (addr : Nat)
  /-- SPLIT_READ_HIGH (R318). A read of an upper word returns the latch and flags STALE_HI if it is not fresh. -/
  | splitReadHigh (t : Nat) (addr : Nat)
  /-- PERF_CTRL_SNAP (R325). A write of PERF_CTRL.SNAP starts a counter snapshot. -/
  | perfCtrlSnap (t : Nat)
  /-- PERF_CTRL_CLRALL (R326). A write of PERF_CTRL.CLRALL sets every live count to 0. -/
  | perfCtrlClrall (t : Nat)
  /-- PERF_CTRL_CLROVF (R326). A write of PERF_CTRL.CLROVF clears every overflow bit. -/
  | perfCtrlClrovf (t : Nat)
  /-- PERF_CTRL_WRITE (R326). A write of PERF_CTRL.WRITE sets the live count at PERF_WADDR to PERF_WDATA. -/
  | perfCtrlWrite (t : Nat)
  /-- PERF_SNAPSHOT_COMPLETE (R325). The central reader replaces the snapshot table whole and BUSY returns to 0. -/
  | perfSnapshotComplete (t : Nat)
  /-- LOFT_STEP_COMPLETE (R335). A loft step is programmed and verified, with a remap on a second read-back failure, and the next step begins. -/
  | loftStepComplete (t : Nat) (fail1 : List Nat) (fail2 : List Nat)
  /-- LOFT_PORT_TIMEOUT (R356). A loft request gets no response in 100 µs, so the port has failed and the loft is unusable. -/
  | loftPortTimeout (t : Nat)
  /-- LOFT_PORT_RETRY (R356). Every 1 ms the failed port is retried and PORT_OK returns at the first answer. -/
  | loftPortRetry (t : Nat) (answered : Bool)
  /-- EVENT_RECORD_WRITTEN (R368). An event record's two steps complete, EVT_HEAD advances and the recorder chooses its next record. -/
  | eventRecordWritten (t : Nat)
  /-- EVT_CTRL_CLEAR (R373). A write of EVT_CTRL.CLEAR starts a log clear, or is refused. -/
  | evtCtrlClear (t : Nat)
  /-- LOG_CLEAR_COMPLETE (R373). The clear's count completes, LOG_CLEARED is written, EVT_HEAD jumps and the recorder resumes. -/
  | logClearComplete (t : Nat)
  /-- EVT_RDATA0_READ (R372). A read of EVT_RDATA0 latches the record at EVT_RPOS and advances EVT_RPOS. -/
  | evtRdata0Read (t : Nat)
  /-- EVT_LWDATA_READ (R381). A read of EVT_LWDATA returns the selected latch word and advances WORD. -/
  | evtLwdataRead (t : Nat)
  /-- LOFT_RDATA_READ (R358). A read of LOFT_RDATA returns the loft word at ADDR and advances ADDR by 4. -/
  | loftRdataRead (t : Nat)
  /-- LOFT_WDATA_WRITE (R358). A write of LOFT_WDATA appends a word to the host step buffer. -/
  | loftWdataWrite (t : Nat) (word : Word)
  /-- LOFT_WCTL_GO (R358). A write of LOFT_WCTL.GO programs the buffered words as one host step, or refuses it. -/
  | loftWctlGo (t : Nat)
  /-- LOFT_WCTL_DISCARD (R358). A write of LOFT_WCTL.DISCARD empties the host buffer. -/
  | loftWctlDiscard (t : Nat)
  /-- LOFT_PROT_WRITE (R340). A write of LOFT_PROT raises block protection at once, or holds a lowering in BP_NEXT. -/
  | loftProtWrite (t : Nat) (bp : Nat)
  /-- LINK_TRAINING (R386). A pair or domain link completes its training phases and comes up. -/
  | linkTraining (t : Nat) (port : LinkPort) (rt : Nat)
  /-- HELLO_SEND (R387). Every 100 µs, and at each change, a pair member sends HELLO. -/
  | helloSend (t : Nat)
  /-- HELLO (R389). `bs` holds the blocks of the message as they arrived, here and in every message of a pair or domain link, by
  which it is intact or not (R386); where each item stands in them the spec does not say, so its contents are operands of their own.
  An intact HELLO from the partner is received and the roles are settled or updated. -/
  | hello (t : Nat) (bs : List Block) (m : HelloMsg)
  /-- RC (R394). An intact rail commit is received and kept by the standby. -/
  | rc (t : Nat) (bs : List Block) (m : RcMsg)
  /-- DC_SEND (R396). Every 1 µs the primary sends a device commit. -/
  | dcSend (t : Nat)
  /-- DC (R396). An intact device commit is received and kept by the standby. -/
  | dc (t : Nat) (bs : List Block) (m : DcMsg)
  /-- ACK_SEND (R397). Every 1 µs the standby sends ACK with the highest delta applied and its ARMED state. -/
  | ackSend (t : Nat)
  /-- ACK (R397). The primary receives ACK, retires acknowledged deltas and starts JOIN on ARMED 0. -/
  | ack (t : Nat) (bs : List Block) (seq : Nat) (armed : Bool)
  /-- JOIN (R393). A JOIN message is received and its items are loaded toward arming. -/
  | join (t : Nat) (bs : List Block) (m : JoinMsg)
  /-- DELTAS (R397). A DELTAS message is received and its deltas are applied in sequence order. -/
  | deltas (t : Nat) (bs : List Block) (first : Nat) (ds : List Delta)
  /-- DELTA_RESEND (R397). A delta unacknowledged for 10 µs is resent. -/
  | deltaResend (t : Nat)
  /-- ARMED_LOSS (R393). A delta unacknowledged for 64 µs returns ARMED to 0. -/
  | armedLoss (t : Nat)
  /-- MESSAGE_DUE_MISSED (R398). An expected RC or DC is missing at its due time, so MISSRUN advances and may trigger takeover. -/
  | messageDueMissed (t : Nat) (rail : Option Nat)
  /-- PFLT_PERSISTENCE (R399). PFLT# has been low for FLTN × 10 ns, which triggers a takeover. -/
  | pfltPersistence (t : Nat)
  /-- HANDOVER (R399). An intact HANDOVER is received and the standby takes over. -/
  | handover (t : Nat) (bs : List Block)
  /-- HANDOVER_WAIT_EXPIRY (R404). No TAKEN arrives within 5 µs of HANDOVER, so WARM acts as on a single device. -/
  | handoverWaitExpiry (t : Nat)
  /-- TAKEN_SEND (R400). Every 1 µs for 100 µs after a takeover the new primary sends TAKEN. -/
  | takenSend (t : Nat)
  /-- TAKEN (R403). TAKEN with a greater TERM is received and this member loses authority and leaves RUN. -/
  | taken (t : Nat) (bs : List Block) (term : Nat)
  /-- AUTHORITY_CHECK (R403). Every ACHK µs an authority check STAGECFG is sent, and authority is lost on too many failures. -/
  | authorityCheck (t : Nat)
  /-- OWNER_OFFER (R405). When the hand-over conditions hold, the input owner in STANDBY sends an OWNER offer. -/
  | ownerOffer (t : Nat)
  /-- OWNER (R405). An OWNER message is received; the primary accepts ownership, or the former owner releases the gate. -/
  | owner (t : Nat) (bs : List Block) (accept : Bool)
  /-- TIME_SEND (R408). Every 1 ms a time source sends TIME downstream or over the pair link. -/
  | timeSend (t : Nat)
  /-- TIME (R410). A TIME message is received; it declares lock or aligns time, and updates DOM_TERR. -/
  | time (t : Nat) (port : LinkPort) (bs : List Block) (sender : Nat)
  /-- ENUM (R409). An ENUM message assigns this member its ID range. -/
  | enum (t : Nat) (bs : List Block) (base : Nat) (size : Nat) (depth : Nat)
  /-- SETTLE_EXPIRY (R409). SETTLE ms after holding ID and image, the member divides its range among its up links. -/
  | settleExpiry (t : Nat)
  /-- REPORT (R412). A REPORT is relayed upward, or at the root updates the interleave membership. -/
  | report (t : Nat) (port : LinkPort) (bs : List Block) (r : ReportMsg)
  /-- EPOCH_INTERVAL (R411). Every LEN ms the root advances the domain epoch and sends EPOCH. -/
  | epochInterval (t : Nat)
  /-- EPOCH (R411). An EPOCH message is received, forwarded and scheduled for adoption. -/
  | epoch (t : Nat) (bs : List Block) (count : Nat) (at_ : Nat)
  /-- EPOCH_ADOPT (R411). At the named instant the member adopts the domain epoch and any new Δ as an interleave commit. -/
  | epochAdopt (t : Nat)
  /-- ILV (R412). An ILV message delivers a member's Δ for the next epoch. -/
  | ilv (t : Nat) (bs : List Block) (target : Nat) (group : Nat) (delta : Nat)
  /-- SNAPSHOT_PERIOD (R413). Every PERIOD ms the root starts a domain snapshot. -/
  | snapshotPeriod (t : Nat)
  /-- SNAP (R413). A SNAP message is received and forwarded, and its ts is scheduled, or it is ignored as late. -/
  | snap (t : Nat) (bs : List Block) (seq : Nat) (ts : Nat)
  /-- ALARM_SEND (R414). Every 100 µs, or on a change, a member sends ALARM upward. -/
  | alarmSend (t : Nat)
  /-- ALARM (R414). A child's ALARM is received and folded into the subtree alarm word: word, count, and the address word of the
  lowest member with a bit set (R5). -/
  | alarm (t : Nat) (port : LinkPort) (bs : List Block) (word : Nat) (count : Nat) (addr : Nat)
  /-- DOMAIN_LINK_LOSS (R415). A domain link loses lock; a child keeps its ID and the parent sets LINK. -/
  | domainLinkLoss (t : Nat) (port : LinkPort)
  /-- DOM_CTRL_SNAP (R413). A write of DOM_CTRL.SNAP starts a domain snapshot at the root. -/
  | domCtrlSnap (t : Nat)
  /-- DOM_CTRL_EPOCH (R411). A write of DOM_CTRL.EPOCH advances the domain epoch at the root. -/
  | domCtrlEpoch (t : Nat)
  /-- DOM_CTRL_ALMCLR (R414). A write of DOM_CTRL.ALMCLR clears the sticky local alarm bits. -/
  | domCtrlAlmclr (t : Nat)
  /-- PAGE (R426). The PMBus PAGE command reads or sets the selected rail or 0xFF. -/
  | page (t : Nat) (x : Txn)
  /-- OPERATION (R427). The PMBus OPERATION command turns a rail on, soft off or immediately off. -/
  | operation (t : Nat) (x : Txn)
  /-- ON_OFF_CONFIG (R427). The PMBus ON_OFF_CONFIG command reads or sets a rail's enable sources. -/
  | onOffConfig (t : Nat) (x : Txn)
  /-- CLEAR_FAULTS (R429). The CLEAR_FAULTS command clears the sticky status bits and clears LATCHED rails. -/
  | clearFaults (t : Nat) (x : Txn)
  /-- CAPABILITY (R425). The CAPABILITY command returns 0xD0. -/
  | capability (t : Nat) (x : Txn)
  /-- VOUT_MODE (R320). The VOUT_MODE command returns 0x14. -/
  | voutMode (t : Nat) (x : Txn)
  /-- VOUT_COMMAND (R428). The VOUT_COMMAND command sets or reads a PMBus-owned rail's destination. -/
  | voutCommand (t : Nat) (x : Txn)
  /-- VOUT_MAX (R428). The VOUT_MAX command reads or writes LCP_LIMn.VMAX. -/
  | voutMax (t : Nat) (x : Txn)
  /-- VOUT_MIN (R428). The VOUT_MIN command reads or writes LCP_LIMn.VMIN. -/
  | voutMin (t : Nat) (x : Txn)
  /-- STATUS_BYTE (R429). The STATUS_BYTE command reads, or clears by writing 1, the summary status of the page. -/
  | statusByte (t : Nat) (x : Txn)
  /-- STATUS_WORD (R429). The STATUS_WORD command reads, or clears, the summary status word. -/
  | statusWord (t : Nat) (x : Txn)
  /-- STATUS_VOUT (R429). The STATUS_VOUT command reads, or clears, the output voltage status. -/
  | statusVout (t : Nat) (x : Txn)
  /-- STATUS_IOUT (R429). The STATUS_IOUT command reads, or clears, the output current status. -/
  | statusIout (t : Nat) (x : Txn)
  /-- STATUS_INPUT (R429). The STATUS_INPUT command reads, or clears, the device input status. -/
  | statusInput (t : Nat) (x : Txn)
  /-- STATUS_TEMPERATURE (R429). The STATUS_TEMPERATURE command reads, or clears, the temperature status. -/
  | statusTemperature (t : Nat) (x : Txn)
  /-- STATUS_CML (R429). The STATUS_CML command reads, or clears, the refusal status bits. -/
  | statusCml (t : Nat) (x : Txn)
  /-- STATUS_MFR_SPECIFIC (R429). The STATUS_MFR_SPECIFIC command reads, or clears, the manufacturer status bits. -/
  | statusMfrSpecific (t : Nat) (x : Txn)
  /-- READ_VIN (R321). The READ_VIN command returns the board bus voltage in LINEAR11. -/
  | readVin (t : Nat) (x : Txn)
  /-- READ_IIN (R321). The READ_IIN command returns the input current in LINEAR11. -/
  | readIin (t : Nat) (x : Txn)
  /-- READ_PIN (R321). The READ_PIN command returns the input power in LINEAR11. -/
  | readPin (t : Nat) (x : Txn)
  /-- READ_VOUT (R322). The READ_VOUT command returns the page rail's output voltage in ULINEAR16. -/
  | readVout (t : Nat) (x : Txn)
  /-- READ_IOUT (R322). The READ_IOUT command returns the page rail's current. -/
  | readIout (t : Nat) (x : Txn)
  /-- READ_POUT (R321). The READ_POUT command returns the page rail's output power. -/
  | readPout (t : Nat) (x : Txn)
  /-- READ_TEMPERATURE_1 (R321). The READ_TEMPERATURE_1 command returns the rail's hottest stall temperature. -/
  | readTemperature1 (t : Nat) (x : Txn)
  /-- READ_TEMPERATURE_2 (R321). The READ_TEMPERATURE_2 command returns the control-die temperature from channel 26. -/
  | readTemperature2 (t : Nat) (x : Txn)
  /-- READ_FREQUENCY (R321). The READ_FREQUENCY command returns the rail's stall switching frequency. -/
  | readFrequency (t : Nat) (x : Txn)
  /-- PMBUS_REVISION (R425). The PMBUS_REVISION command returns 0x44. -/
  | pmbusRevision (t : Nat) (x : Txn)
  /-- MFR_ID (R425). The MFR_ID command returns "DRAVNEN". -/
  | mfrId (t : Nat) (x : Txn)
  /-- MFR_MODEL (R425). The MFR_MODEL command returns "QX8-512". -/
  | mfrModel (t : Nat) (x : Txn)
  /-- MFR_REVISION (R425). The MFR_REVISION command returns "B2". -/
  | mfrRevision (t : Nat) (x : Txn)
  /-- MFR_SERIAL (R425). The MFR_SERIAL command returns the 8-byte device serial. -/
  | mfrSerial (t : Nat) (x : Txn)
  /-- IC_DEVICE_ID (R425). The IC_DEVICE_ID command returns the grade-specific device ID string. -/
  | icDeviceId (t : Nat) (x : Txn)
  /-- IC_DEVICE_REV (R425). The IC_DEVICE_REV command returns the stepping byte. -/
  | icDeviceRev (t : Nat) (x : Txn)
  /-- UNSUPPORTED_COMMAND (R425). An unsupported or reserved command code is refused with code 0x01. -/
  | unsupportedCommand (t : Nat) (code : Nat) (x : Txn)
  /-- SMBUS_ALERT_RESPONSE (R430). While MALERT# is low the device answers the Alert Response Address with its own address. -/
  | smbusAlertResponse (t : Nat)
  /-- SMBUS_CLOCK_LOW_TIMEOUT (R422). MSCL stays low for 25 ms, so the transaction is discarded and the bus released. -/
  | smbusClockLowTimeout (t : Nat)
  /-- REG_ADDR (R431). The REG_ADDR command sets or returns the register window address. -/
  | regAddr (t : Nat) (x : Txn)
  /-- REG_DATA (R431). The REG_DATA command reads or writes the register at the window address, with optional increment. -/
  | regData (t : Nat) (x : Txn)
  /-- REG_WRITE (R431). The REG_WRITE command writes one register at a given address. -/
  | regWrite (t : Nat) (x : Txn)
  /-- REG_READ (R431). The REG_READ command reads one register at a given address. -/
  | regRead (t : Nat) (x : Txn)
  /-- REG_BURST (R432). The REG_BURST command reads 8 registers at one instant and advances the window. -/
  | regBurst (t : Nat) (x : Txn)
  /-- GROUP_COMMIT (R435). GROUP_COMMIT or a write of SYS_GCOMMIT checks a group of a rail and accepts it for its boundary, or refuses it. -/
  | groupCommit (t : Nat) (x : Txn)
  /-- WARM (R25). The WARM command or SYS_CTRL.WARM starts a device warm start, with a pair hand-over first if the partner is armed. -/
  | warm (t : Nat) (x : Txn)
  /-- LOGIN (R438). The PASSWORD LOGIN operation compares the password hash and raises the level to service, or counts a failure. -/
  | login (t : Nat) (x : Txn)
  /-- PASSWORD_SET (R438). The PASSWORD SET operation stores a new salt and hash in the key area. -/
  | passwordSet (t : Nat) (x : Txn)
  /-- CHALLENGE (R439). The CHALLENGE command returns a new 16-byte challenge and makes it the valid one. -/
  | challenge (t : Nat) (x : Txn)
  /-- CHALLENGE_EXPIRY (R439). A challenge expires 60 s after it was read. -/
  | challengeExpiry (t : Nat)
  /-- RESPONSE (R439). The RESPONSE command is checked against the HMAC of the challenge and raises the level to maintenance, or fails. -/
  | response (t : Nat) (x : Txn)
  /-- LOGOUT (R441). The LOGOUT command or ACC_CTRL.LOGOUT closes the session and returns the level to open. -/
  | logout (t : Nat) (x : Txn)
  /-- SESSION_IDLE_TIMEOUT (R441). 300 s with no transaction ends the session. -/
  | sessionIdleTimeout (t : Nat)
  /-- ACCESS_STATUS (R431). The ACCESS_STATUS command returns the level, lock, failures and back-off. -/
  | accessStatus (t : Nat) (x : Txn)
  /-- ACC_CTRL_LOCK (R437). A write of ACC_CTRL.LOCK sets FIELD_LOCK in the key area and closes the session. -/
  | accCtrlLock (t : Nat)
  /-- ACC_CTRL_UNLOCK (R437). A write of ACC_CTRL.UNLOCK clears FIELD_LOCK in the key area. -/
  | accCtrlUnlock (t : Nat)
  /-- INSTALL_BEGIN (R443). A write of ACC_INSTCTL.BEGIN, with optional DUAL, starts an image install and writes STARTED. -/
  | installBegin (t : Nat) (dual : Bool)
  /-- INST_DATA (R443). INST_DATA or a write of ACC_INSTDATA appends words to the install stream. -/
  | instData (t : Nat) (x : Txn)
  /-- INSTALL_COMMIT (R444). A write of ACC_INSTCTL.COMMIT runs the image checks and starts the header and SEQ writes, or rejects the install. -/
  | installCommit (t : Nat)
  /-- IMAGE_INSTALL_COMPLETE (R443). The install's loft writes complete, DONE is written and STATE reads DONE. -/
  | imageInstallComplete (t : Nat)
  /-- INSTALL_ABORT (R444). A write of ACC_INSTCTL.ABORT abandons the install with code 0x08. -/
  | installAbort (t : Nat)
  /-- CERTIFICATE_INSTALL (R446). A write of ACC_INSTCTL.CERT checks the streamed certificate and writes the path's record, or refuses it. -/
  | certificateInstall (t : Nat)
  /-- REGISTER_WRITE (R434). A write to a register without a row of its own lands by each field's class, with the level checks. -/
  | registerWrite (t : Nat) (addr : Nat) (data : Word)
  /-- ERROR_CONVERSION (R211). At each 20 ns conversion instant the error converter yields a code that advances the overvoltage count, the saturation flags and counter, XNT_CONVn and the waveform ring. -/
  | errorConversion (t : Nat) (n : Nat) (code : Int)
  /-- VBUS_HV_POWER_ON (R36). VBUS_HV rises past its 7.0 V power-on level; the high-voltage die starts, its supervisor becomes operational in the below state and its converters begin sampling. -/
  | vbusHvPowerOn (t : Nat)
  /-- PAIR_LINK_LOSS_OF_LOCK (R386). The MIRB receiver loses block lock under R105 and the pair link retrains by phases 1 and 2 of R104. -/
  | pairLinkLossOfLock (t : Nat)
  /-- BAD_REQ (R198). A load command port request that fails its CRC or carries a reserved opcode or a non-zero must-be-0 bit is answered CRC or BAD_REQ, is not acted on, and advances LCP_CRCERRk or LCP_REJCNTk. -/
  | badReq (t : Nat) (port : Nat) (raw : Nat)
  /-- PROTECTION_WORD_PROGRAMMED (R340). The store die finishes programming its protection word, and the raised BP comes into force for later steps. -/
  | protectionWordProgrammed (t : Nat)
deriving DecidableEq, Repr

/-- The instant a command carries. -/
def Instr.instant : Instr → Nat
  | .powerUp t _ _ _ _ => t
  | .resetAssert t => t
  | .resetRelease t _ _ => t
  | .supplyFall t _ => t
  | .vauxFall t => t
  | .supervisorRise t => t
  | .supervisorFall t => t
  | .vbusHvBelowPowerOn t => t
  | .extractAssert t => t
  | .extractRelease t => t
  | .enPinEdge t _ _ => t
  | .pfltEdge t _ => t
  | .trigEdge t _ => t
  | .comparatorEdge t _ _ => t
  | .wakeRetrainComplete t _ => t
  | .idleEntry t => t
  | .holdoverEntry t => t
  | .syncHoldoverExpired t => t
  | .syncReturn t _ => t
  | .syncRestored t => t
  | .timebaseLock t _ => t
  | .timebaseLockTimeout t => t
  | .timeWaitTimeout t => t
  | .loftIntegrityScan t => t
  | .calibrationCertificateLoad t => t
  | .identityAndKeyCheck t => t
  | .negWaitExpiry t => t
  | .stallCensus t => t
  | .preStartProbes t => t
  | .lawUnitSelfTest t _ _ => t
  | .loftTailRecovery t => t
  | .railProbe t _ => t
  | .windowSearch t _ _ => t
  | .sequenceSlotDelay t _ => t
  | .stopSlotDelay t _ => t
  | .hiccupTimeExpiry t _ => t
  | .railWarmStart t _ => t
  | .railSampleBoundary t _ _ => t
  | .lawJobDispatch t => t
  | .lawJobComplete t _ => t
  | .lawUnitHung t _ => t
  | .lawDeadlineTurnOff t _ => t
  | .balanceJobDispatch t => t
  | .balanceJobComplete t _ => t
  | .edgeFrameSend t _ _ => t
  | .edgeFrameDiscard t _ _ => t
  | .stopFrameSend t _ => t
  | .holdSend t _ => t
  | .epochBoundaryDecision t _ => t
  | .epochBoundary t _ => t
  | .drainEnd t _ => t
  | .shedProgress t _ => t
  | .telemReceive t _ _ => t
  | .telemTimeout t _ => t
  | .vinStale t => t
  | .probeAnswer t _ _ => t
  | .cfgAck t _ _ => t
  | .cfgNak t _ _ => t
  | .faultChange t _ _ => t
  | .censusAnswer t _ _ => t
  | .answerWindowExpiry t _ _ => t
  | .returnedFrameCheck t _ _ _ _ => t
  | .lossOfLock t _ => t
  | .laneTrainingPhase t _ _ => t
  | .trainingAttemptTimeout t _ => t
  | .lcpAbort t _ => t
  | .nop t _ _ _ _ => t
  | .setv t _ _ _ _ _ _ => t
  | .pstate t _ _ _ _ => t
  | .stepAhead t _ _ _ _ _ _ => t
  | .query t _ _ _ _ => t
  | .clralert t _ _ _ _ => t
  | .stepAheadMiss t _ => t
  | .episodeStart t _ => t
  | .episodeRenewal t _ => t
  | .episodeEnd t _ => t
  | .returnedEnergyUpdate t => t
  | .limitedIntervalCount t _ => t
  | .overcurrentTurnOff t _ => t
  | .railOverTemperature t _ => t
  | .overvoltage t _ => t
  | .undervoltage t _ => t
  | .gpcPersistence t _ => t
  | .crowbarRenewal t _ => t
  | .ringFreeze t => t
  | .lastFaultRecordWrite t => t
  | .archiveCopyWrite t => t
  | .protCaplRead t => t
  | .hvTick t _ _ => t
  | .hvTickLoss t => t
  | .hvTickResumed t => t
  | .inputRecordWritten t => t
  | .rampFullyOn t => t
  | .faultTimerTrip t => t
  | .rampTimeout t => t
  | .severeCurrentTrip t => t
  | .busOvTrip t => t
  | .busOvRearm t => t
  | .retryPeriodExpiry t => t
  | .retriesReset t => t
  | .ibcEnReleaseTimeout t => t
  | .gateOffConfirm t _ => t
  | .bleedStop t => t
  | .bleedTimeout t => t
  | .hswCtrlClear t => t
  | .hswCtrlBleed t => t
  | .meteringSample t _ _ _ => t
  | .lifetimeEnergyFlush t => t
  | .wearFlush t => t
  | .spareProbe t _ => t
  | .operatingTimeFlush t => t
  | .sarResult t _ _ => t
  | .pathCheck t _ _ => t
  | .sparePathSwitch t _ => t
  | .windowPublish t => t
  | .domainSnapshotTrigger t => t
  | .measSarctrlTrig t => t
  | .measSarctrlClrq t _ => t
  | .measQueueRead t _ => t
  | .splitReadLow t _ => t
  | .splitReadHigh t _ => t
  | .perfCtrlSnap t => t
  | .perfCtrlClrall t => t
  | .perfCtrlClrovf t => t
  | .perfCtrlWrite t => t
  | .perfSnapshotComplete t => t
  | .loftStepComplete t _ _ => t
  | .loftPortTimeout t => t
  | .loftPortRetry t _ => t
  | .eventRecordWritten t => t
  | .evtCtrlClear t => t
  | .logClearComplete t => t
  | .evtRdata0Read t => t
  | .evtLwdataRead t => t
  | .loftRdataRead t => t
  | .loftWdataWrite t _ => t
  | .loftWctlGo t => t
  | .loftWctlDiscard t => t
  | .loftProtWrite t _ => t
  | .linkTraining t _ _ => t
  | .helloSend t => t
  | .hello t _ _ => t
  | .rc t _ _ => t
  | .dcSend t => t
  | .dc t _ _ => t
  | .ackSend t => t
  | .ack t _ _ _ => t
  | .join t _ _ => t
  | .deltas t _ _ _ => t
  | .deltaResend t => t
  | .armedLoss t => t
  | .messageDueMissed t _ => t
  | .pfltPersistence t => t
  | .handover t _ => t
  | .handoverWaitExpiry t => t
  | .takenSend t => t
  | .taken t _ _ => t
  | .authorityCheck t => t
  | .ownerOffer t => t
  | .owner t _ _ => t
  | .timeSend t => t
  | .time t _ _ _ => t
  | .enum t _ _ _ _ => t
  | .settleExpiry t => t
  | .report t _ _ _ => t
  | .epochInterval t => t
  | .epoch t _ _ _ => t
  | .epochAdopt t => t
  | .ilv t _ _ _ _ => t
  | .snapshotPeriod t => t
  | .snap t _ _ _ => t
  | .alarmSend t => t
  | .alarm t _ _ _ _ _ => t
  | .domainLinkLoss t _ => t
  | .domCtrlSnap t => t
  | .domCtrlEpoch t => t
  | .domCtrlAlmclr t => t
  | .page t _ => t
  | .operation t _ => t
  | .onOffConfig t _ => t
  | .clearFaults t _ => t
  | .capability t _ => t
  | .voutMode t _ => t
  | .voutCommand t _ => t
  | .voutMax t _ => t
  | .voutMin t _ => t
  | .statusByte t _ => t
  | .statusWord t _ => t
  | .statusVout t _ => t
  | .statusIout t _ => t
  | .statusInput t _ => t
  | .statusTemperature t _ => t
  | .statusCml t _ => t
  | .statusMfrSpecific t _ => t
  | .readVin t _ => t
  | .readIin t _ => t
  | .readPin t _ => t
  | .readVout t _ => t
  | .readIout t _ => t
  | .readPout t _ => t
  | .readTemperature1 t _ => t
  | .readTemperature2 t _ => t
  | .readFrequency t _ => t
  | .pmbusRevision t _ => t
  | .mfrId t _ => t
  | .mfrModel t _ => t
  | .mfrRevision t _ => t
  | .mfrSerial t _ => t
  | .icDeviceId t _ => t
  | .icDeviceRev t _ => t
  | .unsupportedCommand t _ _ => t
  | .smbusAlertResponse t => t
  | .smbusClockLowTimeout t => t
  | .regAddr t _ => t
  | .regData t _ => t
  | .regWrite t _ => t
  | .regRead t _ => t
  | .regBurst t _ => t
  | .groupCommit t _ => t
  | .warm t _ => t
  | .login t _ => t
  | .passwordSet t _ => t
  | .challenge t _ => t
  | .challengeExpiry t => t
  | .response t _ => t
  | .logout t _ => t
  | .sessionIdleTimeout t => t
  | .accessStatus t _ => t
  | .accCtrlLock t => t
  | .accCtrlUnlock t => t
  | .installBegin t _ => t
  | .instData t _ => t
  | .installCommit t => t
  | .imageInstallComplete t => t
  | .installAbort t => t
  | .certificateInstall t => t
  | .registerWrite t _ _ => t
  | .errorConversion t _ _ => t
  | .vbusHvPowerOn t => t
  | .pairLinkLossOfLock t => t
  | .badReq t _ _ => t
  | .protectionWordProgrammed t => t

end Sys2Proof
end

