-- ==== Sys2Proof/Config.lean ====
section
/-! DEFINITION. The free values: what the spec leaves open and the machine nevertheless produces. Each is an opaque
constant, so no proof can rest on a value of it. Log entries 5 to 9, 12 to 19, 65 and 98 say where each
stands. -/

namespace Sys2Proof.Config

/-- Byte `j` of draw `i` from the device's random source (R438, R439): the challenge and the password salt. -/
opaque randomByte : Nat → Nat → Byte

/-- At cut `i` of a loft step, how many of the step's words were programmed before the word in progress (R336):
the instant of the cut within the step is not a state of the controller. -/
opaque tornWords : Nat → Nat

/-- At cut `i` of a loft step, what the word in progress holds afterwards (R336): 0 new, 1 old, anything else failing. -/
opaque tornKind : Nat → Nat

/-- The life fraction of a stall, by its wear counter, when YARD_WEARCFG.EOL is 0 (R126): the spec divides by EOL. -/
opaque lifeWithoutEnd : Nat → Nat

/-- The share of a stall when every weight of the conducting set is 0 (R125): the spec divides by their sum. -/
opaque shareWithoutWeight : Nat → Int

/-- The wear added by a TELEM, and the flush margin, of a stage whose census rates it 0 A (R133, R134): the spec divides
by the rating. -/
opaque wearWithoutRating : Nat → Nat

/-- The first on-time of a ramp, by the measured code, while the intermediate bus reads 0 mV (R50, R166): the spec divides
by that voltage. -/
opaque preloadWithoutBus : Nat → Nat

/-- The bleed stop level in mV, by ESAFE, when the declared and the measured bulk capacitance are both 0 (R293): the spec
divides by their larger. -/
opaque stopWithoutBulk : Nat → Nat

/-- What a metering window that holds no input sample reports, by its te and the quantity (R316, R317): 0 its start when no
sample has ever been taken, 1 the least and 2 the greatest bus voltage, 3 the peak current. -/
opaque windowWithoutSample : Nat → Nat → Int

/-- By how many eu the instant that the root names for domain epoch `n` lies further ahead than 1 ms (R411): the spec gives
the least lead alone. -/
opaque epochExtra : Nat → Nat

/-- The word that a read of LOFT_RDATA returns while the loft port does not answer, by address (R356, R358): the spec gives
the failing word's 0 alone. -/
opaque portDownWord : Nat → BitVec 32

/-- READ_VOUT for a sensed voltage below 0, by its code (R320, R322): the format is unsigned. -/
opaque voutBelowZero : Int → Nat

/-- The LINEAR11 word of a value that no exponent fits (R320). -/
opaque beyondLinear11 : Int → Nat → Nat

/-- DOM_ALMLOW.ID when the address word of the lowest member is one that the device does not know, by that word (R6, R419). -/
opaque unknownMember : Nat → Nat

/-- By how many thousandths the high-voltage die's own oscillator runs fast, before it is reduced to 0–250 (R15): the spec
gives the bounds alone. -/
opaque ownOscillator : Nat

end Sys2Proof.Config
end

