-- ==== Sys2Proof/Machine/Cells.lean ====
section
/-! DEFINITION. Sparse maps in one canonical form: a list of (key, value) pairs with strictly rising keys and no entry
equal to what an unlisted key reads as. The loft's array and every register map are such lists. -/

namespace Sys2Proof.Machine

/-- The value at key `a`; an unlisted key reads `z`. -/
def Cells.get {α : Type} (z : α) : List (Nat × α) → Nat → α
  | [], _ => z
  | (b, w) :: m, a => if a = b then w else Cells.get z m a

/-- The entries of the other keys. -/
def Cells.without {α : Type} (m : List (Nat × α)) (a : Nat) : List (Nat × α) := m.filter fun c => decide (c.1 ≠ a)

/-- Store `v` at key `a`, keeping the canonical form: storing `z` removes the entry. -/
def Cells.set {α : Type} [DecidableEq α] (z : α) : List (Nat × α) → Nat → α → List (Nat × α)
  | [], a, v => if v = z then [] else [(a, v)]
  | (b, w) :: m, a, v =>
    if b < a then (b, w) :: Cells.set z m a v
    else if v = z then Cells.without ((b, w) :: m) a
    else (a, v) :: Cells.without ((b, w) :: m) a

/-- The canonical form, for keys above a lower bound given as the next key allowed. -/
def Cells.wfFrom {α : Type} [DecidableEq α] (z : α) : Nat → List (Nat × α) → Bool
  | _, [] => true
  | lo, (a, v) :: m => decide (lo ≤ a) && decide (v ≠ z) && Cells.wfFrom z (a + 1) m

/-- The canonical form of a map. -/
def Cells.wf {α : Type} [DecidableEq α] (z : α) (m : List (Nat × α)) : Bool := Cells.wfFrom z 0 m

/-- A map from register addresses to 32-bit values; an unlisted register reads 0. -/
abbrev RMap := List (Nat × Word)

/-- The word at register address `a`. -/
def RMap.rd (m : RMap) (a : Nat) : Word := Cells.get 0 m a

/-- Store word `v` at register address `a`. -/
def RMap.wr (m : RMap) (a : Nat) (v : Word) : RMap := Cells.set 0 m a v

/-- Bits [hi:lo] of a word, as a number. -/
def fld (w : Word) (hi lo : Nat) : Nat := (w.toNat >>> lo) % 2 ^ (hi - lo + 1)

/-- The word with bits [hi:lo] replaced by the low bits of `v`. -/
def setFld (w : Word) (hi lo v : Nat) : Word :=
  let n := 2 ^ (hi - lo + 1)
  BitVec.ofNat 32 (w.toNat - ((w.toNat >>> lo) % n) * 2 ^ lo + (v % n) * 2 ^ lo)

/-- The word with the bits of `mask` taken from `new` and the others from `old`. -/
def blend (mask : Nat) (old new : Word) : Word :=
  let k : Word := BitVec.ofNat 32 mask
  (new &&& k) ||| (old &&& ~~~k)

/-- The memory of the loft's array: listed bytes; an unlisted byte reads 0 (log entry 3). -/
abbrev Memory := List (Nat × Byte)

/-- The byte at array address `a`. -/
def Memory.rd (m : Memory) (a : Nat) : Byte := Cells.get 0 m a

/-- Store one byte. -/
def Memory.wr (m : Memory) (a : Nat) (v : Byte) : Memory := Cells.set 0 m a v

/-- Store consecutive bytes from address `a` up. -/
def Memory.wrs (m : Memory) (a : Nat) : List Byte → Memory
  | [] => m
  | b :: bs => Memory.wrs (m.wr a b) (a + 1) bs

/-- The values of `n` keys from `a` up, in a map none of whose keys lies below `a`. -/
def Cells.run {α : Type} (z : α) : Nat → Nat → List (Nat × α) → List α
  | 0, _, _ => []
  | n + 1, a, [] => z :: Cells.run z n (a + 1) []
  | n + 1, a, (b, w) :: m => if a = b then w :: Cells.run z n (a + 1) m else z :: Cells.run z n (a + 1) ((b, w) :: m)

/-- `n` consecutive bytes from address `a` up, read in one pass over a canonical map. -/
def Memory.rds (m : Memory) (a n : Nat) : List Byte := Cells.run 0 n a (m.dropWhile fun c => decide (c.1 < a))

/-- The canonical form of the array. -/
def Memory.wf (m : Memory) : Bool := Cells.wf 0 m

end Sys2Proof.Machine
end

