-- ==== Sys2Proof/Machine/Bits.lean ====
section
/-! DEFINITION. Bytes, signs and the two checksums: little-endian order (R12), CRC-8 (R83) and CRC-32 (R341). -/

namespace Sys2Proof.Machine

/-- `n` bytes of a number, least significant first (R12). -/
def leBytes (n v : Nat) : List Byte := (List.range n).map fun i => BitVec.ofNat 8 (v >>> (8 * i))

/-- The number that bytes spell, least significant first (R12). -/
def leNat : List Byte → Nat
  | [] => 0
  | b :: bs => b.toNat + 256 * leNat bs

/-- The number that `n` bytes of memory spell from address `a` up. -/
def Memory.le (m : Memory) (a n : Nat) : Nat := leNat (m.rds a n)

/-- A number of `w` bits read in two's complement. -/
def signed (w v : Nat) : Int := if v % 2 ^ w < 2 ^ (w - 1) then (v % 2 ^ w : Nat) else (v % 2 ^ w : Nat) - (2 ^ w : Nat)

/-- An integer stored in `w` bits of two's complement. -/
def toBits (w : Nat) (v : Int) : Nat := (v % (2 ^ w : Nat)).toNat

/-- Clamp into a closed range. -/
def clampI (lo hi v : Int) : Int := if v < lo then lo else if v > hi then hi else v

/-- The polynomial of R83's CRC-8: x^8 + x^2 + x + 1. -/
def crc8Step (c : Nat) : Nat := if c / 128 % 2 = 1 then ((c * 2) % 256) ^^^ 7 else c * 2

/-- CRC-8 over bytes in order, most significant bit first, from 0. -/
def crc8 (bs : List Nat) : Nat :=
  bs.foldl (fun c b => crc8Step (crc8Step (crc8Step (crc8Step (crc8Step (crc8Step (crc8Step (crc8Step
    ((c ^^^ b) % 256))))))))) 0

/-- One bit of the reflected CRC-32 of R341. -/
def crc32Step (c : Nat) : Nat := if c % 2 = 1 then (c / 2) ^^^ 0xEDB88320 else c / 2

/-- One byte of the CRC-32 of R341. -/
def crc32Byte (c : Nat) (b : Byte) : Nat :=
  crc32Step (crc32Step (crc32Step (crc32Step (crc32Step (crc32Step (crc32Step (crc32Step (c ^^^ b.toNat))))))))

/-- The CRC-32 of R341: reflected polynomial 0xEDB8_8320, initial value and final XOR 0xFFFF_FFFF. -/
def crc32 (bs : List Byte) : Nat := (bs.foldl crc32Byte 0xFFFFFFFF) ^^^ 0xFFFFFFFF

/-- Replace element `i` of a list by what `f` makes of it; beyond the end nothing changes. -/
def modAt {α : Type} (l : List α) (i : Nat) (f : α → α) : List α := l.modify i f

/-- The ASCII bytes of a string. -/
def ascii (s : String) : List Byte := s.toList.map fun c => BitVec.ofNat 8 c.toNat

/-- The least number of a list, if it has one. -/
def minimum? : List Nat → Option Nat
  | [] => none
  | a :: as => match minimum? as with
    | none => some a
    | some b => some (if a ≤ b then a else b)

end Sys2Proof.Machine
end

