-- ==== Sys2Proof/Machine/Crypto.lean ====
section
/-! DEFINITION. SHA-256 and HMAC-SHA-256, which R345, R438, R439 and R299 name: the standard functions over bytes,
written with numbers below 2^32. -/

namespace Sys2Proof.Machine

/-- The first 64 primes, from which SHA-256 draws its constants: none of them exceeds 311, and 18 × 18 does. -/
def shaPrimes : List Nat := (List.range 312).filter fun n => 1 < n && (List.range 18).all fun d => d < 2 || d = n || n % d ≠ 0

/-- The greatest number whose `k`-th power does not exceed `v`, found bit by bit from bit `i - 1` down, above `r`. -/
def rootFrom (k v : Nat) : Nat → Nat → Nat
  | 0, r => r
  | i + 1, r => rootFrom k v i (if (r + 2 ^ i) ^ k ≤ v then r + 2 ^ i else r)

/-- The first 32 bits of the fraction of the `k`-th root of `p`. -/
def rootFraction (k p : Nat) : Nat := rootFrom k (p * 2 ^ (32 * k)) 36 0 % 2 ^ 32

/-- The round constants of SHA-256: the fractions of the primes' cube roots. -/
def shaK : List Nat := shaPrimes.map (rootFraction 3)

/-- The initial hash value of SHA-256: the fractions of the first eight primes' square roots. -/
def shaInit : List Nat := (shaPrimes.take 8).map (rootFraction 2)

/-- Rotate a 32-bit number right. -/
def rotr (n x : Nat) : Nat := (x >>> n ||| x <<< (32 - n)) % 2 ^ 32

/-- The next word of the message schedule from the last sixteen, oldest first. -/
def shaNext (w : List Nat) : Nat :=
  let a := w.getD 1 0
  let b := w.getD 14 0
  ((rotr 17 b ^^^ rotr 19 b ^^^ b >>> 10) + w.getD 9 0 + (rotr 7 a ^^^ rotr 18 a ^^^ a >>> 3) + w.getD 0 0) % 2 ^ 32

/-- One round over the working variables a to h. -/
def shaRound (v : List Nat) (k w : Nat) : List Nat :=
  match v with
  | [a, b, c, d, e, f, g, h] =>
    let t1 := h + (rotr 6 e ^^^ rotr 11 e ^^^ rotr 25 e) + ((e &&& f) ^^^ ((0xFFFFFFFF ^^^ e) &&& g)) + k + w
    let t2 := (rotr 2 a ^^^ rotr 13 a ^^^ rotr 22 a) + ((a &&& b) ^^^ (a &&& c) ^^^ (b &&& c))
    [(t1 + t2) % 2 ^ 32, a, b, c, (d + t1) % 2 ^ 32, e, f, g]
  | v => v

/-- The rounds of one block: the constants left, the last sixteen schedule words, the working variables. -/
def shaRounds : List Nat → List Nat → List Nat → List Nat
  | [], _, v => v
  | k :: ks, w, v => shaRounds ks (w.tail ++ [shaNext w]) (shaRound v k (w.headD 0))

/-- Fold one 64-byte block into the hash value. -/
def shaBlock (h : List Nat) (block : List Byte) : List Nat :=
  let w := (List.range 16).map fun i =>
    ((block.drop (4 * i)).take 4).foldl (fun n b => n * 256 + b.toNat) 0
  (h.zip (shaRounds shaK w h)).map fun p => (p.1 + p.2) % 2 ^ 32

/-- Fold whole blocks; `n` counts them. -/
def shaBlocks : Nat → List Nat → List Byte → List Nat
  | 0, h, _ => h
  | n + 1, h, m => shaBlocks n (shaBlock h (m.take 64)) (m.drop 64)

/-- The big-endian bytes of a number. -/
def beBytes (n v : Nat) : List Byte := (leBytes n v).reverse

/-- SHA-256 of a byte string. -/
def sha256 (m : List Byte) : List Byte :=
  let pad := (119 - m.length % 64) % 64
  let p := m ++ [0x80] ++ List.replicate pad 0 ++ beBytes 8 (8 * m.length)
  (shaBlocks (p.length / 64) shaInit p).flatMap (beBytes 4)

/-- HMAC-SHA-256 of a message under a key of at most 64 bytes. -/
def hmac (key m : List Byte) : List Byte :=
  let k := key ++ List.replicate (64 - key.length) 0
  sha256 (k.map (· ^^^ 0x5C) ++ sha256 (k.map (· ^^^ 0x36) ++ m))

end Sys2Proof.Machine
end

