-- ==== Sys2Proof/Machine/Fields.lean ====
section
/-! DEFINITION. The address of every register (15_register_index.md, R452) and a reader for every field that software
writes, named as the manual names them: register, underscore, field. A reader takes a register map, so that the same
name reads the value in force (`act`) or the host's copy of it (`hold`). -/

namespace Sys2Proof.Machine

def aSYS_STATE : Nat := 0x10
def aSYS_RAILSTATE (i : Nat) : Nat := 0x20 + 0x4 * i
def aSYS_STARTCFG : Nat := 0x40
def aSYS_STARTLOG : Nat := 0x44
def aSYS_IMAGESEQ : Nat := 0x48
def aSYS_IDLECFG : Nat := 0x4c
def aSYS_WAKE : Nat := 0x50
def aSYS_RAILSTART (i : Nat) : Nat := 0x60 + 0x4 * i
def aSYS_RAILTRACK (i : Nat) : Nat := 0x80 + 0x4 * i
def aSYS_RAILEN (i : Nat) : Nat := 0xa0 + 0x4 * i
def aSYS_CTRL : Nat := 0x100
def aSYS_GCOMMIT : Nat := 0x104
def aSYS_GCSTAT : Nat := 0x108
def aTB_CFG : Nat := 0x10000
def aTB_STATUS : Nat := 0x10004
def aTB_NOWL : Nat := 0x10008
def aTB_NOWH : Nat := 0x1000c
def aTB_LEAD : Nat := 0x10010
def aTB_SYNCIO : Nat := 0x10014
def aLANE_CFG (i : Nat) : Nat := 0x20000 + 0x40 * i
def aLANE_STATE (i : Nat) : Nat := 0x20004 + 0x40 * i
def aLANE_RT (i : Nat) : Nat := 0x20008 + 0x40 * i
def aLANE_AUTH (i : Nat) : Nat := 0x2000c + 0x40 * i
def aLANE_TXFR (i : Nat) : Nat := 0x20010 + 0x40 * i
def aLANE_RXFR (i : Nat) : Nat := 0x20014 + 0x40 * i
def aLANE_CRCERR (i : Nat) : Nat := 0x20018 + 0x40 * i
def aLANE_RETERR (i : Nat) : Nat := 0x2001c + 0x40 * i
def aLANE_EDGEDROP (i : Nat) : Nat := 0x20020 + 0x40 * i
def aLANE_DOWNCNT (i : Nat) : Nat := 0x20024 + 0x40 * i
def aLANE_GCFG : Nat := 0x21000
def aLANE_RETIREDMAP : Nat := 0x21004
def aLANE_DOWNMAP : Nat := 0x21008
def aLANE_CENSEL : Nat := 0x21010
def aLANE_CENDATA : Nat := 0x21014
def aYARD_CFG (i : Nat) : Nat := 0x40000 + 0x100 * i
def aYARD_CAP (i : Nat) : Nat := 0x40004 + 0x100 * i
def aYARD_SHEDCFG (i : Nat) : Nat := 0x40008 + 0x100 * i
def aYARD_SHEDTIME (i : Nat) : Nat := 0x4000c + 0x100 * i
def aYARD_SEGCFG (i : Nat) : Nat := 0x40010 + 0x100 * i
def aYARD_BALCFG (i : Nat) : Nat := 0x40014 + 0x100 * i
def aYARD_WEARCFG (i : Nat) : Nat := 0x40018 + 0x100 * i
def aYARD_ONLIM (i : Nat) : Nat := 0x4001c + 0x100 * i
def aYARD_COUNT (i : Nat) : Nat := 0x40020 + 0x100 * i
def aYARD_EPOCH (i : Nat) : Nat := 0x40024 + 0x100 * i
def aYARD_PEND (i : Nat) : Nat := 0x40028 + 0x100 * i
def aYARD_GRPSTAT (i : Nat) : Nat := 0x4002c + 0x100 * i
def aYARD_SHEDCNT (i : Nat) : Nat := 0x40040 + 0x100 * i
def aYARD_ADDCNT (i : Nat) : Nat := 0x40044 + 0x100 * i
def aYARD_ABANDON (i : Nat) : Nat := 0x40048 + 0x100 * i
def aYARD_REPLACE (i : Nat) : Nat := 0x4004c + 0x100 * i
def aYARD_RETIRE (i : Nat) : Nat := 0x40050 + 0x100 * i
def aYARD_BALMISS (i : Nat) : Nat := 0x40054 + 0x100 * i
def aYARD_FAILCNT (i : Nat) : Nat := 0x40058 + 0x100 * i
def aYARD_WEARGCFG : Nat := 0x41000
def aYARD_BALUNIT : Nat := 0x41004
def aYARD_SPARECFG : Nat := 0x41008
def aYARD_BIND (i : Nat) : Nat := 0x48000 + 0x10 * i
def aYARD_SSTATE (i : Nat) : Nat := 0x48004 + 0x10 * i
def aYARD_TRIM (i : Nat) : Nat := 0x48008 + 0x10 * i
def aYARD_WEAR (i : Nat) : Nat := 0x4800c + 0x10 * i
def aENG_AB0 (n r : Nat) : Nat := 0x60000 + 0x800 * n + 0x80 * r
def aENG_AB1 (n r : Nat) : Nat := 0x60004 + 0x800 * n + 0x80 * r
def aENG_AB2 (n r : Nat) : Nat := 0x60008 + 0x800 * n + 0x80 * r
def aENG_AA1 (n r : Nat) : Nat := 0x6000c + 0x800 * n + 0x80 * r
def aENG_AA2 (n r : Nat) : Nat := 0x60010 + 0x800 * n + 0x80 * r
def aENG_AKI (n r : Nat) : Nat := 0x60014 + 0x800 * n + 0x80 * r
def aENG_AKFF (n r : Nat) : Nat := 0x60018 + 0x800 * n + 0x80 * r
def aENG_AKVIN (n r : Nat) : Nat := 0x6001c + 0x800 * n + 0x80 * r
def aENG_AKLL (n r : Nat) : Nat := 0x60020 + 0x800 * n + 0x80 * r
def aENG_ASH0 (n r : Nat) : Nat := 0x60024 + 0x800 * n + 0x80 * r
def aENG_ASH1 (n r : Nat) : Nat := 0x60028 + 0x800 * n + 0x80 * r
def aENG_ASH2 (n r : Nat) : Nat := 0x6002c + 0x800 * n + 0x80 * r
def aENG_AIMIN (n r : Nat) : Nat := 0x60030 + 0x800 * n + 0x80 * r
def aENG_AIMAX (n r : Nat) : Nat := 0x60034 + 0x800 * n + 0x80 * r
def aENG_AVCMIN (n r : Nat) : Nat := 0x60038 + 0x800 * n + 0x80 * r
def aENG_AVCMAX (n r : Nat) : Nat := 0x6003c + 0x800 * n + 0x80 * r
def aENG_SB0 (n r : Nat) : Nat := 0x60040 + 0x800 * n + 0x80 * r
def aENG_SB1 (n r : Nat) : Nat := 0x60044 + 0x800 * n + 0x80 * r
def aENG_SB2 (n r : Nat) : Nat := 0x60048 + 0x800 * n + 0x80 * r
def aENG_SA1 (n r : Nat) : Nat := 0x6004c + 0x800 * n + 0x80 * r
def aENG_SA2 (n r : Nat) : Nat := 0x60050 + 0x800 * n + 0x80 * r
def aENG_SKI (n r : Nat) : Nat := 0x60054 + 0x800 * n + 0x80 * r
def aENG_SKFF (n r : Nat) : Nat := 0x60058 + 0x800 * n + 0x80 * r
def aENG_SKVIN (n r : Nat) : Nat := 0x6005c + 0x800 * n + 0x80 * r
def aENG_SKLL (n r : Nat) : Nat := 0x60060 + 0x800 * n + 0x80 * r
def aENG_SSH0 (n r : Nat) : Nat := 0x60064 + 0x800 * n + 0x80 * r
def aENG_SSH1 (n r : Nat) : Nat := 0x60068 + 0x800 * n + 0x80 * r
def aENG_SSH2 (n r : Nat) : Nat := 0x6006c + 0x800 * n + 0x80 * r
def aENG_SIMIN (n r : Nat) : Nat := 0x60070 + 0x800 * n + 0x80 * r
def aENG_SIMAX (n r : Nat) : Nat := 0x60074 + 0x800 * n + 0x80 * r
def aENG_SVCMIN (n r : Nat) : Nat := 0x60078 + 0x800 * n + 0x80 * r
def aENG_SVCMAX (n r : Nat) : Nat := 0x6007c + 0x800 * n + 0x80 * r
def aENG_CFG (i : Nat) : Nat := 0x60400 + 0x800 * i
def aENG_RSEL (i : Nat) : Nat := 0x60404 + 0x800 * i
def aENG_BANDA (i : Nat) : Nat := 0x60408 + 0x800 * i
def aENG_BANDB (i : Nat) : Nat := 0x6040c + 0x800 * i
def aENG_BANDC (i : Nat) : Nat := 0x60410 + 0x800 * i
def aENG_BANDD (i : Nat) : Nat := 0x60414 + 0x800 * i
def aENG_HINTMAP (i : Nat) : Nat := 0x60418 + 0x800 * i
def aENG_LL (i : Nat) : Nat := 0x6041c + 0x800 * i
def aENG_KDRM (i : Nat) : Nat := 0x60420 + 0x800 * i
def aENG_IGAIN (i : Nat) : Nat := 0x60424 + 0x800 * i
def aENG_FLAGS (i : Nat) : Nat := 0x60430 + 0x800 * i
def aENG_GRPSTAT (i : Nat) : Nat := 0x60434 + 0x800 * i
def aENG_MISSRUN (i : Nat) : Nat := 0x60438 + 0x800 * i
def aENG_U (i : Nat) : Nat := 0x60440 + 0x800 * i
def aENG_VC (i : Nat) : Nat := 0x60444 + 0x800 * i
def aENG_INT (i : Nat) : Nat := 0x60448 + 0x800 * i
def aENG_IFILT (i : Nat) : Nat := 0x6044c + 0x800 * i
def aENG_ERR (i : Nat) : Nat := 0x60450 + 0x800 * i
def aENG_DROOP (i : Nat) : Nat := 0x60454 + 0x800 * i
def aENG_EVAL (i : Nat) : Nat := 0x60480 + 0x800 * i
def aENG_DMISS (i : Nat) : Nat := 0x60484 + 0x800 * i
def aENG_SATCNT (i : Nat) : Nat := 0x60488 + 0x800 * i
def aENG_SWAP (i : Nat) : Nat := 0x6048c + 0x800 * i
def aENG_REGCHG (i : Nat) : Nat := 0x60490 + 0x800 * i
def aENG_REBASE (i : Nat) : Nat := 0x60494 + 0x800 * i
def aENG_UNITMAP : Nat := 0x68000
def aENG_LAMECFG : Nat := 0x68004
def aENG_VINNOM : Nat := 0x68008
def aENG_UNITRET : Nat := 0x68010
def aENG_UJOBS (i : Nat) : Nat := 0x68100 + 0x10 * i
def aENG_USLOW (i : Nat) : Nat := 0x68104 + 0x10 * i
def aENG_UTIME (i : Nat) : Nat := 0x68108 + 0x10 * i
def aLCP_PORTCFG (i : Nat) : Nat := 0x80000 + 0x40 * i
def aLCP_ALERT (i : Nat) : Nat := 0x80004 + 0x40 * i
def aLCP_ALERTEN (i : Nat) : Nat := 0x80008 + 0x40 * i
def aLCP_LASTL (i : Nat) : Nat := 0x8000c + 0x40 * i
def aLCP_LASTH (i : Nat) : Nat := 0x80010 + 0x40 * i
def aLCP_REQCNT (i : Nat) : Nat := 0x80020 + 0x40 * i
def aLCP_CRCERR (i : Nat) : Nat := 0x80024 + 0x40 * i
def aLCP_REJCNT (i : Nat) : Nat := 0x80028 + 0x40 * i
def aLCP_ABORT (i : Nat) : Nat := 0x8002c + 0x40 * i
def aLCP_REPEAT (i : Nat) : Nat := 0x80030 + 0x40 * i
def aLCP_RAILCFG (i : Nat) : Nat := 0x81000 + 0x40 * i
def aLCP_LIM (i : Nat) : Nat := 0x81004 + 0x40 * i
def aLCP_TGT (i : Nat) : Nat := 0x81008 + 0x40 * i
def aLCP_RAMP (i : Nat) : Nat := 0x8100c + 0x40 * i
def aLCP_CMDSTAT (i : Nat) : Nat := 0x81010 + 0x40 * i
def aLCP_HINT (i : Nat) : Nat := 0x81014 + 0x40 * i
def aLCP_STEPCFG (i : Nat) : Nat := 0x81018 + 0x40 * i
def aLCP_STEPCFG2 (i : Nat) : Nat := 0x8101c + 0x40 * i
def aLCP_STEPSTAT (i : Nat) : Nat := 0x81020 + 0x40 * i
def aLCP_SETVCNT (i : Nat) : Nat := 0x81024 + 0x40 * i
def aLCP_SUPERCNT (i : Nat) : Nat := 0x81028 + 0x40 * i
def aLCP_STEPCNT (i : Nat) : Nat := 0x8102c + 0x40 * i
def aLCP_STEPHIT (i : Nat) : Nat := 0x81030 + 0x40 * i
def aLCP_STEPMISS (i : Nat) : Nat := 0x81034 + 0x40 * i
def aXNT_CFG (i : Nat) : Nat := 0x90000 + 0x80 * i
def aXNT_WIN (i : Nat) : Nat := 0x90004 + 0x80 * i
def aXNT_BURST (i : Nat) : Nat := 0x90008 + 0x80 * i
def aXNT_CUT (i : Nat) : Nat := 0x9000c + 0x80 * i
def aXNT_NLIMA (i : Nat) : Nat := 0x90010 + 0x80 * i
def aXNT_NLIMB (i : Nat) : Nat := 0x90014 + 0x80 * i
def aXNT_NCLASS (i : Nat) : Nat := 0x90018 + 0x80 * i
def aXNT_THR (i : Nat) : Nat := 0x9001c + 0x80 * i
def aXNT_STAT (i : Nat) : Nat := 0x90020 + 0x80 * i
def aXNT_UHOLD (i : Nat) : Nat := 0x90024 + 0x80 * i
def aXNT_CONV (i : Nat) : Nat := 0x90028 + 0x80 * i
def aXNT_BEP (i : Nat) : Nat := 0x90040 + 0x80 * i
def aXNT_CEP (i : Nat) : Nat := 0x90044 + 0x80 * i
def aXNT_BFR (i : Nat) : Nat := 0x90048 + 0x80 * i
def aXNT_CFR (i : Nat) : Nat := 0x9004c + 0x80 * i
def aXNT_HB (i : Nat) : Nat := 0x90050 + 0x80 * i
def aXNT_SAT (i : Nat) : Nat := 0x90054 + 0x80 * i
def aXNT_STR (i : Nat) : Nat := 0x90058 + 0x80 * i
def aXNT_RETCFG : Nat := 0x91000
def aXNT_RETCFG2 : Nat := 0x91004
def aXNT_RETACC : Nat := 0x91008
def aXNT_RETSTAT : Nat := 0x9100c
def aXNT_RETTOTL : Nat := 0x91010
def aXNT_RETTOTH : Nat := 0x91014
def aXNT_CEILCNT : Nat := 0x91018
def aPROT_OC (i : Nat) : Nat := 0xa0000 + 0x40 * i
def aPROT_HIC (i : Nat) : Nat := 0xa0004 + 0x40 * i
def aPROT_OV (i : Nat) : Nat := 0xa0008 + 0x40 * i
def aPROT_UV (i : Nat) : Nat := 0xa000c + 0x40 * i
def aPROT_OT (i : Nat) : Nat := 0xa0010 + 0x40 * i
def aPROT_PG (i : Nat) : Nat := 0xa0014 + 0x40 * i
def aPROT_STAT (i : Nat) : Nat := 0xa0018 + 0x40 * i
def aPROT_LIMP (i : Nat) : Nat := 0xa0020 + 0x40 * i
def aPROT_TOFF (i : Nat) : Nat := 0xa0024 + 0x40 * i
def aPROT_LATCHCNT (i : Nat) : Nat := 0xa0028 + 0x40 * i
def aPROT_GCFG : Nat := 0xa1000
def aPROT_FAULTSRC : Nat := 0xa1004
def aPROT_ALERTEN : Nat := 0xa1008
def aPROT_IRQ : Nat := 0xa100c
def aPROT_CAPEN : Nat := 0xa1010
def aPROT_CAPSTAT : Nat := 0xa1014
def aPROT_CAPL : Nat := 0xa1018
def aPROT_CAPH : Nat := 0xa101c
def aPROT_CAPLOST : Nat := 0xa1020
def aPROT_LEVEL : Nat := 0xa1024
def aPROT_LFSTAT : Nat := 0xa1028
def aPROT_LFSEQ : Nat := 0xa102c
def aPROT_LFCNT : Nat := 0xa1030
def aPROT_GPC (i : Nat) : Nat := 0xa1100 + 0x10 * i
def aPROT_EDGECNT (i : Nat) : Nat := 0xa1200 + 0x4 * i
def aHSW_CFG : Nat := 0xb0000
def aHSW_LIM : Nat := 0xb0004
def aHSW_LIM2 : Nat := 0xb0008
def aHSW_BUDGET : Nat := 0xb000c
def aHSW_RETRY : Nat := 0xb0010
def aHSW_BUSCMP : Nat := 0xb0014
def aHSW_BLEED : Nat := 0xb0018
def aHSW_IBCFG : Nat := 0xb001c
def aHSW_CTRL : Nat := 0xb0020
def aHSW_STATUS : Nat := 0xb0024
def aHSW_EFET : Nat := 0xb0028
def aHSW_WAITREM : Nat := 0xb002c
def aHSW_CMEAS : Nat := 0xb0030
def aHSW_VSTOP : Nat := 0xb0034
def aHSW_TRIPCNT : Nat := 0xb0040
def aHSW_SEVCNT : Nat := 0xb0044
def aHSW_LIMCNT : Nat := 0xb0048
def aHSW_BLEEDCNT : Nat := 0xb004c
def aMEAS_SARCFG : Nat := 0xc0000
def aMEAS_SARCTRL : Nat := 0xc0004
def aMEAS_SARSTAT : Nat := 0xc0008
def aMEAS_TSEQ : Nat := 0xc000c
def aMEAS_TTIMEL : Nat := 0xc0010
def aMEAS_TTIMEH : Nat := 0xc0014
def aMEAS_CHKCFG : Nat := 0xc0018
def aMEAS_DIETEMP : Nat := 0xc001c
def aMEAS_PATH (i : Nat) : Nat := 0xc0020 + 0x4 * i
def aMEAS_SEQA0 : Nat := 0xc0040
def aMEAS_SEQB0 : Nat := 0xc0044
def aMEAS_SEQC0 : Nat := 0xc0048
def aMEAS_SEQD0 : Nat := 0xc004c
def aMEAS_SEQA1 : Nat := 0xc0050
def aMEAS_SEQB1 : Nat := 0xc0054
def aMEAS_SEQC1 : Nat := 0xc0058
def aMEAS_SEQD1 : Nat := 0xc005c
def aMEAS_SEQA2 : Nat := 0xc0060
def aMEAS_SEQB2 : Nat := 0xc0064
def aMEAS_SEQC2 : Nat := 0xc0068
def aMEAS_SEQD2 : Nat := 0xc006c
def aMEAS_SEQA3 : Nat := 0xc0070
def aMEAS_SEQB3 : Nat := 0xc0074
def aMEAS_SEQC3 : Nat := 0xc0078
def aMEAS_SEQD3 : Nat := 0xc007c
def aMEAS_Q (i : Nat) : Nat := 0xc0100 + 0x8 * i
def aMEAS_QSTAT (i : Nat) : Nat := 0xc0104 + 0x8 * i
def aMEAS_TRIGCNT : Nat := 0xc0200
def aMEAS_OVRCNT : Nat := 0xc0204
def aMEAS_CONV (i : Nat) : Nat := 0xc0210 + 0x4 * i
def aMEAS_QLOST (i : Nat) : Nat := 0xc0220 + 0x4 * i
def aMEAS_CHKFAIL : Nat := 0xc0230
def aMEAS_VBUS : Nat := 0xc8000
def aMEAS_IBUS : Nat := 0xc8004
def aMEAS_PIN : Nat := 0xc8008
def aMEAS_VIB : Nat := 0xc800c
def aMEAS_VDS : Nat := 0xc8010
def aMEAS_RAW : Nat := 0xc8014
def aMEAS_EINL : Nat := 0xc8018
def aMEAS_EINH : Nat := 0xc801c
def aMEAS_EREVL : Nat := 0xc8020
def aMEAS_EREVH : Nat := 0xc8024
def aMEAS_ELIFEL : Nat := 0xc8028
def aMEAS_ELIFEH : Nat := 0xc802c
def aMEAS_INCFG : Nat := 0xc8030
def aMEAS_CALSTAT : Nat := 0xc8034
def aMEAS_WSEQ : Nat := 0xc9000
def aMEAS_WSTARTL : Nat := 0xc9008
def aMEAS_WSTARTH : Nat := 0xc900c
def aMEAS_WENDL : Nat := 0xc9010
def aMEAS_WENDH : Nat := 0xc9014
def aMEAS_WEINL : Nat := 0xc9018
def aMEAS_WEINH : Nat := 0xc901c
def aMEAS_WEREVL : Nat := 0xc9020
def aMEAS_WEREVH : Nat := 0xc9024
def aMEAS_WNS : Nat := 0xc9028
def aMEAS_WVMIN : Nat := 0xc902c
def aMEAS_WVMAX : Nat := 0xc9030
def aMEAS_WIMAX : Nat := 0xc9034
def aMEAS_WEOUTL (i : Nat) : Nat := 0xc9040 + 0x8 * i
def aMEAS_WEOUTH (i : Nat) : Nat := 0xc9044 + 0x8 * i
def aLOFT_STATUS : Nat := 0xd0000
def aLOFT_PROT : Nat := 0xd0004
def aLOFT_CFG : Nat := 0xd0008
def aLOFT_RADDR : Nat := 0xd0010
def aLOFT_RDATA : Nat := 0xd0014
def aLOFT_WADDR : Nat := 0xd0018
def aLOFT_WDATA : Nat := 0xd001c
def aLOFT_WCTL : Nat := 0xd0020
def aLOFT_WSTAT : Nat := 0xd0024
def aLOFT_IMGSEQA : Nat := 0xd0030
def aLOFT_IMGSEQB : Nat := 0xd0034
def aLOFT_IMGSTAT : Nat := 0xd0038
def aLOFT_PCYCLE : Nat := 0xd0040
def aLOFT_OPTL : Nat := 0xd0044
def aLOFT_OPTH : Nat := 0xd0048
def aLOFT_PGWR : Nat := 0xd0100
def aLOFT_PGRD : Nat := 0xd0104
def aLOFT_STEPS : Nat := 0xd0108
def aLOFT_VERFAILCNT : Nat := 0xd010c
def aLOFT_REMAPCNT : Nat := 0xd0110
def aLOFT_PROTREF : Nat := 0xd0114
def aLOFT_RDERRCNT : Nat := 0xd0118
def aLOFT_TIECNT : Nat := 0xd011c
def aEVT_STATUS : Nat := 0xe0000
def aEVT_HEADL : Nat := 0xe0008
def aEVT_HEADH : Nat := 0xe000c
def aEVT_RPOSL : Nat := 0xe0010
def aEVT_RPOSH : Nat := 0xe0014
def aEVT_RSTAT : Nat := 0xe0018
def aEVT_CTRL : Nat := 0xe0020
def aEVT_CLRSTAT : Nat := 0xe0024
def aEVT_LWSEL : Nat := 0xe0030
def aEVT_LWDATA : Nat := 0xe0034
def aEVT_RDATA0 : Nat := 0xe0040
def aEVT_RDATA (i : Nat) : Nat := 0xe0044 + 0x4 * i
def aEVT_LOST (i : Nat) : Nat := 0xe0108 + 0x4 * i
def aEVT_RECCNT : Nat := 0xe0120
def aEVT_HELDCNT : Nat := 0xe0124
def aEVT_LWCNT : Nat := 0xe0128
def aEVT_PROTLOST : Nat := 0xe012c
def aEVT_SUMCNT : Nat := 0xe0130
def aEVT_ARCHCNT : Nat := 0xe0134
def aPAIR_CFG : Nat := 0xf0000
def aPAIR_STAT : Nat := 0xf0004
def aPAIR_LINK : Nat := 0xf0008
def aPAIR_PARTNER : Nat := 0xf000c
def aPAIR_DSEQ : Nat := 0xf0010
def aPAIR_TAKETL : Nat := 0xf0018
def aPAIR_TAKETH : Nat := 0xf001c
def aPAIR_RCCNT : Nat := 0xf0100
def aPAIR_DCCNT : Nat := 0xf0104
def aPAIR_CRCERR : Nat := 0xf0108
def aPAIR_MISS : Nat := 0xf010c
def aPAIR_TAKECNT : Nat := 0xf0110
def aPAIR_JOINCNT : Nat := 0xf0114
def aPAIR_RETXCNT : Nat := 0xf0118
def aPAIR_ACHKFAIL : Nat := 0xf011c
def aDOM_CFG : Nat := 0x100000
def aDOM_ID : Nat := 0x100004
def aDOM_RANGE : Nat := 0x100008
def aDOM_PORTS : Nat := 0x10000c
def aDOM_TERR : Nat := 0x100010
def aDOM_EPOCH : Nat := 0x100014
def aDOM_EPOCHCFG : Nat := 0x100018
def aDOM_ILV : Nat := 0x10001c
def aDOM_ILVROOT : Nat := 0x100020
def aDOM_SNAPCFG : Nat := 0x100024
def aDOM_CTRL : Nat := 0x100028
def aDOM_SNAPSEQ : Nat := 0x10002c
def aDOM_ALARM : Nat := 0x100030
def aDOM_ALMCNT : Nat := 0x100034
def aDOM_ALMLOW : Nat := 0x100038
def aDOM_ALERTEN : Nat := 0x10003c
def aDOM_SNAPRX : Nat := 0x100100
def aDOM_SNAPLATE : Nat := 0x100104
def aDOM_EPOCHRX : Nat := 0x100108
def aDOM_LINKDOWN : Nat := 0x10010c
def aDOM_MSGERR : Nat := 0x100110
def aACC_LEVEL : Nat := 0x110000
def aACC_SESSION : Nat := 0x110004
def aACC_AUTHSTAT : Nat := 0x110008
def aACC_CTRL : Nat := 0x11000c
def aACC_PERM : Nat := 0x110010
def aACC_SMBCFG : Nat := 0x110014
def aACC_LASTERR : Nat := 0x110018
def aACC_LASTADDR : Nat := 0x11001c
def aACC_INSTCTL : Nat := 0x110020
def aACC_INSTDATA : Nat := 0x110024
def aACC_INSTSTAT : Nat := 0x110028
def aACC_INSTCNT : Nat := 0x11002c
def aACC_AUTHOK : Nat := 0x110100
def aACC_AUTHFAIL : Nat := 0x110104
def aACC_BACKOFFCNT : Nat := 0x110108
def aACC_REFUSED : Nat := 0x11010c
def aACC_PECERR : Nat := 0x110110
def aACC_INSTALLS : Nat := 0x110114
def aPERF_CTRL : Nat := 0x120000
def aPERF_CFG : Nat := 0x120004
def aPERF_STAT : Nat := 0x120008
def aPERF_SNAPSEQ : Nat := 0x12000c
def aPERF_SNAPTL : Nat := 0x120010
def aPERF_SNAPTH : Nat := 0x120014
def aPERF_WADDR : Nat := 0x120018
def aPERF_WDATA : Nat := 0x12001c
def aPERF_RDSTAT : Nat := 0x120020
def aPERF_SNAPOVRCNT : Nat := 0x120024
def aPERF_OVF (i : Nat) : Nat := 0x124000 + 0x4 * i

def RMap.SYS_STARTCFG_WARM_RETRAIN_ALL (m : RMap) : Nat := fld (m.rd aSYS_STARTCFG) 0 0
def RMap.SYS_STARTCFG_PROBE_TRIES (m : RMap) : Nat := fld (m.rd aSYS_STARTCFG) 7 4
def RMap.SYS_STARTCFG_VIN_MIN (m : RMap) : Nat := fld (m.rd aSYS_STARTCFG) 15 8
def RMap.SYS_STARTCFG_HS_FRAC (m : RMap) : Nat := fld (m.rd aSYS_STARTCFG) 23 16
def RMap.SYS_IDLECFG_EN (m : RMap) : Nat := fld (m.rd aSYS_IDLECFG) 0 0
def RMap.SYS_IDLECFG_DWELL (m : RMap) : Nat := fld (m.rd aSYS_IDLECFG) 15 8
def RMap.SYS_IDLECFG_WAKE_EN_EN (m : RMap) : Nat := fld (m.rd aSYS_IDLECFG) 16 16
def RMap.SYS_IDLECFG_WAKE_EN_LCP (m : RMap) : Nat := fld (m.rd aSYS_IDLECFG) 17 17
def RMap.SYS_IDLECFG_WAKE_EN_MGMT (m : RMap) : Nat := fld (m.rd aSYS_IDLECFG) 18 18
def RMap.SYS_IDLECFG_WAKE_EN_GPC (m : RMap) : Nat := fld (m.rd aSYS_IDLECFG) 19 19
def RMap.SYS_IDLECFG_WAKE_EN_BUS (m : RMap) : Nat := fld (m.rd aSYS_IDLECFG) 20 20
def RMap.SYS_IDLECFG_WAKE_EN_DOM (m : RMap) : Nat := fld (m.rd aSYS_IDLECFG) 21 21
def RMap.SYS_RAILSTART_SS_SLEW (m : RMap) (i : Nat) : Nat := fld (m.rd (aSYS_RAILSTART i)) 3 0
def RMap.SYS_RAILSTART_STOP_SLEW (m : RMap) (i : Nat) : Nat := fld (m.rd (aSYS_RAILSTART i)) 7 4
def RMap.SYS_RAILSTART_ORDER (m : RMap) (i : Nat) : Nat := fld (m.rd (aSYS_RAILSTART i)) 10 8
def RMap.SYS_RAILSTART_STOP_COAST (m : RMap) (i : Nat) : Nat := fld (m.rd (aSYS_RAILSTART i)) 11 11
def RMap.SYS_RAILSTART_DELAY (m : RMap) (i : Nat) : Nat := fld (m.rd (aSYS_RAILSTART i)) 23 16
def RMap.SYS_RAILSTART_STOP_FLOOR (m : RMap) (i : Nat) : Nat := fld (m.rd (aSYS_RAILSTART i)) 31 24
def RMap.SYS_RAILTRACK_MODE (m : RMap) (i : Nat) : Nat := fld (m.rd (aSYS_RAILTRACK i)) 1 0
def RMap.SYS_RAILTRACK_SRC (m : RMap) (i : Nat) : Nat := fld (m.rd (aSYS_RAILTRACK i)) 2 2
def RMap.SYS_RAILTRACK_LEADER (m : RMap) (i : Nat) : Nat := fld (m.rd (aSYS_RAILTRACK i)) 5 3
def RMap.SYS_RAILTRACK_TRACK_FS (m : RMap) (i : Nat) : Nat := fld (m.rd (aSYS_RAILTRACK i)) 19 8
def RMap.SYS_RAILEN_ONOFF (m : RMap) (i : Nat) : Nat := fld (m.rd (aSYS_RAILEN i)) 4 0
def RMap.SYS_RAILEN_OPER (m : RMap) (i : Nat) : Nat := fld (m.rd (aSYS_RAILEN i)) 15 8
def RMap.TB_CFG_LOSS_ACTION (m : RMap) : Nat := fld (m.rd aTB_CFG) 9 9
def RMap.TB_CFG_HOLDOVER_MAX (m : RMap) : Nat := fld (m.rd aTB_CFG) 23 16
def RMap.TB_LEAD_LEAD (m : RMap) : Nat := fld (m.rd aTB_LEAD) 10 0
def RMap.TB_SYNCIO_OUT_PHASE (m : RMap) : Nat := fld (m.rd aTB_SYNCIO) 11 0
def RMap.TB_SYNCIO_OUT_EN (m : RMap) : Nat := fld (m.rd aTB_SYNCIO) 12 12
def RMap.TB_SYNCIO_IN_DLY (m : RMap) : Nat := fld (m.rd aTB_SYNCIO) 27 16
def RMap.LANE_CFG_EN (m : RMap) (i : Nat) : Nat := fld (m.rd (aLANE_CFG i)) 0 0
def RMap.LANE_CFG_LINKDLY (m : RMap) (i : Nat) : Nat := fld (m.rd (aLANE_CFG i)) 15 8
def RMap.LANE_CFG_POP (m : RMap) (i : Nat) : Nat := fld (m.rd (aLANE_CFG i)) 31 16
def RMap.LANE_GCFG_TRAIN_TRIES (m : RMap) : Nat := fld (m.rd aLANE_GCFG) 3 0
def RMap.LANE_GCFG_RETRAIN_MAX (m : RMap) : Nat := fld (m.rd aLANE_GCFG) 7 4
def RMap.LANE_CENSEL_STALL (m : RMap) : Nat := fld (m.rd aLANE_CENSEL) 8 0
def RMap.LANE_CENSEL_WORD (m : RMap) : Nat := fld (m.rd aLANE_CENSEL) 10 9
def RMap.YARD_CFG_EN (m : RMap) (i : Nat) : Nat := fld (m.rd (aYARD_CFG i)) 0 0
def RMap.YARD_CFG_AUTOPHASE (m : RMap) (i : Nat) : Nat := fld (m.rd (aYARD_CFG i)) 1 1
def RMap.YARD_CFG_PERIOD (m : RMap) (i : Nat) : Nat := fld (m.rd (aYARD_CFG i)) 17 4
def RMap.YARD_CAP_NACT (m : RMap) (i : Nat) : Nat := fld (m.rd (aYARD_CAP i)) 8 0
def RMap.YARD_CAP_MINACT (m : RMap) (i : Nat) : Nat := fld (m.rd (aYARD_CAP i)) 17 9
def RMap.YARD_CAP_MINCOND (m : RMap) (i : Nat) : Nat := fld (m.rd (aYARD_CAP i)) 26 18
def RMap.YARD_SHEDCFG_SHED_EN (m : RMap) (i : Nat) : Nat := fld (m.rd (aYARD_SHEDCFG i)) 0 0
def RMap.YARD_SHEDCFG_ISHED (m : RMap) (i : Nat) : Nat := fld (m.rd (aYARD_SHEDCFG i)) 15 8
def RMap.YARD_SHEDCFG_IADD (m : RMap) (i : Nat) : Nat := fld (m.rd (aYARD_SHEDCFG i)) 23 16
def RMap.YARD_SHEDCFG_STEP (m : RMap) (i : Nat) : Nat := fld (m.rd (aYARD_SHEDCFG i)) 31 24
def RMap.YARD_SHEDTIME_DWELL (m : RMap) (i : Nat) : Nat := fld (m.rd (aYARD_SHEDTIME i)) 7 0
def RMap.YARD_SHEDTIME_INTERVAL (m : RMap) (i : Nat) : Nat := fld (m.rd (aYARD_SHEDTIME i)) 15 8
def RMap.YARD_SHEDTIME_TAPER (m : RMap) (i : Nat) : Nat := fld (m.rd (aYARD_SHEDTIME i)) 19 16
def RMap.YARD_SEGCFG_SEG_EN (m : RMap) (i : Nat) : Nat := fld (m.rd (aYARD_SEGCFG i)) 0 0
def RMap.YARD_SEGCFG_ISEG2 (m : RMap) (i : Nat) : Nat := fld (m.rd (aYARD_SEGCFG i)) 15 8
def RMap.YARD_SEGCFG_ISEG1 (m : RMap) (i : Nat) : Nat := fld (m.rd (aYARD_SEGCFG i)) 23 16
def RMap.YARD_BALCFG_BAL_EN (m : RMap) (i : Nat) : Nat := fld (m.rd (aYARD_BALCFG i)) 0 0
def RMap.YARD_BALCFG_SHIFT (m : RMap) (i : Nat) : Nat := fld (m.rd (aYARD_BALCFG i)) 7 4
def RMap.YARD_BALCFG_TRIM_MAX (m : RMap) (i : Nat) : Nat := fld (m.rd (aYARD_BALCFG i)) 15 8
def RMap.YARD_BALCFG_KB (m : RMap) (i : Nat) : Nat := fld (m.rd (aYARD_BALCFG i)) 31 16
def RMap.YARD_WEARCFG_WGAIN (m : RMap) (i : Nat) : Nat := fld (m.rd (aYARD_WEARCFG i)) 7 0
def RMap.YARD_WEARCFG_WMIN (m : RMap) (i : Nat) : Nat := fld (m.rd (aYARD_WEARCFG i)) 15 8
def RMap.YARD_WEARCFG_EOL (m : RMap) (i : Nat) : Nat := fld (m.rd (aYARD_WEARCFG i)) 31 16
def RMap.YARD_ONLIM_ONMIN (m : RMap) (i : Nat) : Nat := fld (m.rd (aYARD_ONLIM i)) 7 0
def RMap.YARD_ONLIM_DMAX (m : RMap) (i : Nat) : Nat := fld (m.rd (aYARD_ONLIM i)) 15 8
def RMap.YARD_WEARGCFG_TREF (m : RMap) : Nat := fld (m.rd aYARD_WEARGCFG) 7 0
def RMap.YARD_WEARGCFG_FLUSH (m : RMap) : Nat := fld (m.rd aYARD_WEARGCFG) 15 8
def RMap.YARD_SPARECFG_PROBE_INT (m : RMap) : Nat := fld (m.rd aYARD_SPARECFG) 7 0
def RMap.YARD_BIND_RAIL (m : RMap) (i : Nat) : Nat := fld (m.rd (aYARD_BIND i)) 2 0
def RMap.YARD_BIND_ROLE (m : RMap) (i : Nat) : Nat := fld (m.rd (aYARD_BIND i)) 4 3
def RMap.YARD_BIND_PHASE (m : RMap) (i : Nat) : Nat := fld (m.rd (aYARD_BIND i)) 19 8
def RMap.YARD_BIND_RANK (m : RMap) (i : Nat) : Nat := fld (m.rd (aYARD_BIND i)) 28 20
def RMap.ENG_SB0_M (m : RMap) (n r : Nat) : Nat := fld (m.rd (aENG_SB0 n r)) 31 0
def RMap.ENG_SB1_M (m : RMap) (n r : Nat) : Nat := fld (m.rd (aENG_SB1 n r)) 31 0
def RMap.ENG_SB2_M (m : RMap) (n r : Nat) : Nat := fld (m.rd (aENG_SB2 n r)) 31 0
def RMap.ENG_SA1_M (m : RMap) (n r : Nat) : Nat := fld (m.rd (aENG_SA1 n r)) 31 0
def RMap.ENG_SA2_M (m : RMap) (n r : Nat) : Nat := fld (m.rd (aENG_SA2 n r)) 31 0
def RMap.ENG_SKI_M (m : RMap) (n r : Nat) : Nat := fld (m.rd (aENG_SKI n r)) 31 0
def RMap.ENG_SKFF_M (m : RMap) (n r : Nat) : Nat := fld (m.rd (aENG_SKFF n r)) 31 0
def RMap.ENG_SKVIN_M (m : RMap) (n r : Nat) : Nat := fld (m.rd (aENG_SKVIN n r)) 31 0
def RMap.ENG_SKLL_M (m : RMap) (n r : Nat) : Nat := fld (m.rd (aENG_SKLL n r)) 31 0
def RMap.ENG_SSH0_B0 (m : RMap) (n r : Nat) : Nat := fld (m.rd (aENG_SSH0 n r)) 5 0
def RMap.ENG_SSH0_B1 (m : RMap) (n r : Nat) : Nat := fld (m.rd (aENG_SSH0 n r)) 13 8
def RMap.ENG_SSH0_B2 (m : RMap) (n r : Nat) : Nat := fld (m.rd (aENG_SSH0 n r)) 21 16
def RMap.ENG_SSH0_A1 (m : RMap) (n r : Nat) : Nat := fld (m.rd (aENG_SSH0 n r)) 29 24
def RMap.ENG_SSH1_A2 (m : RMap) (n r : Nat) : Nat := fld (m.rd (aENG_SSH1 n r)) 5 0
def RMap.ENG_SSH1_KI (m : RMap) (n r : Nat) : Nat := fld (m.rd (aENG_SSH1 n r)) 13 8
def RMap.ENG_SSH1_KFF (m : RMap) (n r : Nat) : Nat := fld (m.rd (aENG_SSH1 n r)) 21 16
def RMap.ENG_SSH1_KVIN (m : RMap) (n r : Nat) : Nat := fld (m.rd (aENG_SSH1 n r)) 29 24
def RMap.ENG_SSH2_KLL (m : RMap) (n r : Nat) : Nat := fld (m.rd (aENG_SSH2 n r)) 5 0
def RMap.ENG_SIMIN_V (m : RMap) (n r : Nat) : Nat := fld (m.rd (aENG_SIMIN n r)) 31 0
def RMap.ENG_SIMAX_V (m : RMap) (n r : Nat) : Nat := fld (m.rd (aENG_SIMAX n r)) 31 0
def RMap.ENG_SVCMIN_V (m : RMap) (n r : Nat) : Nat := fld (m.rd (aENG_SVCMIN n r)) 31 0
def RMap.ENG_SVCMAX_V (m : RMap) (n r : Nat) : Nat := fld (m.rd (aENG_SVCMAX n r)) 31 0
def RMap.ENG_CFG_RATE (m : RMap) (i : Nat) : Nat := fld (m.rd (aENG_CFG i)) 11 0
def RMap.ENG_CFG_MISS_MAX (m : RMap) (i : Nat) : Nat := fld (m.rd (aENG_CFG i)) 23 16
def RMap.ENG_RSEL_SRC (m : RMap) (i : Nat) : Nat := fld (m.rd (aENG_RSEL i)) 1 0
def RMap.ENG_RSEL_FIXED (m : RMap) (i : Nat) : Nat := fld (m.rd (aENG_RSEL i)) 4 2
def RMap.ENG_RSEL_RAMPREG (m : RMap) (i : Nat) : Nat := fld (m.rd (aENG_RSEL i)) 7 5
def RMap.ENG_RSEL_RAMP_OVR (m : RMap) (i : Nat) : Nat := fld (m.rd (aENG_RSEL i)) 8 8
def RMap.ENG_RSEL_HYST (m : RMap) (i : Nat) : Nat := fld (m.rd (aENG_RSEL i)) 31 16
def RMap.ENG_BANDA_T1 (m : RMap) (i : Nat) : Nat := fld (m.rd (aENG_BANDA i)) 15 0
def RMap.ENG_BANDA_T2 (m : RMap) (i : Nat) : Nat := fld (m.rd (aENG_BANDA i)) 31 16
def RMap.ENG_BANDB_T3 (m : RMap) (i : Nat) : Nat := fld (m.rd (aENG_BANDB i)) 15 0
def RMap.ENG_BANDB_T4 (m : RMap) (i : Nat) : Nat := fld (m.rd (aENG_BANDB i)) 31 16
def RMap.ENG_BANDC_T5 (m : RMap) (i : Nat) : Nat := fld (m.rd (aENG_BANDC i)) 15 0
def RMap.ENG_BANDC_T6 (m : RMap) (i : Nat) : Nat := fld (m.rd (aENG_BANDC i)) 31 16
def RMap.ENG_BANDD_T7 (m : RMap) (i : Nat) : Nat := fld (m.rd (aENG_BANDD i)) 15 0
def RMap.ENG_HINTMAP_MAP (m : RMap) (i : Nat) : Nat := fld (m.rd (aENG_HINTMAP i)) 23 0
def RMap.ENG_LL_SLOPE (m : RMap) (i : Nat) : Nat := fld (m.rd (aENG_LL i)) 12 0
def RMap.ENG_IGAIN_GAIN (m : RMap) (i : Nat) : Nat := fld (m.rd (aENG_IGAIN i)) 15 0
def RMap.ENG_LAMECFG_PCT (m : RMap) : Nat := fld (m.rd aENG_LAMECFG) 6 0
def RMap.ENG_LAMECFG_COUNT (m : RMap) : Nat := fld (m.rd aENG_LAMECFG) 15 8
def RMap.ENG_VINNOM_VINNOM (m : RMap) : Nat := fld (m.rd aENG_VINNOM) 13 0
def RMap.LCP_PORTCFG_EN (m : RMap) (i : Nat) : Nat := fld (m.rd (aLCP_PORTCFG i)) 0 0
def RMap.LCP_PORTCFG_READMASK (m : RMap) (i : Nat) : Nat := fld (m.rd (aLCP_PORTCFG i)) 15 8
def RMap.LCP_ALERTEN_EN (m : RMap) (i : Nat) : Nat := fld (m.rd (aLCP_ALERTEN i)) 4 0
def RMap.LCP_RAILCFG_OWNER (m : RMap) (i : Nat) : Nat := fld (m.rd (aLCP_RAILCFG i)) 2 0
def RMap.LCP_RAILCFG_LCP_ENABLE (m : RMap) (i : Nat) : Nat := fld (m.rd (aLCP_RAILCFG i)) 3 3
def RMap.LCP_RAILCFG_PM_SLEW (m : RMap) (i : Nat) : Nat := fld (m.rd (aLCP_RAILCFG i)) 7 4
def RMap.LCP_RAILCFG_BOOT (m : RMap) (i : Nat) : Nat := fld (m.rd (aLCP_RAILCFG i)) 19 8
def RMap.LCP_LIM_VMIN (m : RMap) (i : Nat) : Nat := fld (m.rd (aLCP_LIM i)) 11 0
def RMap.LCP_LIM_VMAX (m : RMap) (i : Nat) : Nat := fld (m.rd (aLCP_LIM i)) 27 16
def RMap.LCP_HINT_SHEDMASK (m : RMap) (i : Nat) : Nat := fld (m.rd (aLCP_HINT i)) 15 8
def RMap.LCP_STEPCFG_UNIT (m : RMap) (i : Nat) : Nat := fld (m.rd (aLCP_STEPCFG i)) 15 0
def RMap.LCP_STEPCFG_PMAX (m : RMap) (i : Nat) : Nat := fld (m.rd (aLCP_STEPCFG i)) 23 16
def RMap.LCP_STEPCFG_PSLEW (m : RMap) (i : Nat) : Nat := fld (m.rd (aLCP_STEPCFG i)) 27 24
def RMap.LCP_STEPCFG_GRACE (m : RMap) (i : Nat) : Nat := fld (m.rd (aLCP_STEPCFG i)) 31 28
def RMap.LCP_STEPCFG2_IBAND (m : RMap) (i : Nat) : Nat := fld (m.rd (aLCP_STEPCFG2 i)) 15 0
def RMap.XNT_CFG_UV_EN (m : RMap) (i : Nat) : Nat := fld (m.rd (aXNT_CFG i)) 0 0
def RMap.XNT_CFG_OV_EN (m : RMap) (i : Nat) : Nat := fld (m.rd (aXNT_CFG i)) 1 1
def RMap.XNT_CFG_CUT_LSON (m : RMap) (i : Nat) : Nat := fld (m.rd (aXNT_CFG i)) 2 2
def RMap.XNT_CFG_INNER (m : RMap) (i : Nat) : Nat := fld (m.rd (aXNT_CFG i)) 15 8
def RMap.XNT_WIN_OVW (m : RMap) (i : Nat) : Nat := fld (m.rd (aXNT_WIN i)) 7 0
def RMap.XNT_WIN_UVW (m : RMap) (i : Nat) : Nat := fld (m.rd (aXNT_WIN i)) 15 8
def RMap.XNT_WIN_OVWT (m : RMap) (i : Nat) : Nat := fld (m.rd (aXNT_WIN i)) 23 16
def RMap.XNT_WIN_UVWT (m : RMap) (i : Nat) : Nat := fld (m.rd (aXNT_WIN i)) 31 24
def RMap.XNT_BURST_DUR (m : RMap) (i : Nat) : Nat := fld (m.rd (aXNT_BURST i)) 15 0
def RMap.XNT_BURST_MAXN (m : RMap) (i : Nat) : Nat := fld (m.rd (aXNT_BURST i)) 19 16
def RMap.XNT_CUT_DUR (m : RMap) (i : Nat) : Nat := fld (m.rd (aXNT_CUT i)) 15 0
def RMap.XNT_CUT_MAXN (m : RMap) (i : Nat) : Nat := fld (m.rd (aXNT_CUT i)) 19 16
def RMap.XNT_NLIMA_NLIM1 (m : RMap) (i : Nat) : Nat := fld (m.rd (aXNT_NLIMA i)) 7 0
def RMap.XNT_NLIMA_NLIM2 (m : RMap) (i : Nat) : Nat := fld (m.rd (aXNT_NLIMA i)) 15 8
def RMap.XNT_NLIMA_NLIM3 (m : RMap) (i : Nat) : Nat := fld (m.rd (aXNT_NLIMA i)) 23 16
def RMap.XNT_NLIMA_NLIM4 (m : RMap) (i : Nat) : Nat := fld (m.rd (aXNT_NLIMA i)) 31 24
def RMap.XNT_NLIMB_NLIM5 (m : RMap) (i : Nat) : Nat := fld (m.rd (aXNT_NLIMB i)) 7 0
def RMap.XNT_NLIMB_NLIM6 (m : RMap) (i : Nat) : Nat := fld (m.rd (aXNT_NLIMB i)) 15 8
def RMap.XNT_NLIMB_NLIM7 (m : RMap) (i : Nat) : Nat := fld (m.rd (aXNT_NLIMB i)) 23 16
def RMap.XNT_NCLASS_REGC (m : RMap) (i : Nat) : Nat := fld (m.rd (aXNT_NCLASS i)) 2 0
def RMap.XNT_NCLASS_DOWNC (m : RMap) (i : Nat) : Nat := fld (m.rd (aXNT_NCLASS i)) 6 4
def RMap.XNT_NCLASS_CUTC (m : RMap) (i : Nat) : Nat := fld (m.rd (aXNT_NCLASS i)) 10 8
def RMap.XNT_RETCFG_EN (m : RMap) : Nat := fld (m.rd aXNT_RETCFG) 0 0
def RMap.XNT_RETCFG_KNEE (m : RMap) : Nat := fld (m.rd aXNT_RETCFG) 7 4
def RMap.XNT_RETCFG_EMAX (m : RMap) : Nat := fld (m.rd aXNT_RETCFG) 31 16
def RMap.XNT_RETCFG2_DRAIN (m : RMap) : Nat := fld (m.rd aXNT_RETCFG2) 15 0
def RMap.PROT_OC_SHARE (m : RMap) (i : Nat) : Nat := fld (m.rd (aPROT_OC i)) 7 0
def RMap.PROT_OC_NLIMP (m : RMap) (i : Nat) : Nat := fld (m.rd (aPROT_OC i)) 15 8
def RMap.PROT_OC_ILIM (m : RMap) (i : Nat) : Nat := fld (m.rd (aPROT_OC i)) 23 16
def RMap.PROT_HIC_TIME (m : RMap) (i : Nat) : Nat := fld (m.rd (aPROT_HIC i)) 10 0
def RMap.PROT_HIC_RETRY_MAX (m : RMap) (i : Nat) : Nat := fld (m.rd (aPROT_HIC i)) 15 12
def RMap.PROT_OV_OVF (m : RMap) (i : Nat) : Nat := fld (m.rd (aPROT_OV i)) 7 0
def RMap.PROT_OV_OVN (m : RMap) (i : Nat) : Nat := fld (m.rd (aPROT_OV i)) 11 8
def RMap.PROT_OV_LATCH (m : RMap) (i : Nat) : Nat := fld (m.rd (aPROT_OV i)) 12 12
def RMap.PROT_OV_OVABS (m : RMap) (i : Nat) : Nat := fld (m.rd (aPROT_OV i)) 27 16
def RMap.PROT_OV_NCUT (m : RMap) (i : Nat) : Nat := fld (m.rd (aPROT_OV i)) 31 28
def RMap.PROT_UV_UVF (m : RMap) (i : Nat) : Nat := fld (m.rd (aPROT_UV i)) 7 0
def RMap.PROT_UV_UVN (m : RMap) (i : Nat) : Nat := fld (m.rd (aPROT_UV i)) 15 8
def RMap.PROT_UV_UV_EN (m : RMap) (i : Nat) : Nat := fld (m.rd (aPROT_UV i)) 16 16
def RMap.PROT_OT_WARN (m : RMap) (i : Nat) : Nat := fld (m.rd (aPROT_OT i)) 7 0
def RMap.PROT_OT_STAGE (m : RMap) (i : Nat) : Nat := fld (m.rd (aPROT_OT i)) 15 8
def RMap.PROT_OT_RAILOT (m : RMap) (i : Nat) : Nat := fld (m.rd (aPROT_OT i)) 23 16
def RMap.PROT_OT_OTREL (m : RMap) (i : Nat) : Nat := fld (m.rd (aPROT_OT i)) 27 24
def RMap.PROT_OT_OTN (m : RMap) (i : Nat) : Nat := fld (m.rd (aPROT_OT i)) 31 28
def RMap.PROT_PG_PGWIN (m : RMap) (i : Nat) : Nat := fld (m.rd (aPROT_PG i)) 7 0
def RMap.PROT_PG_PGN (m : RMap) (i : Nat) : Nat := fld (m.rd (aPROT_PG i)) 11 8
def RMap.PROT_PG_PGDLY (m : RMap) (i : Nat) : Nat := fld (m.rd (aPROT_PG i)) 23 16
def RMap.PROT_GCFG_FLT_HIC (m : RMap) : Nat := fld (m.rd aPROT_GCFG) 0 0
def RMap.PROT_GCFG_FLT_LAT (m : RMap) : Nat := fld (m.rd aPROT_GCFG) 1 1
def RMap.PROT_GCFG_LF_EVERY (m : RMap) : Nat := fld (m.rd aPROT_GCFG) 2 2
def RMap.PROT_GCFG_OTHER_FAIL (m : RMap) : Nat := fld (m.rd aPROT_GCFG) 3 3
def RMap.PROT_FAULTSRC_MASK (m : RMap) : Nat := fld (m.rd aPROT_FAULTSRC) 26 0
def RMap.PROT_ALERTEN_MASK (m : RMap) : Nat := fld (m.rd aPROT_ALERTEN) 26 0
def RMap.PROT_CAPEN_MASK (m : RMap) : Nat := fld (m.rd aPROT_CAPEN) 26 0
def RMap.PROT_GPC_THR (m : RMap) (i : Nat) : Nat := fld (m.rd (aPROT_GPC i)) 9 0
def RMap.PROT_GPC_POL (m : RMap) (i : Nat) : Nat := fld (m.rd (aPROT_GPC i)) 10 10
def RMap.PROT_GPC_ACTION (m : RMap) (i : Nat) : Nat := fld (m.rd (aPROT_GPC i)) 12 11
def RMap.PROT_GPC_RAILMASK (m : RMap) (i : Nat) : Nat := fld (m.rd (aPROT_GPC i)) 23 16
def RMap.PROT_GPC_TIME (m : RMap) (i : Nat) : Nat := fld (m.rd (aPROT_GPC i)) 31 24
def RMap.HSW_CFG_RSHUNT (m : RMap) : Nat := fld (m.rd aHSW_CFG) 13 0
def RMap.HSW_CFG_SLEW (m : RMap) : Nat := fld (m.rd aHSW_CFG) 21 14
def RMap.HSW_CFG_TMAX (m : RMap) : Nat := fld (m.rd aHSW_CFG) 29 22
def RMap.HSW_LIM_ISTART (m : RMap) : Nat := fld (m.rd aHSW_LIM) 11 0
def RMap.HSW_LIM_IRUN (m : RMap) : Nat := fld (m.rd aHSW_LIM) 23 12
def RMap.HSW_LIM2_ISEVERE (m : RMap) : Nat := fld (m.rd aHSW_LIM2) 11 0
def RMap.HSW_LIM2_PLIM (m : RMap) : Nat := fld (m.rd aHSW_LIM2) 27 16
def RMap.HSW_BUDGET_EBUDGET (m : RMap) : Nat := fld (m.rd aHSW_BUDGET) 15 0
def RMap.HSW_BUDGET_COOL (m : RMap) : Nat := fld (m.rd aHSW_BUDGET) 31 16
def RMap.HSW_RETRY_TIME (m : RMap) : Nat := fld (m.rd aHSW_RETRY) 15 0
def RMap.HSW_RETRY_RETRY_MAX (m : RMap) : Nat := fld (m.rd aHSW_RETRY) 19 16
def RMap.HSW_RETRY_LATCH_PERSIST (m : RMap) : Nat := fld (m.rd aHSW_RETRY) 20 20
def RMap.HSW_BUSCMP_OVTHR (m : RMap) : Nat := fld (m.rd aHSW_BUSCMP) 9 0
def RMap.HSW_BUSCMP_UVTHR (m : RMap) : Nat := fld (m.rd aHSW_BUSCMP) 19 10
def RMap.HSW_BUSCMP_OV_OFF (m : RMap) : Nat := fld (m.rd aHSW_BUSCMP) 20 20
def RMap.HSW_BUSCMP_OVTIME (m : RMap) : Nat := fld (m.rd aHSW_BUSCMP) 31 24
def RMap.HSW_BLEED_EN (m : RMap) : Nat := fld (m.rd aHSW_BLEED) 0 0
def RMap.HSW_BLEED_ON_UV (m : RMap) : Nat := fld (m.rd aHSW_BLEED) 1 1
def RMap.HSW_BLEED_CBULK (m : RMap) : Nat := fld (m.rd aHSW_BLEED) 15 4
def RMap.HSW_BLEED_ESAFE (m : RMap) : Nat := fld (m.rd aHSW_BLEED) 23 16
def RMap.HSW_BLEED_TSAFE (m : RMap) : Nat := fld (m.rd aHSW_BLEED) 31 24
def RMap.HSW_IBCFG_IBOV (m : RMap) : Nat := fld (m.rd aHSW_IBCFG) 7 0
def RMap.MEAS_SARCFG_LP (m : RMap) : Nat := fld (m.rd aMEAS_SARCFG) 0 0
def RMap.MEAS_SARCFG_EDGE (m : RMap) : Nat := fld (m.rd aMEAS_SARCFG) 2 1
def RMap.MEAS_SARCFG_DOMTRIG (m : RMap) : Nat := fld (m.rd aMEAS_SARCFG) 3 3
def RMap.MEAS_SARCFG_SWTRIG (m : RMap) : Nat := fld (m.rd aMEAS_SARCFG) 4 4
def RMap.MEAS_CHKCFG_INT (m : RMap) : Nat := fld (m.rd aMEAS_CHKCFG) 7 0
def RMap.MEAS_CHKCFG_TOL (m : RMap) : Nat := fld (m.rd aMEAS_CHKCFG) 15 8
def RMap.MEAS_INCFG_IRATED (m : RMap) : Nat := fld (m.rd aMEAS_INCFG) 15 0
def RMap.MEAS_INCFG_FLUSH (m : RMap) : Nat := fld (m.rd aMEAS_INCFG) 23 16
def RMap.LOFT_PROT_BP (m : RMap) : Nat := fld (m.rd aLOFT_PROT) 1 0
def RMap.LOFT_CFG_OPFLUSH (m : RMap) : Nat := fld (m.rd aLOFT_CFG) 7 0
def RMap.LOFT_RADDR_ADDR (m : RMap) : Nat := fld (m.rd aLOFT_RADDR) 25 2
def RMap.LOFT_WADDR_ADDR (m : RMap) : Nat := fld (m.rd aLOFT_WADDR) 25 2
def RMap.EVT_RPOSL_POS (m : RMap) : Nat := fld (m.rd aEVT_RPOSL) 31 0
def RMap.EVT_RPOSH_POS (m : RMap) : Nat := fld (m.rd aEVT_RPOSH) 15 0
def RMap.EVT_LWSEL_LATCH (m : RMap) : Nat := fld (m.rd aEVT_LWSEL) 2 0
def RMap.EVT_LWSEL_WORD (m : RMap) : Nat := fld (m.rd aEVT_LWSEL) 6 3
def RMap.PAIR_CFG_TAKE_EN (m : RMap) : Nat := fld (m.rd aPAIR_CFG) 0 0
def RMap.PAIR_CFG_OWN_MOVE (m : RMap) : Nat := fld (m.rd aPAIR_CFG) 1 1
def RMap.PAIR_CFG_NEG_WAIT (m : RMap) : Nat := fld (m.rd aPAIR_CFG) 15 8
def RMap.PAIR_CFG_FLTN (m : RMap) : Nat := fld (m.rd aPAIR_CFG) 23 16
def RMap.PAIR_CFG_ACHK (m : RMap) : Nat := fld (m.rd aPAIR_CFG) 31 24
def RMap.DOM_CFG_MODE (m : RMap) : Nat := fld (m.rd aDOM_CFG) 1 0
def RMap.DOM_CFG_SETTLE (m : RMap) : Nat := fld (m.rd aDOM_CFG) 15 8
def RMap.DOM_CFG_FIXID (m : RMap) : Nat := fld (m.rd aDOM_CFG) 31 16
def RMap.DOM_EPOCHCFG_LEN (m : RMap) : Nat := fld (m.rd aDOM_EPOCHCFG) 15 0
def RMap.DOM_ILV_GROUP (m : RMap) : Nat := fld (m.rd aDOM_ILV) 7 0
def RMap.DOM_ILVROOT_QUANT (m : RMap) : Nat := fld (m.rd aDOM_ILVROOT) 11 0
def RMap.DOM_SNAPCFG_PERIOD (m : RMap) : Nat := fld (m.rd aDOM_SNAPCFG) 15 0
def RMap.DOM_SNAPCFG_LEAD (m : RMap) : Nat := fld (m.rd aDOM_SNAPCFG) 23 16
def RMap.DOM_SNAPCFG_SRC (m : RMap) : Nat := fld (m.rd aDOM_SNAPCFG) 25 24
def RMap.DOM_ALERTEN_MASK (m : RMap) : Nat := fld (m.rd aDOM_ALERTEN) 9 0
def RMap.ACC_PERM_PERF (m : RMap) : Nat := fld (m.rd aACC_PERM) 0 0
def RMap.ACC_SMBCFG_ADDR (m : RMap) : Nat := fld (m.rd aACC_SMBCFG) 6 0
def RMap.ACC_SMBCFG_PEC_REQ (m : RMap) : Nat := fld (m.rd aACC_SMBCFG) 8 8
def RMap.ACC_SMBCFG_CML_ALERT (m : RMap) : Nat := fld (m.rd aACC_SMBCFG) 9 9
def RMap.ACC_SMBCFG_AUTOINC (m : RMap) : Nat := fld (m.rd aACC_SMBCFG) 10 10
def RMap.PERF_CFG_TRIGSNAP (m : RMap) : Nat := fld (m.rd aPERF_CFG) 0 0
def RMap.PERF_WADDR_ADDR (m : RMap) : Nat := fld (m.rd aPERF_WADDR) 23 0
def RMap.PERF_WDATA_DATA (m : RMap) : Nat := fld (m.rd aPERF_WDATA) 31 0

end Sys2Proof.Machine
end

