-- ==== Sys2Proof/Machine/RegTable.lean ====
section
/-! DEFINITION. The register table of spec/: for every register its addresses and, per R8 and R9, which of its bits
are written by which class, which are W1C or WO, which the image loads (IMG), and which registers are counters (R323)
or upper words of wide values (R318). Written from the register tables of the chapters and 15_register_index.md (R452). -/

namespace Sys2Proof.Machine

/-- What a read of a register does: an ordinary one, a counter of the central reader (R323, R324), or an upper word
of a value wider than 32 bits (R318). -/
inductive RegKind where
  | plain | counter | wideHigh
deriving DecidableEq, Repr

/-- One row of the register index: `cnt` registers `stride` apart, each repeated `cnt2` times `stride2` apart,
and the masks of its RW bits by class (R9), its W1C, WO and IMG bits (R8, R10). -/
structure RegDesc where
  base : Nat
  stride : Nat
  cnt : Nat
  stride2 : Nat
  cnt2 : Nat
  live : Nat
  sample : Nat
  period : Nat
  epoch : Nat
  commit : Nat
  start : Nat
  w1c : Nat
  wo : Nat
  img : Nat
  kind : RegKind
deriving DecidableEq, Repr

/-- The SYS registers. -/
def regTableSys : List RegDesc := [
  ⟨0x10, 0x0, 1, 0x0, 1, 0x0, 0x0, 0x0, 0x0, 0x0, 0x0, 0x800, 0x0, 0x0, .plain⟩,  -- SYS_STATE R28
  ⟨0x20, 0x4, 8, 0x0, 1, 0x0, 0x0, 0x0, 0x0, 0x0, 0x0, 0x0, 0x0, 0x0, .plain⟩,  -- SYS_RAILSTATE R29
  ⟨0x40, 0x0, 1, 0x0, 1, 0x0, 0x0, 0x0, 0x0, 0x0, 0xfffff1, 0x0, 0x0, 0xfffff1, .plain⟩,  -- SYS_STARTCFG R65
  ⟨0x44, 0x0, 1, 0x0, 1, 0x0, 0x0, 0x0, 0x0, 0x0, 0x0, 0x0, 0x0, 0x0, .plain⟩,  -- SYS_STARTLOG R66
  ⟨0x48, 0x0, 1, 0x0, 1, 0x0, 0x0, 0x0, 0x0, 0x0, 0x0, 0x0, 0x0, 0xffffffff, .plain⟩,  -- SYS_IMAGESEQ R67
  ⟨0x4c, 0x0, 1, 0x0, 1, 0x3fff01, 0x0, 0x0, 0x0, 0x0, 0x0, 0x0, 0x0, 0x3fff01, .plain⟩,  -- SYS_IDLECFG R68
  ⟨0x50, 0x0, 1, 0x0, 1, 0x0, 0x0, 0x0, 0x0, 0x0, 0x0, 0x7f, 0x0, 0x0, .plain⟩,  -- SYS_WAKE R69
  ⟨0x60, 0x4, 8, 0x0, 1, 0x0, 0x0, 0x0, 0x0, 0x0, 0xffff0fff, 0x0, 0x0, 0xffff0fff, .plain⟩,  -- SYS_RAILSTART R70
  ⟨0x80, 0x4, 8, 0x0, 1, 0x0, 0x0, 0x0, 0x0, 0x0, 0xfff3f, 0x0, 0x0, 0xfff3f, .plain⟩,  -- SYS_RAILTRACK R71
  ⟨0xa0, 0x4, 8, 0x0, 1, 0xff1f, 0x0, 0x0, 0x0, 0x0, 0x0, 0x0, 0x0, 0x1f, .plain⟩,  -- SYS_RAILEN R449
  ⟨0x100, 0x0, 1, 0x0, 1, 0x0, 0x0, 0x0, 0x0, 0x0, 0x0, 0x0, 0x1, 0x0, .plain⟩,  -- SYS_CTRL R449
  ⟨0x104, 0x0, 1, 0x0, 1, 0x0, 0x0, 0x0, 0x0, 0x0, 0x0, 0x0, 0x7ff, 0x0, .plain⟩,  -- SYS_GCOMMIT R449
  ⟨0x108, 0x0, 1, 0x0, 1, 0x0, 0x0, 0x0, 0x0, 0x0, 0x0, 0x0, 0x0, 0x0, .plain⟩ ]  -- SYS_GCSTAT R449

/-- The TB registers. -/
def regTableTb : List RegDesc := [
  ⟨0x10000, 0x0, 1, 0x0, 1, 0xff0200, 0x0, 0x0, 0x0, 0x0, 0x0, 0x0, 0x0, 0xff0200, .plain⟩,  -- TB_CFG R111
  ⟨0x10004, 0x0, 1, 0x0, 1, 0x0, 0x0, 0x0, 0x0, 0x0, 0x0, 0x10, 0x0, 0x0, .plain⟩,  -- TB_STATUS R112
  ⟨0x10008, 0x0, 1, 0x0, 1, 0x0, 0x0, 0x0, 0x0, 0x0, 0x0, 0x0, 0x0, 0x0, .plain⟩,  -- TB_NOWL R113
  ⟨0x1000c, 0x0, 1, 0x0, 1, 0x0, 0x0, 0x0, 0x0, 0x0, 0x0, 0x0, 0x0, 0x0, .wideHigh⟩,  -- TB_NOWH R113
  ⟨0x10010, 0x0, 1, 0x0, 1, 0x0, 0x0, 0x0, 0x0, 0x0, 0x7ff, 0x0, 0x0, 0x7ff, .plain⟩,  -- TB_LEAD R114
  ⟨0x10014, 0x0, 1, 0x0, 1, 0x0, 0x0, 0x0, 0x0, 0x0, 0xfff1fff, 0x0, 0x0, 0xfff1fff, .plain⟩ ]  -- TB_SYNCIO R115

/-- The LANE registers. -/
def regTableLane : List RegDesc := [
  ⟨0x20000, 0x40, 32, 0x0, 1, 0x0, 0x0, 0x0, 0x0, 0x0, 0xffffff01, 0x0, 0x0, 0xffffff01, .plain⟩,  -- LANE_CFG R116
  ⟨0x20004, 0x40, 32, 0x0, 1, 0x0, 0x0, 0x0, 0x0, 0x0, 0x0, 0x0, 0x0, 0x0, .plain⟩,  -- LANE_STATE R116
  ⟨0x20008, 0x40, 32, 0x0, 1, 0x0, 0x0, 0x0, 0x0, 0x0, 0x0, 0x0, 0x0, 0x0, .plain⟩,  -- LANE_RT R116
  ⟨0x2000c, 0x40, 32, 0x0, 1, 0x0, 0x0, 0x0, 0x0, 0x0, 0x0, 0x0, 0x0, 0x0, .plain⟩,  -- LANE_AUTH R116
  ⟨0x20010, 0x40, 32, 0x0, 1, 0x0, 0x0, 0x0, 0x0, 0x0, 0x0, 0x0, 0x0, 0x0, .counter⟩,  -- LANE_TXFR R116
  ⟨0x20014, 0x40, 32, 0x0, 1, 0x0, 0x0, 0x0, 0x0, 0x0, 0x0, 0x0, 0x0, 0x0, .counter⟩,  -- LANE_RXFR R116
  ⟨0x20018, 0x40, 32, 0x0, 1, 0x0, 0x0, 0x0, 0x0, 0x0, 0x0, 0x0, 0x0, 0x0, .counter⟩,  -- LANE_CRCERR R116
  ⟨0x2001c, 0x40, 32, 0x0, 1, 0x0, 0x0, 0x0, 0x0, 0x0, 0x0, 0x0, 0x0, 0x0, .counter⟩,  -- LANE_RETERR R116
  ⟨0x20020, 0x40, 32, 0x0, 1, 0x0, 0x0, 0x0, 0x0, 0x0, 0x0, 0x0, 0x0, 0x0, .counter⟩,  -- LANE_EDGEDROP R116
  ⟨0x20024, 0x40, 32, 0x0, 1, 0x0, 0x0, 0x0, 0x0, 0x0, 0x0, 0x0, 0x0, 0x0, .counter⟩,  -- LANE_DOWNCNT R116
  ⟨0x21000, 0x0, 1, 0x0, 1, 0xf0, 0x0, 0x0, 0x0, 0x0, 0xf, 0x0, 0x0, 0xff, .plain⟩,  -- LANE_GCFG R117
  ⟨0x21004, 0x0, 1, 0x0, 1, 0x0, 0x0, 0x0, 0x0, 0x0, 0x0, 0x0, 0x0, 0x0, .plain⟩,  -- LANE_RETIREDMAP R117
  ⟨0x21008, 0x0, 1, 0x0, 1, 0x0, 0x0, 0x0, 0x0, 0x0, 0x0, 0x0, 0x0, 0x0, .plain⟩,  -- LANE_DOWNMAP R117
  ⟨0x21010, 0x0, 1, 0x0, 1, 0x7ff, 0x0, 0x0, 0x0, 0x0, 0x0, 0x0, 0x0, 0x0, .plain⟩,  -- LANE_CENSEL R117
  ⟨0x21014, 0x0, 1, 0x0, 1, 0x0, 0x0, 0x0, 0x0, 0x0, 0x0, 0x0, 0x0, 0x0, .plain⟩ ]  -- LANE_CENDATA R117

/-- The YARD registers. -/
def regTableYard : List RegDesc := [
  ⟨0x40000, 0x100, 8, 0x0, 1, 0x0, 0x0, 0x0, 0x0, 0x3fff2, 0x1, 0x0, 0x0, 0x3fff3, .plain⟩,  -- YARD_CFG R147
  ⟨0x40004, 0x100, 8, 0x0, 1, 0x7fc0000, 0x0, 0x0, 0x3fe00, 0x1ff, 0x0, 0x0, 0x0, 0x7ffffff, .plain⟩,  -- YARD_CAP R147
  ⟨0x40008, 0x100, 8, 0x0, 1, 0xffffff01, 0x0, 0x0, 0x0, 0x0, 0x0, 0x0, 0x0, 0xffffff01, .plain⟩,  -- YARD_SHEDCFG R147
  ⟨0x4000c, 0x100, 8, 0x0, 1, 0xfffff, 0x0, 0x0, 0x0, 0x0, 0x0, 0x0, 0x0, 0xfffff, .plain⟩,  -- YARD_SHEDTIME R147
  ⟨0x40010, 0x100, 8, 0x0, 1, 0xffff01, 0x0, 0x0, 0x0, 0x0, 0x0, 0x0, 0x0, 0xffff01, .plain⟩,  -- YARD_SEGCFG R147
  ⟨0x40014, 0x100, 8, 0x0, 1, 0xfffffff1, 0x0, 0x0, 0x0, 0x0, 0x0, 0x0, 0x0, 0xfffffff1, .plain⟩,  -- YARD_BALCFG R147
  ⟨0x40018, 0x100, 8, 0x0, 1, 0xffffffff, 0x0, 0x0, 0x0, 0x0, 0x0, 0x0, 0x0, 0xffffffff, .plain⟩,  -- YARD_WEARCFG R147
  ⟨0x4001c, 0x100, 8, 0x0, 1, 0x0, 0x0, 0xffff, 0x0, 0x0, 0x0, 0x0, 0x0, 0xffff, .plain⟩,  -- YARD_ONLIM R147
  ⟨0x40020, 0x100, 8, 0x0, 1, 0x0, 0x0, 0x0, 0x0, 0x0, 0x0, 0x60000000, 0x0, 0x0, .plain⟩,  -- YARD_COUNT R147
  ⟨0x40024, 0x100, 8, 0x0, 1, 0x0, 0x0, 0x0, 0x0, 0x0, 0x0, 0x0, 0x0, 0x0, .plain⟩,  -- YARD_EPOCH R147
  ⟨0x40028, 0x100, 8, 0x0, 1, 0x0, 0x0, 0x0, 0x0, 0x0, 0x0, 0x0, 0x0, 0x0, .plain⟩,  -- YARD_PEND R147
  ⟨0x4002c, 0x100, 8, 0x0, 1, 0x0, 0x0, 0x0, 0x0, 0x0, 0x0, 0x0, 0x0, 0x0, .plain⟩,  -- YARD_GRPSTAT R147
  ⟨0x40040, 0x100, 8, 0x0, 1, 0x0, 0x0, 0x0, 0x0, 0x0, 0x0, 0x0, 0x0, 0x0, .counter⟩,  -- YARD_SHEDCNT R148
  ⟨0x40044, 0x100, 8, 0x0, 1, 0x0, 0x0, 0x0, 0x0, 0x0, 0x0, 0x0, 0x0, 0x0, .counter⟩,  -- YARD_ADDCNT R148
  ⟨0x40048, 0x100, 8, 0x0, 1, 0x0, 0x0, 0x0, 0x0, 0x0, 0x0, 0x0, 0x0, 0x0, .counter⟩,  -- YARD_ABANDON R148
  ⟨0x4004c, 0x100, 8, 0x0, 1, 0x0, 0x0, 0x0, 0x0, 0x0, 0x0, 0x0, 0x0, 0x0, .counter⟩,  -- YARD_REPLACE R148
  ⟨0x40050, 0x100, 8, 0x0, 1, 0x0, 0x0, 0x0, 0x0, 0x0, 0x0, 0x0, 0x0, 0x0, .counter⟩,  -- YARD_RETIRE R148
  ⟨0x40054, 0x100, 8, 0x0, 1, 0x0, 0x0, 0x0, 0x0, 0x0, 0x0, 0x0, 0x0, 0x0, .counter⟩,  -- YARD_BALMISS R148
  ⟨0x40058, 0x100, 8, 0x0, 1, 0x0, 0x0, 0x0, 0x0, 0x0, 0x0, 0x0, 0x0, 0x0, .counter⟩,  -- YARD_FAILCNT R148
  ⟨0x41000, 0x0, 1, 0x0, 1, 0xffff, 0x0, 0x0, 0x0, 0x0, 0x0, 0x0, 0x0, 0xffff, .plain⟩,  -- YARD_WEARGCFG R149
  ⟨0x41004, 0x0, 1, 0x0, 1, 0x0, 0x0, 0x0, 0x0, 0x0, 0x0, 0x0, 0x0, 0x0, .plain⟩,  -- YARD_BALUNIT R149
  ⟨0x41008, 0x0, 1, 0x0, 1, 0xff, 0x0, 0x0, 0x0, 0x0, 0x0, 0x0, 0x0, 0xff, .plain⟩,  -- YARD_SPARECFG R149
  ⟨0x48000, 0x10, 512, 0x0, 1, 0x0, 0x0, 0x0, 0x0, 0x1fffff1f, 0x0, 0x0, 0x0, 0x1fffff1f, .plain⟩,  -- YARD_BIND R150
  ⟨0x48004, 0x10, 512, 0x0, 1, 0x0, 0x0, 0x0, 0x0, 0x0, 0x0, 0x0, 0x0, 0x0, .plain⟩,  -- YARD_SSTATE R150
  ⟨0x48008, 0x10, 512, 0x0, 1, 0x0, 0x0, 0x0, 0x0, 0x0, 0x0, 0x0, 0x0, 0x0, .plain⟩,  -- YARD_TRIM R150
  ⟨0x4800c, 0x10, 512, 0x0, 1, 0x0, 0x0, 0x0, 0x0, 0x0, 0x0, 0x0, 0x0, 0x0, .plain⟩ ]  -- YARD_WEAR R150

/-- The ENG registers. -/
def regTableEng0 : List RegDesc := [
  ⟨0x60000, 0x800, 8, 0x80, 8, 0x0, 0x0, 0x0, 0x0, 0x0, 0x0, 0x0, 0x0, 0xffffffff, .plain⟩,  -- ENG_AB0 R181
  ⟨0x60004, 0x800, 8, 0x80, 8, 0x0, 0x0, 0x0, 0x0, 0x0, 0x0, 0x0, 0x0, 0xffffffff, .plain⟩,  -- ENG_AB1 R181
  ⟨0x60008, 0x800, 8, 0x80, 8, 0x0, 0x0, 0x0, 0x0, 0x0, 0x0, 0x0, 0x0, 0xffffffff, .plain⟩,  -- ENG_AB2 R181
  ⟨0x6000c, 0x800, 8, 0x80, 8, 0x0, 0x0, 0x0, 0x0, 0x0, 0x0, 0x0, 0x0, 0xffffffff, .plain⟩,  -- ENG_AA1 R181
  ⟨0x60010, 0x800, 8, 0x80, 8, 0x0, 0x0, 0x0, 0x0, 0x0, 0x0, 0x0, 0x0, 0xffffffff, .plain⟩,  -- ENG_AA2 R181
  ⟨0x60014, 0x800, 8, 0x80, 8, 0x0, 0x0, 0x0, 0x0, 0x0, 0x0, 0x0, 0x0, 0xffffffff, .plain⟩,  -- ENG_AKI R181
  ⟨0x60018, 0x800, 8, 0x80, 8, 0x0, 0x0, 0x0, 0x0, 0x0, 0x0, 0x0, 0x0, 0xffffffff, .plain⟩,  -- ENG_AKFF R181
  ⟨0x6001c, 0x800, 8, 0x80, 8, 0x0, 0x0, 0x0, 0x0, 0x0, 0x0, 0x0, 0x0, 0xffffffff, .plain⟩,  -- ENG_AKVIN R181
  ⟨0x60020, 0x800, 8, 0x80, 8, 0x0, 0x0, 0x0, 0x0, 0x0, 0x0, 0x0, 0x0, 0xffffffff, .plain⟩,  -- ENG_AKLL R181
  ⟨0x60024, 0x800, 8, 0x80, 8, 0x0, 0x0, 0x0, 0x0, 0x0, 0x0, 0x0, 0x0, 0x3f3f3f3f, .plain⟩,  -- ENG_ASH0 R181
  ⟨0x60028, 0x800, 8, 0x80, 8, 0x0, 0x0, 0x0, 0x0, 0x0, 0x0, 0x0, 0x0, 0x3f3f3f3f, .plain⟩,  -- ENG_ASH1 R181
  ⟨0x6002c, 0x800, 8, 0x80, 8, 0x0, 0x0, 0x0, 0x0, 0x0, 0x0, 0x0, 0x0, 0x3f, .plain⟩,  -- ENG_ASH2 R181
  ⟨0x60030, 0x800, 8, 0x80, 8, 0x0, 0x0, 0x0, 0x0, 0x0, 0x0, 0x0, 0x0, 0xffffffff, .plain⟩,  -- ENG_AIMIN R181
  ⟨0x60034, 0x800, 8, 0x80, 8, 0x0, 0x0, 0x0, 0x0, 0x0, 0x0, 0x0, 0x0, 0xffffffff, .plain⟩,  -- ENG_AIMAX R181
  ⟨0x60038, 0x800, 8, 0x80, 8, 0x0, 0x0, 0x0, 0x0, 0x0, 0x0, 0x0, 0x0, 0xffffffff, .plain⟩,  -- ENG_AVCMIN R181
  ⟨0x6003c, 0x800, 8, 0x80, 8, 0x0, 0x0, 0x0, 0x0, 0x0, 0x0, 0x0, 0x0, 0xffffffff, .plain⟩,  -- ENG_AVCMAX R181
  ⟨0x60040, 0x800, 8, 0x80, 8, 0x0, 0x0, 0x0, 0x0, 0xffffffff, 0x0, 0x0, 0x0, 0xffffffff, .plain⟩,  -- ENG_SB0 R181
  ⟨0x60044, 0x800, 8, 0x80, 8, 0x0, 0x0, 0x0, 0x0, 0xffffffff, 0x0, 0x0, 0x0, 0xffffffff, .plain⟩,  -- ENG_SB1 R181
  ⟨0x60048, 0x800, 8, 0x80, 8, 0x0, 0x0, 0x0, 0x0, 0xffffffff, 0x0, 0x0, 0x0, 0xffffffff, .plain⟩,  -- ENG_SB2 R181
  ⟨0x6004c, 0x800, 8, 0x80, 8, 0x0, 0x0, 0x0, 0x0, 0xffffffff, 0x0, 0x0, 0x0, 0xffffffff, .plain⟩,  -- ENG_SA1 R181
  ⟨0x60050, 0x800, 8, 0x80, 8, 0x0, 0x0, 0x0, 0x0, 0xffffffff, 0x0, 0x0, 0x0, 0xffffffff, .plain⟩,  -- ENG_SA2 R181
  ⟨0x60054, 0x800, 8, 0x80, 8, 0x0, 0x0, 0x0, 0x0, 0xffffffff, 0x0, 0x0, 0x0, 0xffffffff, .plain⟩,  -- ENG_SKI R181
  ⟨0x60058, 0x800, 8, 0x80, 8, 0x0, 0x0, 0x0, 0x0, 0xffffffff, 0x0, 0x0, 0x0, 0xffffffff, .plain⟩,  -- ENG_SKFF R181
  ⟨0x6005c, 0x800, 8, 0x80, 8, 0x0, 0x0, 0x0, 0x0, 0xffffffff, 0x0, 0x0, 0x0, 0xffffffff, .plain⟩,  -- ENG_SKVIN R181
  ⟨0x60060, 0x800, 8, 0x80, 8, 0x0, 0x0, 0x0, 0x0, 0xffffffff, 0x0, 0x0, 0x0, 0xffffffff, .plain⟩,  -- ENG_SKLL R181
  ⟨0x60064, 0x800, 8, 0x80, 8, 0x0, 0x0, 0x0, 0x0, 0x3f3f3f3f, 0x0, 0x0, 0x0, 0x3f3f3f3f, .plain⟩,  -- ENG_SSH0 R181
  ⟨0x60068, 0x800, 8, 0x80, 8, 0x0, 0x0, 0x0, 0x0, 0x3f3f3f3f, 0x0, 0x0, 0x0, 0x3f3f3f3f, .plain⟩,  -- ENG_SSH1 R181
  ⟨0x6006c, 0x800, 8, 0x80, 8, 0x0, 0x0, 0x0, 0x0, 0x3f, 0x0, 0x0, 0x0, 0x3f, .plain⟩,  -- ENG_SSH2 R181
  ⟨0x60070, 0x800, 8, 0x80, 8, 0x0, 0x0, 0x0, 0x0, 0xffffffff, 0x0, 0x0, 0x0, 0xffffffff, .plain⟩,  -- ENG_SIMIN R181
  ⟨0x60074, 0x800, 8, 0x80, 8, 0x0, 0x0, 0x0, 0x0, 0xffffffff, 0x0, 0x0, 0x0, 0xffffffff, .plain⟩,  -- ENG_SIMAX R181
  ⟨0x60078, 0x800, 8, 0x80, 8, 0x0, 0x0, 0x0, 0x0, 0xffffffff, 0x0, 0x0, 0x0, 0xffffffff, .plain⟩,  -- ENG_SVCMIN R181
  ⟨0x6007c, 0x800, 8, 0x80, 8, 0x0, 0x0, 0x0, 0x0, 0xffffffff, 0x0, 0x0, 0x0, 0xffffffff, .plain⟩,  -- ENG_SVCMAX R181
  ⟨0x60400, 0x800, 8, 0x0, 1, 0xff0000, 0x0, 0x0, 0x0, 0x0, 0xfff, 0x0, 0x0, 0xff0fff, .plain⟩,  -- ENG_CFG R180
  ⟨0x60404, 0x800, 8, 0x0, 1, 0x0, 0x0, 0x0, 0x0, 0xffff01ff, 0x0, 0x0, 0x0, 0xffff01ff, .plain⟩,  -- ENG_RSEL R180
  ⟨0x60408, 0x800, 8, 0x0, 1, 0x0, 0x0, 0x0, 0x0, 0xffffffff, 0x0, 0x0, 0x0, 0xffffffff, .plain⟩,  -- ENG_BANDA R180
  ⟨0x6040c, 0x800, 8, 0x0, 1, 0x0, 0x0, 0x0, 0x0, 0xffffffff, 0x0, 0x0, 0x0, 0xffffffff, .plain⟩,  -- ENG_BANDB R180
  ⟨0x60410, 0x800, 8, 0x0, 1, 0x0, 0x0, 0x0, 0x0, 0xffffffff, 0x0, 0x0, 0x0, 0xffffffff, .plain⟩,  -- ENG_BANDC R180
  ⟨0x60414, 0x800, 8, 0x0, 1, 0x0, 0x0, 0x0, 0x0, 0xffff, 0x0, 0x0, 0x0, 0xffff, .plain⟩,  -- ENG_BANDD R180
  ⟨0x60418, 0x800, 8, 0x0, 1, 0x0, 0x0, 0x0, 0x0, 0xffffff, 0x0, 0x0, 0x0, 0xffffff, .plain⟩,  -- ENG_HINTMAP R180
  ⟨0x6041c, 0x800, 8, 0x0, 1, 0x0, 0x0, 0x0, 0x0, 0x1fff, 0x0, 0x0, 0x0, 0x3f1fff, .plain⟩,  -- ENG_LL R180
  ⟨0x60420, 0x800, 8, 0x0, 1, 0x0, 0x0, 0x0, 0x0, 0x0, 0x0, 0x0, 0x0, 0xffffffff, .plain⟩,  -- ENG_KDRM R180
  ⟨0x60424, 0x800, 8, 0x0, 1, 0x0, 0x0, 0x0, 0x0, 0xffff, 0x0, 0x0, 0x0, 0xffff, .plain⟩,  -- ENG_IGAIN R180
  ⟨0x60430, 0x800, 8, 0x0, 1, 0x0, 0x0, 0x0, 0x0, 0x0, 0x0, 0x1f, 0x0, 0x0, .plain⟩,  -- ENG_FLAGS R180
  ⟨0x60434, 0x800, 8, 0x0, 1, 0x0, 0x0, 0x0, 0x0, 0x0, 0x0, 0x0, 0x0, 0x0, .plain⟩,  -- ENG_GRPSTAT R180
  ⟨0x60438, 0x800, 8, 0x0, 1, 0x0, 0x0, 0x0, 0x0, 0x0, 0x0, 0x0, 0x0, 0x0, .plain⟩,  -- ENG_MISSRUN R180
  ⟨0x60440, 0x800, 8, 0x0, 1, 0x0, 0x0, 0x0, 0x0, 0x0, 0x0, 0x0, 0x0, 0x0, .plain⟩,  -- ENG_U R180
  ⟨0x60444, 0x800, 8, 0x0, 1, 0x0, 0x0, 0x0, 0x0, 0x0, 0x0, 0x0, 0x0, 0x0, .plain⟩,  -- ENG_VC R180
  ⟨0x60448, 0x800, 8, 0x0, 1, 0x0, 0x0, 0x0, 0x0, 0x0, 0x0, 0x0, 0x0, 0x0, .plain⟩,  -- ENG_INT R180
  ⟨0x6044c, 0x800, 8, 0x0, 1, 0x0, 0x0, 0x0, 0x0, 0x0, 0x0, 0x0, 0x0, 0x0, .plain⟩,  -- ENG_IFILT R180
  ⟨0x60450, 0x800, 8, 0x0, 1, 0x0, 0x0, 0x0, 0x0, 0x0, 0x0, 0x0, 0x0, 0x0, .plain⟩,  -- ENG_ERR R180
  ⟨0x60454, 0x800, 8, 0x0, 1, 0x0, 0x0, 0x0, 0x0, 0x0, 0x0, 0x0, 0x0, 0x0, .plain⟩,  -- ENG_DROOP R180
  ⟨0x60480, 0x800, 8, 0x0, 1, 0x0, 0x0, 0x0, 0x0, 0x0, 0x0, 0x0, 0x0, 0x0, .counter⟩,  -- ENG_EVAL R182
  ⟨0x60484, 0x800, 8, 0x0, 1, 0x0, 0x0, 0x0, 0x0, 0x0, 0x0, 0x0, 0x0, 0x0, .counter⟩,  -- ENG_DMISS R182
  ⟨0x60488, 0x800, 8, 0x0, 1, 0x0, 0x0, 0x0, 0x0, 0x0, 0x0, 0x0, 0x0, 0x0, .counter⟩,  -- ENG_SATCNT R182
  ⟨0x6048c, 0x800, 8, 0x0, 1, 0x0, 0x0, 0x0, 0x0, 0x0, 0x0, 0x0, 0x0, 0x0, .counter⟩,  -- ENG_SWAP R182
  ⟨0x60490, 0x800, 8, 0x0, 1, 0x0, 0x0, 0x0, 0x0, 0x0, 0x0, 0x0, 0x0, 0x0, .counter⟩,  -- ENG_REGCHG R182
  ⟨0x60494, 0x800, 8, 0x0, 1, 0x0, 0x0, 0x0, 0x0, 0x0, 0x0, 0x0, 0x0, 0x0, .counter⟩,  -- ENG_REBASE R182
  ⟨0x68000, 0x0, 1, 0x0, 1, 0x0, 0x0, 0x0, 0x0, 0x0, 0x0, 0x0, 0x0, 0x0, .plain⟩,  -- ENG_UNITMAP R183
  ⟨0x68004, 0x0, 1, 0x0, 1, 0xff7f, 0x0, 0x0, 0x0, 0x0, 0x0, 0x0, 0x0, 0xff7f, .plain⟩,  -- ENG_LAMECFG R183
  ⟨0x68008, 0x0, 1, 0x0, 1, 0x3fff, 0x0, 0x0, 0x0, 0x0, 0x0, 0x0, 0x0, 0x3fff, .plain⟩ ]  -- ENG_VINNOM R183

/-- The ENG registers. -/
def regTableEng1 : List RegDesc := [
  ⟨0x68010, 0x0, 1, 0x0, 1, 0x0, 0x0, 0x0, 0x0, 0x0, 0x0, 0x0, 0x0, 0x0, .counter⟩,  -- ENG_UNITRET R183
  ⟨0x68100, 0x10, 10, 0x0, 1, 0x0, 0x0, 0x0, 0x0, 0x0, 0x0, 0x0, 0x0, 0x0, .counter⟩,  -- ENG_UJOBS R184
  ⟨0x68104, 0x10, 10, 0x0, 1, 0x0, 0x0, 0x0, 0x0, 0x0, 0x0, 0x0, 0x0, 0x0, .plain⟩,  -- ENG_USLOW R184
  ⟨0x68108, 0x10, 10, 0x0, 1, 0x0, 0x0, 0x0, 0x0, 0x0, 0x0, 0x0, 0x0, 0x0, .plain⟩ ]  -- ENG_UTIME R184

/-- The LCP registers. -/
def regTableLcp : List RegDesc := [
  ⟨0x80000, 0x40, 4, 0x0, 1, 0xff00, 0x0, 0x0, 0x0, 0x0, 0x1, 0x0, 0x0, 0xff01, .plain⟩,  -- LCP_PORTCFG R209
  ⟨0x80004, 0x40, 4, 0x0, 1, 0x0, 0x0, 0x0, 0x0, 0x0, 0x0, 0x1f, 0x0, 0x0, .plain⟩,  -- LCP_ALERT R209
  ⟨0x80008, 0x40, 4, 0x0, 1, 0x1f, 0x0, 0x0, 0x0, 0x0, 0x0, 0x0, 0x0, 0x1f, .plain⟩,  -- LCP_ALERTEN R209
  ⟨0x8000c, 0x40, 4, 0x0, 1, 0x0, 0x0, 0x0, 0x0, 0x0, 0x0, 0x0, 0x0, 0x0, .plain⟩,  -- LCP_LASTL R209
  ⟨0x80010, 0x40, 4, 0x0, 1, 0x0, 0x0, 0x0, 0x0, 0x0, 0x0, 0x0, 0x0, 0x0, .wideHigh⟩,  -- LCP_LASTH R209
  ⟨0x80020, 0x40, 4, 0x0, 1, 0x0, 0x0, 0x0, 0x0, 0x0, 0x0, 0x0, 0x0, 0x0, .counter⟩,  -- LCP_REQCNT R209
  ⟨0x80024, 0x40, 4, 0x0, 1, 0x0, 0x0, 0x0, 0x0, 0x0, 0x0, 0x0, 0x0, 0x0, .counter⟩,  -- LCP_CRCERR R209
  ⟨0x80028, 0x40, 4, 0x0, 1, 0x0, 0x0, 0x0, 0x0, 0x0, 0x0, 0x0, 0x0, 0x0, .counter⟩,  -- LCP_REJCNT R209
  ⟨0x8002c, 0x40, 4, 0x0, 1, 0x0, 0x0, 0x0, 0x0, 0x0, 0x0, 0x0, 0x0, 0x0, .counter⟩,  -- LCP_ABORT R209
  ⟨0x80030, 0x40, 4, 0x0, 1, 0x0, 0x0, 0x0, 0x0, 0x0, 0x0, 0x0, 0x0, 0x0, .counter⟩,  -- LCP_REPEAT R209
  ⟨0x81000, 0x40, 8, 0x0, 1, 0xf0, 0x0, 0x0, 0x0, 0x0, 0xfff0f, 0x0, 0x0, 0xfffff, .plain⟩,  -- LCP_RAILCFG R210
  ⟨0x81004, 0x40, 8, 0x0, 1, 0x0, 0xfff0fff, 0x0, 0x0, 0x0, 0x0, 0x0, 0x0, 0xfff0fff, .plain⟩,  -- LCP_LIM R210
  ⟨0x81008, 0x40, 8, 0x0, 1, 0x0, 0x0, 0x0, 0x0, 0x0, 0x0, 0x0, 0x0, 0xfff, .plain⟩,  -- LCP_TGT R210
  ⟨0x8100c, 0x40, 8, 0x0, 1, 0x0, 0x0, 0x0, 0x0, 0x0, 0x0, 0x0, 0x0, 0x0, .plain⟩,  -- LCP_RAMP R210
  ⟨0x81010, 0x40, 8, 0x0, 1, 0x0, 0x0, 0x0, 0x0, 0x0, 0x0, 0x0, 0x0, 0x0, .plain⟩,  -- LCP_CMDSTAT R210
  ⟨0x81014, 0x40, 8, 0x0, 1, 0xff00, 0x0, 0x0, 0x0, 0x0, 0x0, 0x0, 0x0, 0xff00, .plain⟩,  -- LCP_HINT R210
  ⟨0x81018, 0x40, 8, 0x0, 1, 0xffffffff, 0x0, 0x0, 0x0, 0x0, 0x0, 0x0, 0x0, 0xffffffff, .plain⟩,  -- LCP_STEPCFG R210
  ⟨0x8101c, 0x40, 8, 0x0, 1, 0xffff, 0x0, 0x0, 0x0, 0x0, 0x0, 0x0, 0x0, 0xffff, .plain⟩,  -- LCP_STEPCFG2 R210
  ⟨0x81020, 0x40, 8, 0x0, 1, 0x0, 0x0, 0x0, 0x0, 0x0, 0x0, 0x0, 0x0, 0x0, .plain⟩,  -- LCP_STEPSTAT R210
  ⟨0x81024, 0x40, 8, 0x0, 1, 0x0, 0x0, 0x0, 0x0, 0x0, 0x0, 0x0, 0x0, 0x0, .counter⟩,  -- LCP_SETVCNT R210
  ⟨0x81028, 0x40, 8, 0x0, 1, 0x0, 0x0, 0x0, 0x0, 0x0, 0x0, 0x0, 0x0, 0x0, .counter⟩,  -- LCP_SUPERCNT R210
  ⟨0x8102c, 0x40, 8, 0x0, 1, 0x0, 0x0, 0x0, 0x0, 0x0, 0x0, 0x0, 0x0, 0x0, .counter⟩,  -- LCP_STEPCNT R210
  ⟨0x81030, 0x40, 8, 0x0, 1, 0x0, 0x0, 0x0, 0x0, 0x0, 0x0, 0x0, 0x0, 0x0, .counter⟩,  -- LCP_STEPHIT R210
  ⟨0x81034, 0x40, 8, 0x0, 1, 0x0, 0x0, 0x0, 0x0, 0x0, 0x0, 0x0, 0x0, 0x0, .counter⟩ ]  -- LCP_STEPMISS R210

/-- The XNT registers. -/
def regTableXnt : List RegDesc := [
  ⟨0x90000, 0x80, 8, 0x0, 1, 0x7, 0xff00, 0x0, 0x0, 0x0, 0x0, 0x0, 0x0, 0xff07, .plain⟩,  -- XNT_CFG R233
  ⟨0x90004, 0x80, 8, 0x0, 1, 0x0, 0xffffffff, 0x0, 0x0, 0x0, 0x0, 0x0, 0x0, 0xffffffff, .plain⟩,  -- XNT_WIN R233
  ⟨0x90008, 0x80, 8, 0x0, 1, 0xfffff, 0x0, 0x0, 0x0, 0x0, 0x0, 0x0, 0x0, 0xfffff, .plain⟩,  -- XNT_BURST R233
  ⟨0x9000c, 0x80, 8, 0x0, 1, 0xfffff, 0x0, 0x0, 0x0, 0x0, 0x0, 0x0, 0x0, 0xfffff, .plain⟩,  -- XNT_CUT R233
  ⟨0x90010, 0x80, 8, 0x0, 1, 0x0, 0x0, 0xffffffff, 0x0, 0x0, 0x0, 0x0, 0x0, 0xffffffff, .plain⟩,  -- XNT_NLIMA R233
  ⟨0x90014, 0x80, 8, 0x0, 1, 0x0, 0x0, 0xffffff, 0x0, 0x0, 0x0, 0x0, 0x0, 0xffffff, .plain⟩,  -- XNT_NLIMB R233
  ⟨0x90018, 0x80, 8, 0x0, 1, 0x0, 0x777, 0x0, 0x0, 0x0, 0x0, 0x0, 0x0, 0x777, .plain⟩,  -- XNT_NCLASS R233
  ⟨0x9001c, 0x80, 8, 0x0, 1, 0x0, 0x0, 0x0, 0x0, 0x0, 0x0, 0x0, 0x0, 0x0, .plain⟩,  -- XNT_THR R233
  ⟨0x90020, 0x80, 8, 0x0, 1, 0x0, 0x0, 0x0, 0x0, 0x0, 0x0, 0xf0000, 0x0, 0x0, .plain⟩,  -- XNT_STAT R233
  ⟨0x90024, 0x80, 8, 0x0, 1, 0x0, 0x0, 0x0, 0x0, 0x0, 0x0, 0x0, 0x0, 0x0, .plain⟩,  -- XNT_UHOLD R233
  ⟨0x90028, 0x80, 8, 0x0, 1, 0x0, 0x0, 0x0, 0x0, 0x0, 0x0, 0x0, 0x0, 0x0, .plain⟩,  -- XNT_CONV R233
  ⟨0x90040, 0x80, 8, 0x0, 1, 0x0, 0x0, 0x0, 0x0, 0x0, 0x0, 0x0, 0x0, 0x0, .counter⟩,  -- XNT_BEP R234
  ⟨0x90044, 0x80, 8, 0x0, 1, 0x0, 0x0, 0x0, 0x0, 0x0, 0x0, 0x0, 0x0, 0x0, .counter⟩,  -- XNT_CEP R234
  ⟨0x90048, 0x80, 8, 0x0, 1, 0x0, 0x0, 0x0, 0x0, 0x0, 0x0, 0x0, 0x0, 0x0, .counter⟩,  -- XNT_BFR R234
  ⟨0x9004c, 0x80, 8, 0x0, 1, 0x0, 0x0, 0x0, 0x0, 0x0, 0x0, 0x0, 0x0, 0x0, .counter⟩,  -- XNT_CFR R234
  ⟨0x90050, 0x80, 8, 0x0, 1, 0x0, 0x0, 0x0, 0x0, 0x0, 0x0, 0x0, 0x0, 0x0, .counter⟩,  -- XNT_HB R234
  ⟨0x90054, 0x80, 8, 0x0, 1, 0x0, 0x0, 0x0, 0x0, 0x0, 0x0, 0x0, 0x0, 0x0, .counter⟩,  -- XNT_SAT R234
  ⟨0x90058, 0x80, 8, 0x0, 1, 0x0, 0x0, 0x0, 0x0, 0x0, 0x0, 0x0, 0x0, 0x0, .counter⟩,  -- XNT_STR R234
  ⟨0x91000, 0x0, 1, 0x0, 1, 0xffff00f1, 0x0, 0x0, 0x0, 0x0, 0x0, 0x0, 0x0, 0xffff00f1, .plain⟩,  -- XNT_RETCFG R235
  ⟨0x91004, 0x0, 1, 0x0, 1, 0xffff, 0x0, 0x0, 0x0, 0x0, 0x0, 0x0, 0x0, 0xffff, .plain⟩,  -- XNT_RETCFG2 R235
  ⟨0x91008, 0x0, 1, 0x0, 1, 0x0, 0x0, 0x0, 0x0, 0x0, 0x0, 0x0, 0x0, 0x0, .plain⟩,  -- XNT_RETACC R235
  ⟨0x9100c, 0x0, 1, 0x0, 1, 0x0, 0x0, 0x0, 0x0, 0x0, 0x0, 0x2, 0x0, 0x0, .plain⟩,  -- XNT_RETSTAT R235
  ⟨0x91010, 0x0, 1, 0x0, 1, 0x0, 0x0, 0x0, 0x0, 0x0, 0x0, 0x0, 0x0, 0x0, .plain⟩,  -- XNT_RETTOTL R235
  ⟨0x91014, 0x0, 1, 0x0, 1, 0x0, 0x0, 0x0, 0x0, 0x0, 0x0, 0x0, 0x0, 0x0, .wideHigh⟩,  -- XNT_RETTOTH R235
  ⟨0x91018, 0x0, 1, 0x0, 1, 0x0, 0x0, 0x0, 0x0, 0x0, 0x0, 0x0, 0x0, 0x0, .counter⟩ ]  -- XNT_CEILCNT R235

/-- The PROT registers. -/
def regTableProt : List RegDesc := [
  ⟨0xa0000, 0x40, 8, 0x0, 1, 0xffff, 0x0, 0xff0000, 0x0, 0x0, 0x0, 0x0, 0x0, 0xffffff, .plain⟩,  -- PROT_OC R270
  ⟨0xa0004, 0x40, 8, 0x0, 1, 0xf7ff, 0x0, 0x0, 0x0, 0x0, 0x0, 0x0, 0x0, 0xf7ff, .plain⟩,  -- PROT_HIC R270
  ⟨0xa0008, 0x40, 8, 0x0, 1, 0xf0001000, 0xfff0fff, 0x0, 0x0, 0x0, 0x0, 0x0, 0x0, 0xffff1fff, .plain⟩,  -- PROT_OV R270
  ⟨0xa000c, 0x40, 8, 0x0, 1, 0x10000, 0xffff, 0x0, 0x0, 0x0, 0x0, 0x0, 0x0, 0x1ffff, .plain⟩,  -- PROT_UV R270
  ⟨0xa0010, 0x40, 8, 0x0, 1, 0xffff0000, 0x0, 0xffff, 0x0, 0x0, 0x0, 0x0, 0x0, 0xffffffff, .plain⟩,  -- PROT_OT R270
  ⟨0xa0014, 0x40, 8, 0x0, 1, 0xff0000, 0xfff, 0x0, 0x0, 0x0, 0x0, 0x0, 0x0, 0xff0fff, .plain⟩,  -- PROT_PG R270
  ⟨0xa0018, 0x40, 8, 0x0, 1, 0x0, 0x0, 0x0, 0x0, 0x0, 0x0, 0x4000000, 0x0, 0x0, .plain⟩,  -- PROT_STAT R270
  ⟨0xa0020, 0x40, 8, 0x0, 1, 0x0, 0x0, 0x0, 0x0, 0x0, 0x0, 0x0, 0x0, 0x0, .counter⟩,  -- PROT_LIMP R271
  ⟨0xa0024, 0x40, 8, 0x0, 1, 0x0, 0x0, 0x0, 0x0, 0x0, 0x0, 0x0, 0x0, 0x0, .counter⟩,  -- PROT_TOFF R271
  ⟨0xa0028, 0x40, 8, 0x0, 1, 0x0, 0x0, 0x0, 0x0, 0x0, 0x0, 0x0, 0x0, 0x0, .counter⟩,  -- PROT_LATCHCNT R271
  ⟨0xa1000, 0x0, 1, 0x0, 1, 0xf, 0x0, 0x0, 0x0, 0x0, 0x0, 0x0, 0x0, 0xf, .plain⟩,  -- PROT_GCFG R272
  ⟨0xa1004, 0x0, 1, 0x0, 1, 0x7ffffff, 0x0, 0x0, 0x0, 0x0, 0x0, 0x0, 0x0, 0x7ffffff, .plain⟩,  -- PROT_FAULTSRC R272
  ⟨0xa1008, 0x0, 1, 0x0, 1, 0x7ffffff, 0x0, 0x0, 0x0, 0x0, 0x0, 0x0, 0x0, 0x7ffffff, .plain⟩,  -- PROT_ALERTEN R272
  ⟨0xa100c, 0x0, 1, 0x0, 1, 0x0, 0x0, 0x0, 0x0, 0x0, 0x0, 0x7ffffff, 0x0, 0x0, .plain⟩,  -- PROT_IRQ R272
  ⟨0xa1010, 0x0, 1, 0x0, 1, 0x7ffffff, 0x0, 0x0, 0x0, 0x0, 0x0, 0x0, 0x0, 0x7ffffff, .plain⟩,  -- PROT_CAPEN R272
  ⟨0xa1014, 0x0, 1, 0x0, 1, 0x0, 0x0, 0x0, 0x0, 0x0, 0x0, 0x100, 0x0, 0x0, .plain⟩,  -- PROT_CAPSTAT R272
  ⟨0xa1018, 0x0, 1, 0x0, 1, 0x0, 0x0, 0x0, 0x0, 0x0, 0x0, 0x0, 0x0, 0x0, .plain⟩,  -- PROT_CAPL R272
  ⟨0xa101c, 0x0, 1, 0x0, 1, 0x0, 0x0, 0x0, 0x0, 0x0, 0x0, 0x0, 0x0, 0x0, .wideHigh⟩,  -- PROT_CAPH R272
  ⟨0xa1020, 0x0, 1, 0x0, 1, 0x0, 0x0, 0x0, 0x0, 0x0, 0x0, 0x0, 0x0, 0x0, .counter⟩,  -- PROT_CAPLOST R272
  ⟨0xa1024, 0x0, 1, 0x0, 1, 0x0, 0x0, 0x0, 0x0, 0x0, 0x0, 0x0, 0x0, 0x0, .plain⟩,  -- PROT_LEVEL R272
  ⟨0xa1028, 0x0, 1, 0x0, 1, 0x0, 0x0, 0x0, 0x0, 0x0, 0x0, 0x0, 0x0, 0x0, .plain⟩,  -- PROT_LFSTAT R272
  ⟨0xa102c, 0x0, 1, 0x0, 1, 0x0, 0x0, 0x0, 0x0, 0x0, 0x0, 0x0, 0x0, 0x0, .plain⟩,  -- PROT_LFSEQ R272
  ⟨0xa1030, 0x0, 1, 0x0, 1, 0x0, 0x0, 0x0, 0x0, 0x0, 0x0, 0x0, 0x0, 0x0, .counter⟩,  -- PROT_LFCNT R272
  ⟨0xa1100, 0x10, 8, 0x0, 1, 0xffff1fff, 0x0, 0x0, 0x0, 0x0, 0x0, 0x0, 0x0, 0xffff1fff, .plain⟩,  -- PROT_GPC R273
  ⟨0xa1200, 0x4, 27, 0x0, 1, 0x0, 0x0, 0x0, 0x0, 0x0, 0x0, 0x0, 0x0, 0x0, .counter⟩ ]  -- PROT_EDGECNT R274

/-- The HSW registers. -/
def regTableHsw : List RegDesc := [
  ⟨0xb0000, 0x0, 1, 0x0, 1, 0x3fffc000, 0x0, 0x0, 0x0, 0x0, 0x3fff, 0x0, 0x0, 0x3fffffff, .plain⟩,  -- HSW_CFG R303
  ⟨0xb0004, 0x0, 1, 0x0, 1, 0xffffff, 0x0, 0x0, 0x0, 0x0, 0x0, 0x0, 0x0, 0xffffff, .plain⟩,  -- HSW_LIM R303
  ⟨0xb0008, 0x0, 1, 0x0, 1, 0xfff0fff, 0x0, 0x0, 0x0, 0x0, 0x0, 0x0, 0x0, 0xfff0fff, .plain⟩,  -- HSW_LIM2 R303
  ⟨0xb000c, 0x0, 1, 0x0, 1, 0xffffffff, 0x0, 0x0, 0x0, 0x0, 0x0, 0x0, 0x0, 0xffffffff, .plain⟩,  -- HSW_BUDGET R303
  ⟨0xb0010, 0x0, 1, 0x0, 1, 0x1fffff, 0x0, 0x0, 0x0, 0x0, 0x0, 0x0, 0x0, 0x1fffff, .plain⟩,  -- HSW_RETRY R303
  ⟨0xb0014, 0x0, 1, 0x0, 1, 0xff1fffff, 0x0, 0x0, 0x0, 0x0, 0x0, 0x0, 0x0, 0xff1fffff, .plain⟩,  -- HSW_BUSCMP R303
  ⟨0xb0018, 0x0, 1, 0x0, 1, 0xfffffff3, 0x0, 0x0, 0x0, 0x0, 0x0, 0x0, 0x0, 0xfffffff3, .plain⟩,  -- HSW_BLEED R303
  ⟨0xb001c, 0x0, 1, 0x0, 1, 0xff, 0x0, 0x0, 0x0, 0x0, 0x0, 0x0, 0x0, 0xff, .plain⟩,  -- HSW_IBCFG R303
  ⟨0xb0020, 0x0, 1, 0x0, 1, 0x0, 0x0, 0x0, 0x0, 0x0, 0x0, 0x0, 0x3, 0x0, .plain⟩,  -- HSW_CTRL R303
  ⟨0xb0024, 0x0, 1, 0x0, 1, 0x0, 0x0, 0x0, 0x0, 0x0, 0x0, 0x1c0000, 0x0, 0x0, .plain⟩,  -- HSW_STATUS R303
  ⟨0xb0028, 0x0, 1, 0x0, 1, 0x0, 0x0, 0x0, 0x0, 0x0, 0x0, 0x0, 0x0, 0x0, .plain⟩,  -- HSW_EFET R303
  ⟨0xb002c, 0x0, 1, 0x0, 1, 0x0, 0x0, 0x0, 0x0, 0x0, 0x0, 0x0, 0x0, 0x0, .plain⟩,  -- HSW_WAITREM R303
  ⟨0xb0030, 0x0, 1, 0x0, 1, 0x0, 0x0, 0x0, 0x0, 0x0, 0x0, 0x0, 0x0, 0x0, .plain⟩,  -- HSW_CMEAS R303
  ⟨0xb0034, 0x0, 1, 0x0, 1, 0x0, 0x0, 0x0, 0x0, 0x0, 0x0, 0x0, 0x0, 0x0, .plain⟩,  -- HSW_VSTOP R303
  ⟨0xb0040, 0x0, 1, 0x0, 1, 0x0, 0x0, 0x0, 0x0, 0x0, 0x0, 0x0, 0x0, 0x0, .counter⟩,  -- HSW_TRIPCNT R304
  ⟨0xb0044, 0x0, 1, 0x0, 1, 0x0, 0x0, 0x0, 0x0, 0x0, 0x0, 0x0, 0x0, 0x0, .counter⟩,  -- HSW_SEVCNT R304
  ⟨0xb0048, 0x0, 1, 0x0, 1, 0x0, 0x0, 0x0, 0x0, 0x0, 0x0, 0x0, 0x0, 0x0, .counter⟩,  -- HSW_LIMCNT R304
  ⟨0xb004c, 0x0, 1, 0x0, 1, 0x0, 0x0, 0x0, 0x0, 0x0, 0x0, 0x0, 0x0, 0x0, .counter⟩ ]  -- HSW_BLEEDCNT R304

/-- The MEAS registers. -/
def regTableMeas0 : List RegDesc := [
  ⟨0xc0000, 0x0, 1, 0x0, 1, 0x1f, 0x0, 0x0, 0x0, 0x0, 0x0, 0x0, 0x0, 0x1f, .plain⟩,  -- MEAS_SARCFG R329
  ⟨0xc0004, 0x0, 1, 0x0, 1, 0x0, 0x0, 0x0, 0x0, 0x0, 0x0, 0x0, 0x1f, 0x0, .plain⟩,  -- MEAS_SARCTRL R329
  ⟨0xc0008, 0x0, 1, 0x0, 1, 0x0, 0x0, 0x0, 0x0, 0x0, 0x0, 0x4, 0x0, 0x0, .plain⟩,  -- MEAS_SARSTAT R329
  ⟨0xc000c, 0x0, 1, 0x0, 1, 0x0, 0x0, 0x0, 0x0, 0x0, 0x0, 0x0, 0x0, 0x0, .plain⟩,  -- MEAS_TSEQ R329
  ⟨0xc0010, 0x0, 1, 0x0, 1, 0x0, 0x0, 0x0, 0x0, 0x0, 0x0, 0x0, 0x0, 0x0, .plain⟩,  -- MEAS_TTIMEL R329
  ⟨0xc0014, 0x0, 1, 0x0, 1, 0x0, 0x0, 0x0, 0x0, 0x0, 0x0, 0x0, 0x0, 0x0, .wideHigh⟩,  -- MEAS_TTIMEH R329
  ⟨0xc0018, 0x0, 1, 0x0, 1, 0xffff, 0x0, 0x0, 0x0, 0x0, 0x0, 0x0, 0x0, 0xffff, .plain⟩,  -- MEAS_CHKCFG R329
  ⟨0xc001c, 0x0, 1, 0x0, 1, 0x0, 0x0, 0x0, 0x0, 0x0, 0x0, 0x0, 0x0, 0x0, .plain⟩,  -- MEAS_DIETEMP R329
  ⟨0xc0020, 0x4, 4, 0x0, 1, 0x0, 0x0, 0x0, 0x0, 0x0, 0x0, 0x0, 0x0, 0x0, .plain⟩,  -- MEAS_PATH R329
  ⟨0xc0040, 0x0, 1, 0x0, 1, 0xbfbfbfbf, 0x0, 0x0, 0x0, 0x0, 0x0, 0x0, 0x0, 0xbfbfbfbf, .plain⟩,  -- MEAS_SEQA0 R329
  ⟨0xc0044, 0x0, 1, 0x0, 1, 0xbfbfbfbf, 0x0, 0x0, 0x0, 0x0, 0x0, 0x0, 0x0, 0xbfbfbfbf, .plain⟩,  -- MEAS_SEQB0 R329
  ⟨0xc0048, 0x0, 1, 0x0, 1, 0xbfbfbfbf, 0x0, 0x0, 0x0, 0x0, 0x0, 0x0, 0x0, 0xbfbfbfbf, .plain⟩,  -- MEAS_SEQC0 R329
  ⟨0xc004c, 0x0, 1, 0x0, 1, 0xbfbfbfbf, 0x0, 0x0, 0x0, 0x0, 0x0, 0x0, 0x0, 0xbfbfbfbf, .plain⟩,  -- MEAS_SEQD0 R329
  ⟨0xc0050, 0x0, 1, 0x0, 1, 0xbfbfbfbf, 0x0, 0x0, 0x0, 0x0, 0x0, 0x0, 0x0, 0xbfbfbfbf, .plain⟩,  -- MEAS_SEQA1 R329
  ⟨0xc0054, 0x0, 1, 0x0, 1, 0xbfbfbfbf, 0x0, 0x0, 0x0, 0x0, 0x0, 0x0, 0x0, 0xbfbfbfbf, .plain⟩,  -- MEAS_SEQB1 R329
  ⟨0xc0058, 0x0, 1, 0x0, 1, 0xbfbfbfbf, 0x0, 0x0, 0x0, 0x0, 0x0, 0x0, 0x0, 0xbfbfbfbf, .plain⟩,  -- MEAS_SEQC1 R329
  ⟨0xc005c, 0x0, 1, 0x0, 1, 0xbfbfbfbf, 0x0, 0x0, 0x0, 0x0, 0x0, 0x0, 0x0, 0xbfbfbfbf, .plain⟩,  -- MEAS_SEQD1 R329
  ⟨0xc0060, 0x0, 1, 0x0, 1, 0xbfbfbfbf, 0x0, 0x0, 0x0, 0x0, 0x0, 0x0, 0x0, 0xbfbfbfbf, .plain⟩,  -- MEAS_SEQA2 R329
  ⟨0xc0064, 0x0, 1, 0x0, 1, 0xbfbfbfbf, 0x0, 0x0, 0x0, 0x0, 0x0, 0x0, 0x0, 0xbfbfbfbf, .plain⟩,  -- MEAS_SEQB2 R329
  ⟨0xc0068, 0x0, 1, 0x0, 1, 0xbfbfbfbf, 0x0, 0x0, 0x0, 0x0, 0x0, 0x0, 0x0, 0xbfbfbfbf, .plain⟩,  -- MEAS_SEQC2 R329
  ⟨0xc006c, 0x0, 1, 0x0, 1, 0xbfbfbfbf, 0x0, 0x0, 0x0, 0x0, 0x0, 0x0, 0x0, 0xbfbfbfbf, .plain⟩,  -- MEAS_SEQD2 R329
  ⟨0xc0070, 0x0, 1, 0x0, 1, 0xbfbfbfbf, 0x0, 0x0, 0x0, 0x0, 0x0, 0x0, 0x0, 0xbfbfbfbf, .plain⟩,  -- MEAS_SEQA3 R329
  ⟨0xc0074, 0x0, 1, 0x0, 1, 0xbfbfbfbf, 0x0, 0x0, 0x0, 0x0, 0x0, 0x0, 0x0, 0xbfbfbfbf, .plain⟩,  -- MEAS_SEQB3 R329
  ⟨0xc0078, 0x0, 1, 0x0, 1, 0xbfbfbfbf, 0x0, 0x0, 0x0, 0x0, 0x0, 0x0, 0x0, 0xbfbfbfbf, .plain⟩,  -- MEAS_SEQC3 R329
  ⟨0xc007c, 0x0, 1, 0x0, 1, 0xbfbfbfbf, 0x0, 0x0, 0x0, 0x0, 0x0, 0x0, 0x0, 0xbfbfbfbf, .plain⟩,  -- MEAS_SEQD3 R329
  ⟨0xc0100, 0x8, 4, 0x0, 1, 0x0, 0x0, 0x0, 0x0, 0x0, 0x0, 0x0, 0x0, 0x0, .plain⟩,  -- MEAS_Q R329
  ⟨0xc0104, 0x8, 4, 0x0, 1, 0x0, 0x0, 0x0, 0x0, 0x0, 0x0, 0x200, 0x0, 0x0, .plain⟩,  -- MEAS_QSTAT R329
  ⟨0xc0200, 0x0, 1, 0x0, 1, 0x0, 0x0, 0x0, 0x0, 0x0, 0x0, 0x0, 0x0, 0x0, .counter⟩,  -- MEAS_TRIGCNT R331
  ⟨0xc0204, 0x0, 1, 0x0, 1, 0x0, 0x0, 0x0, 0x0, 0x0, 0x0, 0x0, 0x0, 0x0, .counter⟩,  -- MEAS_OVRCNT R331
  ⟨0xc0210, 0x4, 4, 0x0, 1, 0x0, 0x0, 0x0, 0x0, 0x0, 0x0, 0x0, 0x0, 0x0, .counter⟩,  -- MEAS_CONV R331
  ⟨0xc0220, 0x4, 4, 0x0, 1, 0x0, 0x0, 0x0, 0x0, 0x0, 0x0, 0x0, 0x0, 0x0, .counter⟩,  -- MEAS_QLOST R331
  ⟨0xc0230, 0x0, 1, 0x0, 1, 0x0, 0x0, 0x0, 0x0, 0x0, 0x0, 0x0, 0x0, 0x0, .counter⟩,  -- MEAS_CHKFAIL R331
  ⟨0xc8000, 0x0, 1, 0x0, 1, 0x0, 0x0, 0x0, 0x0, 0x0, 0x0, 0x0, 0x0, 0x0, .plain⟩,  -- MEAS_VBUS R305
  ⟨0xc8004, 0x0, 1, 0x0, 1, 0x0, 0x0, 0x0, 0x0, 0x0, 0x0, 0x0, 0x0, 0x0, .plain⟩,  -- MEAS_IBUS R305
  ⟨0xc8008, 0x0, 1, 0x0, 1, 0x0, 0x0, 0x0, 0x0, 0x0, 0x0, 0x0, 0x0, 0x0, .plain⟩,  -- MEAS_PIN R305
  ⟨0xc800c, 0x0, 1, 0x0, 1, 0x0, 0x0, 0x0, 0x0, 0x0, 0x0, 0x0, 0x0, 0x0, .plain⟩,  -- MEAS_VIB R305
  ⟨0xc8010, 0x0, 1, 0x0, 1, 0x0, 0x0, 0x0, 0x0, 0x0, 0x0, 0x0, 0x0, 0x0, .plain⟩,  -- MEAS_VDS R305
  ⟨0xc8014, 0x0, 1, 0x0, 1, 0x0, 0x0, 0x0, 0x0, 0x0, 0x0, 0x0, 0x0, 0x0, .plain⟩,  -- MEAS_RAW R305
  ⟨0xc8018, 0x0, 1, 0x0, 1, 0x0, 0x0, 0x0, 0x0, 0x0, 0x0, 0x0, 0x0, 0x0, .plain⟩,  -- MEAS_EINL R305
  ⟨0xc801c, 0x0, 1, 0x0, 1, 0x0, 0x0, 0x0, 0x0, 0x0, 0x0, 0x0, 0x0, 0x0, .wideHigh⟩,  -- MEAS_EINH R305
  ⟨0xc8020, 0x0, 1, 0x0, 1, 0x0, 0x0, 0x0, 0x0, 0x0, 0x0, 0x0, 0x0, 0x0, .plain⟩,  -- MEAS_EREVL R305
  ⟨0xc8024, 0x0, 1, 0x0, 1, 0x0, 0x0, 0x0, 0x0, 0x0, 0x0, 0x0, 0x0, 0x0, .wideHigh⟩,  -- MEAS_EREVH R305
  ⟨0xc8028, 0x0, 1, 0x0, 1, 0x0, 0x0, 0x0, 0x0, 0x0, 0x0, 0x0, 0x0, 0x0, .plain⟩,  -- MEAS_ELIFEL R305
  ⟨0xc802c, 0x0, 1, 0x0, 1, 0x0, 0x0, 0x0, 0x0, 0x0, 0x0, 0x0, 0x0, 0x0, .wideHigh⟩,  -- MEAS_ELIFEH R305
  ⟨0xc8030, 0x0, 1, 0x0, 1, 0xffffff, 0x0, 0x0, 0x0, 0x0, 0x0, 0x0, 0x0, 0xffffff, .plain⟩,  -- MEAS_INCFG R305
  ⟨0xc8034, 0x0, 1, 0x0, 1, 0x0, 0x0, 0x0, 0x0, 0x0, 0x0, 0x0, 0x0, 0x0, .plain⟩,  -- MEAS_CALSTAT R305
  ⟨0xc9000, 0x0, 1, 0x0, 1, 0x0, 0x0, 0x0, 0x0, 0x0, 0x0, 0x0, 0x0, 0x0, .plain⟩,  -- MEAS_WSEQ R330
  ⟨0xc9008, 0x0, 1, 0x0, 1, 0x0, 0x0, 0x0, 0x0, 0x0, 0x0, 0x0, 0x0, 0x0, .plain⟩,  -- MEAS_WSTARTL R330
  ⟨0xc900c, 0x0, 1, 0x0, 1, 0x0, 0x0, 0x0, 0x0, 0x0, 0x0, 0x0, 0x0, 0x0, .wideHigh⟩,  -- MEAS_WSTARTH R330
  ⟨0xc9010, 0x0, 1, 0x0, 1, 0x0, 0x0, 0x0, 0x0, 0x0, 0x0, 0x0, 0x0, 0x0, .plain⟩,  -- MEAS_WENDL R330
  ⟨0xc9014, 0x0, 1, 0x0, 1, 0x0, 0x0, 0x0, 0x0, 0x0, 0x0, 0x0, 0x0, 0x0, .wideHigh⟩,  -- MEAS_WENDH R330
  ⟨0xc9018, 0x0, 1, 0x0, 1, 0x0, 0x0, 0x0, 0x0, 0x0, 0x0, 0x0, 0x0, 0x0, .plain⟩,  -- MEAS_WEINL R330
  ⟨0xc901c, 0x0, 1, 0x0, 1, 0x0, 0x0, 0x0, 0x0, 0x0, 0x0, 0x0, 0x0, 0x0, .wideHigh⟩,  -- MEAS_WEINH R330
  ⟨0xc9020, 0x0, 1, 0x0, 1, 0x0, 0x0, 0x0, 0x0, 0x0, 0x0, 0x0, 0x0, 0x0, .plain⟩,  -- MEAS_WEREVL R330
  ⟨0xc9024, 0x0, 1, 0x0, 1, 0x0, 0x0, 0x0, 0x0, 0x0, 0x0, 0x0, 0x0, 0x0, .wideHigh⟩,  -- MEAS_WEREVH R330
  ⟨0xc9028, 0x0, 1, 0x0, 1, 0x0, 0x0, 0x0, 0x0, 0x0, 0x0, 0x0, 0x0, 0x0, .plain⟩,  -- MEAS_WNS R330
  ⟨0xc902c, 0x0, 1, 0x0, 1, 0x0, 0x0, 0x0, 0x0, 0x0, 0x0, 0x0, 0x0, 0x0, .plain⟩,  -- MEAS_WVMIN R330
  ⟨0xc9030, 0x0, 1, 0x0, 1, 0x0, 0x0, 0x0, 0x0, 0x0, 0x0, 0x0, 0x0, 0x0, .plain⟩,  -- MEAS_WVMAX R330
  ⟨0xc9034, 0x0, 1, 0x0, 1, 0x0, 0x0, 0x0, 0x0, 0x0, 0x0, 0x0, 0x0, 0x0, .plain⟩,  -- MEAS_WIMAX R330
  ⟨0xc9040, 0x8, 8, 0x0, 1, 0x0, 0x0, 0x0, 0x0, 0x0, 0x0, 0x0, 0x0, 0x0, .plain⟩ ]  -- MEAS_WEOUTL R330

/-- The MEAS registers. -/
def regTableMeas1 : List RegDesc := [
  ⟨0xc9044, 0x8, 8, 0x0, 1, 0x0, 0x0, 0x0, 0x0, 0x0, 0x0, 0x0, 0x0, 0x0, .wideHigh⟩ ]  -- MEAS_WEOUTH R330

/-- The LOFT registers. -/
def regTableLoft : List RegDesc := [
  ⟨0xd0000, 0x0, 1, 0x0, 1, 0x0, 0x0, 0x0, 0x0, 0x0, 0x0, 0x3f00, 0x0, 0x0, .plain⟩,  -- LOFT_STATUS R358
  ⟨0xd0004, 0x0, 1, 0x0, 1, 0x3, 0x0, 0x0, 0x0, 0x0, 0x0, 0x0, 0x0, 0x0, .plain⟩,  -- LOFT_PROT R358
  ⟨0xd0008, 0x0, 1, 0x0, 1, 0xff, 0x0, 0x0, 0x0, 0x0, 0x0, 0x0, 0x0, 0xff, .plain⟩,  -- LOFT_CFG R358
  ⟨0xd0010, 0x0, 1, 0x0, 1, 0x3fffffc, 0x0, 0x0, 0x0, 0x0, 0x0, 0x0, 0x0, 0x0, .plain⟩,  -- LOFT_RADDR R358
  ⟨0xd0014, 0x0, 1, 0x0, 1, 0x0, 0x0, 0x0, 0x0, 0x0, 0x0, 0x0, 0x0, 0x0, .plain⟩,  -- LOFT_RDATA R358
  ⟨0xd0018, 0x0, 1, 0x0, 1, 0x3fffffc, 0x0, 0x0, 0x0, 0x0, 0x0, 0x0, 0x0, 0x0, .plain⟩,  -- LOFT_WADDR R358
  ⟨0xd001c, 0x0, 1, 0x0, 1, 0x0, 0x0, 0x0, 0x0, 0x0, 0x0, 0x0, 0xffffffff, 0x0, .plain⟩,  -- LOFT_WDATA R358
  ⟨0xd0020, 0x0, 1, 0x0, 1, 0x0, 0x0, 0x0, 0x0, 0x0, 0x0, 0x0, 0x3, 0x0, .plain⟩,  -- LOFT_WCTL R358
  ⟨0xd0024, 0x0, 1, 0x0, 1, 0x0, 0x0, 0x0, 0x0, 0x0, 0x0, 0x0, 0x0, 0x0, .plain⟩,  -- LOFT_WSTAT R358
  ⟨0xd0030, 0x0, 1, 0x0, 1, 0x0, 0x0, 0x0, 0x0, 0x0, 0x0, 0x0, 0x0, 0xffffffff, .plain⟩,  -- LOFT_IMGSEQA R358
  ⟨0xd0034, 0x0, 1, 0x0, 1, 0x0, 0x0, 0x0, 0x0, 0x0, 0x0, 0x0, 0x0, 0xffffffff, .plain⟩,  -- LOFT_IMGSEQB R358
  ⟨0xd0038, 0x0, 1, 0x0, 1, 0x0, 0x0, 0x0, 0x0, 0x0, 0x0, 0x0, 0x0, 0x0, .plain⟩,  -- LOFT_IMGSTAT R358
  ⟨0xd0040, 0x0, 1, 0x0, 1, 0x0, 0x0, 0x0, 0x0, 0x0, 0x0, 0x0, 0x0, 0x0, .plain⟩,  -- LOFT_PCYCLE R358
  ⟨0xd0044, 0x0, 1, 0x0, 1, 0x0, 0x0, 0x0, 0x0, 0x0, 0x0, 0x0, 0x0, 0x0, .plain⟩,  -- LOFT_OPTL R358
  ⟨0xd0048, 0x0, 1, 0x0, 1, 0x0, 0x0, 0x0, 0x0, 0x0, 0x0, 0x0, 0x0, 0x0, .wideHigh⟩,  -- LOFT_OPTH R358
  ⟨0xd0100, 0x0, 1, 0x0, 1, 0x0, 0x0, 0x0, 0x0, 0x0, 0x0, 0x0, 0x0, 0x0, .counter⟩,  -- LOFT_PGWR R359
  ⟨0xd0104, 0x0, 1, 0x0, 1, 0x0, 0x0, 0x0, 0x0, 0x0, 0x0, 0x0, 0x0, 0x0, .counter⟩,  -- LOFT_PGRD R359
  ⟨0xd0108, 0x0, 1, 0x0, 1, 0x0, 0x0, 0x0, 0x0, 0x0, 0x0, 0x0, 0x0, 0x0, .counter⟩,  -- LOFT_STEPS R359
  ⟨0xd010c, 0x0, 1, 0x0, 1, 0x0, 0x0, 0x0, 0x0, 0x0, 0x0, 0x0, 0x0, 0x0, .counter⟩,  -- LOFT_VERFAILCNT R359
  ⟨0xd0110, 0x0, 1, 0x0, 1, 0x0, 0x0, 0x0, 0x0, 0x0, 0x0, 0x0, 0x0, 0x0, .counter⟩,  -- LOFT_REMAPCNT R359
  ⟨0xd0114, 0x0, 1, 0x0, 1, 0x0, 0x0, 0x0, 0x0, 0x0, 0x0, 0x0, 0x0, 0x0, .counter⟩,  -- LOFT_PROTREF R359
  ⟨0xd0118, 0x0, 1, 0x0, 1, 0x0, 0x0, 0x0, 0x0, 0x0, 0x0, 0x0, 0x0, 0x0, .counter⟩,  -- LOFT_RDERRCNT R359
  ⟨0xd011c, 0x0, 1, 0x0, 1, 0x0, 0x0, 0x0, 0x0, 0x0, 0x0, 0x0, 0x0, 0x0, .counter⟩ ]  -- LOFT_TIECNT R359

/-- The EVT registers. -/
def regTableEvt : List RegDesc := [
  ⟨0xe0000, 0x0, 1, 0x0, 1, 0x0, 0x0, 0x0, 0x0, 0x0, 0x0, 0x1c000, 0x0, 0x0, .plain⟩,  -- EVT_STATUS R381
  ⟨0xe0008, 0x0, 1, 0x0, 1, 0x0, 0x0, 0x0, 0x0, 0x0, 0x0, 0x0, 0x0, 0x0, .plain⟩,  -- EVT_HEADL R381
  ⟨0xe000c, 0x0, 1, 0x0, 1, 0x0, 0x0, 0x0, 0x0, 0x0, 0x0, 0x0, 0x0, 0x0, .wideHigh⟩,  -- EVT_HEADH R381
  ⟨0xe0010, 0x0, 1, 0x0, 1, 0xffffffff, 0x0, 0x0, 0x0, 0x0, 0x0, 0x0, 0x0, 0x0, .plain⟩,  -- EVT_RPOSL R381
  ⟨0xe0014, 0x0, 1, 0x0, 1, 0xffff, 0x0, 0x0, 0x0, 0x0, 0x0, 0x0, 0x0, 0x0, .plain⟩,  -- EVT_RPOSH R381
  ⟨0xe0018, 0x0, 1, 0x0, 1, 0x0, 0x0, 0x0, 0x0, 0x0, 0x0, 0x0, 0x0, 0x0, .plain⟩,  -- EVT_RSTAT R381
  ⟨0xe0020, 0x0, 1, 0x0, 1, 0x0, 0x0, 0x0, 0x0, 0x0, 0x0, 0x0, 0x1, 0x0, .plain⟩,  -- EVT_CTRL R381
  ⟨0xe0024, 0x0, 1, 0x0, 1, 0x0, 0x0, 0x0, 0x0, 0x0, 0x0, 0x0, 0x0, 0x0, .plain⟩,  -- EVT_CLRSTAT R381
  ⟨0xe0030, 0x0, 1, 0x0, 1, 0x7f, 0x0, 0x0, 0x0, 0x0, 0x0, 0x0, 0x0, 0x0, .plain⟩,  -- EVT_LWSEL R381
  ⟨0xe0034, 0x0, 1, 0x0, 1, 0x0, 0x0, 0x0, 0x0, 0x0, 0x0, 0x0, 0x0, 0x0, .plain⟩,  -- EVT_LWDATA R381
  ⟨0xe0040, 0x0, 1, 0x0, 1, 0x0, 0x0, 0x0, 0x0, 0x0, 0x0, 0x0, 0x0, 0x0, .plain⟩,  -- EVT_RDATA0 R381
  ⟨0xe0044, 0x4, 15, 0x0, 1, 0x0, 0x0, 0x0, 0x0, 0x0, 0x0, 0x0, 0x0, 0x0, .wideHigh⟩,  -- EVT_RDATA R381
  ⟨0xe0108, 0x4, 6, 0x0, 1, 0x0, 0x0, 0x0, 0x0, 0x0, 0x0, 0x0, 0x0, 0x0, .counter⟩,  -- EVT_LOST R382
  ⟨0xe0120, 0x0, 1, 0x0, 1, 0x0, 0x0, 0x0, 0x0, 0x0, 0x0, 0x0, 0x0, 0x0, .counter⟩,  -- EVT_RECCNT R382
  ⟨0xe0124, 0x0, 1, 0x0, 1, 0x0, 0x0, 0x0, 0x0, 0x0, 0x0, 0x0, 0x0, 0x0, .counter⟩,  -- EVT_HELDCNT R382
  ⟨0xe0128, 0x0, 1, 0x0, 1, 0x0, 0x0, 0x0, 0x0, 0x0, 0x0, 0x0, 0x0, 0x0, .counter⟩,  -- EVT_LWCNT R382
  ⟨0xe012c, 0x0, 1, 0x0, 1, 0x0, 0x0, 0x0, 0x0, 0x0, 0x0, 0x0, 0x0, 0x0, .counter⟩,  -- EVT_PROTLOST R382
  ⟨0xe0130, 0x0, 1, 0x0, 1, 0x0, 0x0, 0x0, 0x0, 0x0, 0x0, 0x0, 0x0, 0x0, .counter⟩,  -- EVT_SUMCNT R382
  ⟨0xe0134, 0x0, 1, 0x0, 1, 0x0, 0x0, 0x0, 0x0, 0x0, 0x0, 0x0, 0x0, 0x0, .counter⟩ ]  -- EVT_ARCHCNT R382

/-- The PAIR registers. -/
def regTablePair : List RegDesc := [
  ⟨0xf0000, 0x0, 1, 0x0, 1, 0xffff0003, 0x0, 0x0, 0x0, 0x0, 0xff00, 0x0, 0x0, 0xffffff03, .plain⟩,  -- PAIR_CFG R417
  ⟨0xf0004, 0x0, 1, 0x0, 1, 0x0, 0x0, 0x0, 0x0, 0x0, 0x0, 0xc00, 0x0, 0x0, .plain⟩,  -- PAIR_STAT R417
  ⟨0xf0008, 0x0, 1, 0x0, 1, 0x0, 0x0, 0x0, 0x0, 0x0, 0x0, 0x0, 0x0, 0x0, .plain⟩,  -- PAIR_LINK R417
  ⟨0xf000c, 0x0, 1, 0x0, 1, 0x0, 0x0, 0x0, 0x0, 0x0, 0x0, 0x0, 0x0, 0x0, .plain⟩,  -- PAIR_PARTNER R417
  ⟨0xf0010, 0x0, 1, 0x0, 1, 0x0, 0x0, 0x0, 0x0, 0x0, 0x0, 0x0, 0x0, 0x0, .plain⟩,  -- PAIR_DSEQ R417
  ⟨0xf0018, 0x0, 1, 0x0, 1, 0x0, 0x0, 0x0, 0x0, 0x0, 0x0, 0x0, 0x0, 0x0, .plain⟩,  -- PAIR_TAKETL R417
  ⟨0xf001c, 0x0, 1, 0x0, 1, 0x0, 0x0, 0x0, 0x0, 0x0, 0x0, 0x0, 0x0, 0x0, .wideHigh⟩,  -- PAIR_TAKETH R417
  ⟨0xf0100, 0x0, 1, 0x0, 1, 0x0, 0x0, 0x0, 0x0, 0x0, 0x0, 0x0, 0x0, 0x0, .counter⟩,  -- PAIR_RCCNT R418
  ⟨0xf0104, 0x0, 1, 0x0, 1, 0x0, 0x0, 0x0, 0x0, 0x0, 0x0, 0x0, 0x0, 0x0, .counter⟩,  -- PAIR_DCCNT R418
  ⟨0xf0108, 0x0, 1, 0x0, 1, 0x0, 0x0, 0x0, 0x0, 0x0, 0x0, 0x0, 0x0, 0x0, .counter⟩,  -- PAIR_CRCERR R418
  ⟨0xf010c, 0x0, 1, 0x0, 1, 0x0, 0x0, 0x0, 0x0, 0x0, 0x0, 0x0, 0x0, 0x0, .counter⟩,  -- PAIR_MISS R418
  ⟨0xf0110, 0x0, 1, 0x0, 1, 0x0, 0x0, 0x0, 0x0, 0x0, 0x0, 0x0, 0x0, 0x0, .counter⟩,  -- PAIR_TAKECNT R418
  ⟨0xf0114, 0x0, 1, 0x0, 1, 0x0, 0x0, 0x0, 0x0, 0x0, 0x0, 0x0, 0x0, 0x0, .counter⟩,  -- PAIR_JOINCNT R418
  ⟨0xf0118, 0x0, 1, 0x0, 1, 0x0, 0x0, 0x0, 0x0, 0x0, 0x0, 0x0, 0x0, 0x0, .counter⟩,  -- PAIR_RETXCNT R418
  ⟨0xf011c, 0x0, 1, 0x0, 1, 0x0, 0x0, 0x0, 0x0, 0x0, 0x0, 0x0, 0x0, 0x0, .counter⟩ ]  -- PAIR_ACHKFAIL R418

/-- The DOM registers. -/
def regTableDom : List RegDesc := [
  ⟨0x100000, 0x0, 1, 0x0, 1, 0x0, 0x0, 0x0, 0x0, 0x0, 0xffffff03, 0x0, 0x0, 0xffffff03, .plain⟩,  -- DOM_CFG R419
  ⟨0x100004, 0x0, 1, 0x0, 1, 0x0, 0x0, 0x0, 0x0, 0x0, 0x0, 0x0, 0x0, 0x0, .plain⟩,  -- DOM_ID R419
  ⟨0x100008, 0x0, 1, 0x0, 1, 0x0, 0x0, 0x0, 0x0, 0x0, 0x0, 0x0, 0x0, 0x0, .plain⟩,  -- DOM_RANGE R419
  ⟨0x10000c, 0x0, 1, 0x0, 1, 0x0, 0x0, 0x0, 0x0, 0x0, 0x0, 0x0, 0x0, 0x0, .plain⟩,  -- DOM_PORTS R419
  ⟨0x100010, 0x0, 1, 0x0, 1, 0x0, 0x0, 0x0, 0x0, 0x0, 0x0, 0x0, 0x0, 0x0, .plain⟩,  -- DOM_TERR R419
  ⟨0x100014, 0x0, 1, 0x0, 1, 0x0, 0x0, 0x0, 0x0, 0x0, 0x0, 0x0, 0x0, 0x0, .plain⟩,  -- DOM_EPOCH R419
  ⟨0x100018, 0x0, 1, 0x0, 1, 0xffff, 0x0, 0x0, 0x0, 0x0, 0x0, 0x0, 0x0, 0xffff, .plain⟩,  -- DOM_EPOCHCFG R419
  ⟨0x10001c, 0x0, 1, 0x0, 1, 0x0, 0x0, 0x0, 0x0, 0x0, 0xff, 0x0, 0x0, 0xff, .plain⟩,  -- DOM_ILV R419
  ⟨0x100020, 0x0, 1, 0x0, 1, 0xfff, 0x0, 0x0, 0x0, 0x0, 0x0, 0x0, 0x0, 0xfff, .plain⟩,  -- DOM_ILVROOT R419
  ⟨0x100024, 0x0, 1, 0x0, 1, 0x3ffffff, 0x0, 0x0, 0x0, 0x0, 0x0, 0x0, 0x0, 0x3ffffff, .plain⟩,  -- DOM_SNAPCFG R419
  ⟨0x100028, 0x0, 1, 0x0, 1, 0x0, 0x0, 0x0, 0x0, 0x0, 0x0, 0x0, 0x7, 0x0, .plain⟩,  -- DOM_CTRL R419
  ⟨0x10002c, 0x0, 1, 0x0, 1, 0x0, 0x0, 0x0, 0x0, 0x0, 0x0, 0x0, 0x0, 0x0, .plain⟩,  -- DOM_SNAPSEQ R419
  ⟨0x100030, 0x0, 1, 0x0, 1, 0x0, 0x0, 0x0, 0x0, 0x0, 0x0, 0x0, 0x0, 0x0, .plain⟩,  -- DOM_ALARM R419
  ⟨0x100034, 0x0, 1, 0x0, 1, 0x0, 0x0, 0x0, 0x0, 0x0, 0x0, 0x0, 0x0, 0x0, .plain⟩,  -- DOM_ALMCNT R419
  ⟨0x100038, 0x0, 1, 0x0, 1, 0x0, 0x0, 0x0, 0x0, 0x0, 0x0, 0x0, 0x0, 0x0, .plain⟩,  -- DOM_ALMLOW R419
  ⟨0x10003c, 0x0, 1, 0x0, 1, 0x3ff, 0x0, 0x0, 0x0, 0x0, 0x0, 0x0, 0x0, 0x3ff, .plain⟩,  -- DOM_ALERTEN R419
  ⟨0x100100, 0x0, 1, 0x0, 1, 0x0, 0x0, 0x0, 0x0, 0x0, 0x0, 0x0, 0x0, 0x0, .counter⟩,  -- DOM_SNAPRX R420
  ⟨0x100104, 0x0, 1, 0x0, 1, 0x0, 0x0, 0x0, 0x0, 0x0, 0x0, 0x0, 0x0, 0x0, .counter⟩,  -- DOM_SNAPLATE R420
  ⟨0x100108, 0x0, 1, 0x0, 1, 0x0, 0x0, 0x0, 0x0, 0x0, 0x0, 0x0, 0x0, 0x0, .counter⟩,  -- DOM_EPOCHRX R420
  ⟨0x10010c, 0x0, 1, 0x0, 1, 0x0, 0x0, 0x0, 0x0, 0x0, 0x0, 0x0, 0x0, 0x0, .counter⟩,  -- DOM_LINKDOWN R420
  ⟨0x100110, 0x0, 1, 0x0, 1, 0x0, 0x0, 0x0, 0x0, 0x0, 0x0, 0x0, 0x0, 0x0, .counter⟩ ]  -- DOM_MSGERR R420

/-- The ACC registers. -/
def regTableAcc : List RegDesc := [
  ⟨0x110000, 0x0, 1, 0x0, 1, 0x0, 0x0, 0x0, 0x0, 0x0, 0x0, 0x0, 0x0, 0x0, .plain⟩,  -- ACC_LEVEL R450
  ⟨0x110004, 0x0, 1, 0x0, 1, 0x0, 0x0, 0x0, 0x0, 0x0, 0x0, 0x0, 0x0, 0x0, .plain⟩,  -- ACC_SESSION R450
  ⟨0x110008, 0x0, 1, 0x0, 1, 0x0, 0x0, 0x0, 0x0, 0x0, 0x0, 0x0, 0x0, 0x0, .plain⟩,  -- ACC_AUTHSTAT R450
  ⟨0x11000c, 0x0, 1, 0x0, 1, 0x0, 0x0, 0x0, 0x0, 0x0, 0x0, 0x0, 0x7, 0x0, .plain⟩,  -- ACC_CTRL R450
  ⟨0x110010, 0x0, 1, 0x0, 1, 0x1, 0x0, 0x0, 0x0, 0x0, 0x0, 0x0, 0x0, 0x1, .plain⟩,  -- ACC_PERM R450
  ⟨0x110014, 0x0, 1, 0x0, 1, 0x700, 0x0, 0x0, 0x0, 0x0, 0x7f, 0x0, 0x0, 0x77f, .plain⟩,  -- ACC_SMBCFG R450
  ⟨0x110018, 0x0, 1, 0x0, 1, 0x0, 0x0, 0x0, 0x0, 0x0, 0x0, 0x0, 0x0, 0x0, .plain⟩,  -- ACC_LASTERR R450
  ⟨0x11001c, 0x0, 1, 0x0, 1, 0x0, 0x0, 0x0, 0x0, 0x0, 0x0, 0x0, 0x0, 0x0, .plain⟩,  -- ACC_LASTADDR R450
  ⟨0x110020, 0x0, 1, 0x0, 1, 0x0, 0x0, 0x0, 0x0, 0x0, 0x0, 0x0, 0x1f, 0x0, .plain⟩,  -- ACC_INSTCTL R450
  ⟨0x110024, 0x0, 1, 0x0, 1, 0x0, 0x0, 0x0, 0x0, 0x0, 0x0, 0x0, 0xffffffff, 0x0, .plain⟩,  -- ACC_INSTDATA R450
  ⟨0x110028, 0x0, 1, 0x0, 1, 0x0, 0x0, 0x0, 0x0, 0x0, 0x0, 0x0, 0x0, 0x0, .plain⟩,  -- ACC_INSTSTAT R450
  ⟨0x11002c, 0x0, 1, 0x0, 1, 0x0, 0x0, 0x0, 0x0, 0x0, 0x0, 0x0, 0x0, 0x0, .plain⟩,  -- ACC_INSTCNT R450
  ⟨0x110100, 0x0, 1, 0x0, 1, 0x0, 0x0, 0x0, 0x0, 0x0, 0x0, 0x0, 0x0, 0x0, .counter⟩,  -- ACC_AUTHOK R451
  ⟨0x110104, 0x0, 1, 0x0, 1, 0x0, 0x0, 0x0, 0x0, 0x0, 0x0, 0x0, 0x0, 0x0, .counter⟩,  -- ACC_AUTHFAIL R451
  ⟨0x110108, 0x0, 1, 0x0, 1, 0x0, 0x0, 0x0, 0x0, 0x0, 0x0, 0x0, 0x0, 0x0, .counter⟩,  -- ACC_BACKOFFCNT R451
  ⟨0x11010c, 0x0, 1, 0x0, 1, 0x0, 0x0, 0x0, 0x0, 0x0, 0x0, 0x0, 0x0, 0x0, .counter⟩,  -- ACC_REFUSED R451
  ⟨0x110110, 0x0, 1, 0x0, 1, 0x0, 0x0, 0x0, 0x0, 0x0, 0x0, 0x0, 0x0, 0x0, .counter⟩,  -- ACC_PECERR R451
  ⟨0x110114, 0x0, 1, 0x0, 1, 0x0, 0x0, 0x0, 0x0, 0x0, 0x0, 0x0, 0x0, 0x0, .counter⟩ ]  -- ACC_INSTALLS R451

/-- The PERF registers. -/
def regTablePerf : List RegDesc := [
  ⟨0x120000, 0x0, 1, 0x0, 1, 0x0, 0x0, 0x0, 0x0, 0x0, 0x0, 0x0, 0xf, 0x0, .plain⟩,  -- PERF_CTRL R332
  ⟨0x120004, 0x0, 1, 0x0, 1, 0x1, 0x0, 0x0, 0x0, 0x0, 0x0, 0x0, 0x0, 0x1, .plain⟩,  -- PERF_CFG R332
  ⟨0x120008, 0x0, 1, 0x0, 1, 0x0, 0x0, 0x0, 0x0, 0x0, 0x0, 0x2, 0x0, 0x0, .plain⟩,  -- PERF_STAT R332
  ⟨0x12000c, 0x0, 1, 0x0, 1, 0x0, 0x0, 0x0, 0x0, 0x0, 0x0, 0x0, 0x0, 0x0, .plain⟩,  -- PERF_SNAPSEQ R332
  ⟨0x120010, 0x0, 1, 0x0, 1, 0x0, 0x0, 0x0, 0x0, 0x0, 0x0, 0x0, 0x0, 0x0, .plain⟩,  -- PERF_SNAPTL R332
  ⟨0x120014, 0x0, 1, 0x0, 1, 0x0, 0x0, 0x0, 0x0, 0x0, 0x0, 0x0, 0x0, 0x0, .wideHigh⟩,  -- PERF_SNAPTH R332
  ⟨0x120018, 0x0, 1, 0x0, 1, 0xffffff, 0x0, 0x0, 0x0, 0x0, 0x0, 0x0, 0x0, 0x0, .plain⟩,  -- PERF_WADDR R332
  ⟨0x12001c, 0x0, 1, 0x0, 1, 0xffffffff, 0x0, 0x0, 0x0, 0x0, 0x0, 0x0, 0x0, 0x0, .plain⟩,  -- PERF_WDATA R332
  ⟨0x120020, 0x0, 1, 0x0, 1, 0x0, 0x0, 0x0, 0x0, 0x0, 0x0, 0x1, 0x0, 0x0, .plain⟩,  -- PERF_RDSTAT R332
  ⟨0x120024, 0x0, 1, 0x0, 1, 0x0, 0x0, 0x0, 0x0, 0x0, 0x0, 0x0, 0x0, 0x0, .counter⟩,  -- PERF_SNAPOVRCNT R332
  ⟨0x124000, 0x4, 9217, 0x0, 1, 0x0, 0x0, 0x0, 0x0, 0x0, 0x0, 0xffffffff, 0x0, 0x0, .plain⟩ ]  -- PERF_OVF R332

/-- Every register of R452, in address order of the blocks. -/
def regTable : List RegDesc :=
  regTableSys ++ regTableTb ++ regTableLane ++ regTableYard ++ regTableEng0 ++ regTableEng1 ++ regTableLcp ++ regTableXnt ++ regTableProt ++ regTableHsw ++ regTableMeas0 ++ regTableMeas1 ++ regTableLoft ++ regTableEvt ++ regTablePair ++ regTableDom ++ regTableAcc ++ regTablePerf

/-- Whether byte address `a` (a multiple of 4) is one of the registers of row `r`. -/
def RegDesc.covers (r : RegDesc) (a : Nat) : Bool :=
  if a < r.base then false
  else
    let o := a - r.base
    let inner := if r.cnt2 ≤ 1 then o else if r.stride = 0 then o else o % r.stride
    let k := if r.cnt2 ≤ 1 then (if r.stride = 0 then 0 else o / r.stride) else o / r.stride
    let rest := if r.cnt2 ≤ 1 then (if r.stride = 0 then o else o % r.stride) else inner % r.stride2
    let j := if r.cnt2 ≤ 1 then 0 else inner / r.stride2
    decide (rest = 0) && decide (k < r.cnt) && decide (j < r.cnt2)

/-- The row of the register at address `a`, if R452 lists one there. -/
def findDesc (a : Nat) : Option RegDesc := regTable.find? (fun r => r.covers a)

/-- All RW bits of a row. -/
def RegDesc.rw (r : RegDesc) : Nat := r.live ||| r.sample ||| r.period ||| r.epoch ||| r.commit ||| r.start

/-- Every address of a row, ascending in the first index. -/
def RegDesc.addrs (r : RegDesc) : List Nat :=
  (List.range r.cnt).flatMap fun i => (List.range r.cnt2).map fun j => r.base + r.stride * i + r.stride2 * j

end Sys2Proof.Machine
end

