-- ==== Sys2Proof/Machine/State.lean ====
section
/-! DEFINITION. The state of the block: everything the spec gives the device, as plain data, and the queue of commands
that wait. INVENTORY.md, '## State', names each piece with its rule and reset value. -/

namespace Sys2Proof.Machine

/-! ### Pins, supplies and the device state (01_architecture.md, 02_starting_and_stopping.md) -/

/-- The device states of R24. -/
inductive DevState where
  | start | run | standby | idle | halt
deriving DecidableEq, Repr

/-- Pins and supplies as the device last saw them: the five control-die and store-die supplies, VAUX and VBUS_HV above
their power-on levels (R35, R456), RESET# and EXTRACT# low, the input supervisor in the above state (R36), EN[7:0],
TRIG, and the straps PAIR_ROLE and DOM_ROOT as read (R383, R407). -/
structure Pins where
  supplies : Bool := true
  vaux : Bool := true
  vbusHv : Bool := true
  resetLow : Bool := false
  extractLow : Bool := false
  above : Bool := false
  en : Nat := 0
  trig : Bool := false
  role : Nat := 0
  domRoot : Bool := true
deriving DecidableEq, Repr

/-- The device's own state: R24, the start step and kind (R28, R32), the wait of step 1 (R35), the pending start shadows,
the IDLE dwell (R62) and a wake in progress (R64). `stepAt` is the instant the present step began, on the outside clock;
`tail` says that item 2 of step 10 has begun (R48, R371, R379); `vauxLost` says that VAUX has fallen since the last cold start (R457), `loaded` that an image has been loaded since then (R39, R74). -/
structure Sys where
  state : DevState := .start
  step : Nat := 1
  kind : Nat := 0
  stepAt : Nat := 0
  pendingStart : Bool := false
  vinStale : Bool := false
  idleSince : Option Nat := none
  wakeAt : Option Nat := none
  wakeCount : Nat := 0
  imageB : Bool := false
  imageSeq : Nat := 0
  imageCrc : Nat := 0
  stallTable : List Nat := []
  vauxLost : Bool := false
  loaded : Bool := false
  tail : Bool := false
deriving DecidableEq, Repr

/-- The timebase (03_timebase_and_lanes.md). `wall` is the latest instant a command has carried, in eu of an outside
clock that never runs backward; timebase time is `wall + offset` once `running` (R73, log entry 10). Since
wall instant `slewAt` a slew moves `offset` from `slewBase` by `slewBy` at 50 ppm (R76, R410). `multAt` is the wall instant of the
SYNC_IN edge that ended the measurement of MULT (R72); `timeGot` holds, in step 2, the wall instant of a TIME message and the time
that it gave (R410). -/
structure Timebase where
  wall : Nat := 0
  running : Bool := false
  offset : Int := 0
  mult : Nat := 0
  multAt : Nat := 0
  timeGot : Option (Nat × Nat) := none
  lock : Bool := false
  holdover : Bool := false
  holdAt : Nat := 0
  slewing : Bool := false
  lossFault : Bool := false
  phErr : Int := 0
  slewAt : Nat := 0
  slewBase : Int := 0
  slewBy : Int := 0
deriving DecidableEq, Repr

/-- The lane states of R106. -/
inductive LaneState where
  | disabled | training | up | down | retired | parked
deriving DecidableEq, Repr

/-- A downstream frame placed in a slot (R77, R96): its slot number, its rank in R23's table, its body, the rail it is sent
for (8 for none, R218), for an EDGE the instant by which it must have left (R97; 0 for the others), and whether it has left. -/
structure Tx where
  slot : Nat
  rank : Nat
  body : Body
  rail : Nat := 8
  limit : Nat := 0
  gone : Bool := false
deriving DecidableEq, Repr

/-- An answer that a stage owes (R474): a PROBE of a kind, a STAGECFG of a parameter and value, or a CENSUS word. -/
inductive AskKind where
  | probe (kind : Nat)
  | cfg (param value : Nat)
  | census (word : Nat)
deriving DecidableEq, Repr

/-- One request outstanding at a position: what was asked, which attempt this is, and when its answer window ends. -/
structure Ask where
  pos : Nat
  kind : AskKind
  tries : Nat
  due : Nat
deriving DecidableEq, Repr

/-- One lane: state registers of R116, the training phase, the slot of its first MARK and the attempt in progress (R104), the
frames in flight, the answers owed, the census words received, whether this start trains it, since when it is UP,
the results of the last returned HOLD frames (R108), and the positions that never acknowledged phase 5 or failed ID_CHK. -/
structure Lane where
  state : LaneState := .disabled
  lame : Bool := false
  tries : Nat := 0
  cause : Nat := 0
  present : Nat := 0
  rt : Nat := 0
  term : Nat := 0
  held : Bool := false
  phase : Nat := 0
  markAt : Nat := 0
  attempt : Nat := 0
  attemptAt : Nat := 0
  tx : List Tx := []
  asks : List Ask := []
  census : RMap := []
  censusOk : Nat := 0
  badId : Nat := 0
  unanswered : Nat := 0
  unacked : Nat := 0
  holds : List Bool := []
  trained : Bool := false
  upAt : Nat := 0
  claims : Nat := 0
deriving DecidableEq, Repr

/-! ### Stalls and yards (04_the_yard.md) -/

/-- The stall states of YARD_SSTATEs.STATE (R150). -/
inductive StallState where
  | unused | spare | conducting | tapering | held | shed | failed | retired | incoming
deriving DecidableEq, Repr

/-- One EDGE frame as commanded: period start, ON and FINAL (R86, R123); the on-time and the residue it was built from,
and the slot it was given, by which R131 rebuilds a tapered frame that has not yet left. -/
structure EdgeSent where
  start : Nat
  on : Nat
  final : Bool
  u : Int
  res : Int
  slot : Nat
deriving DecidableEq, Repr

/-- One BURST sent to a stall (R476): when it began, its DUR in coarse steps, and when a CUT cut it short. -/
structure BurstSent where
  start : Nat
  dur : Nat
  cutAt : Option Nat
deriving DecidableEq, Repr

/-- One stall: YARD_SSTATEs, the role it holds (R118), trim and residue (R123, R125), the start of its first tapered period
(R130), the firing window from which a stall added or recalled conducts and the state it has until then (R129, R131), its wear
(R133, R134), its latest TELEM (R92), the frames it was sent lately, the earliest start of the next, and the marks of R136,
R139, R140 and R146. -/
structure Stall where
  state : StallState := .unused
  segok : Nat := 15
  cause : Nat := 0
  roleOf : Nat := 0
  trim : Int := 0
  res : Int := 0
  taperFrom : Nat := 0
  fromW : Nat := 0
  was : StallState := .shed
  nextFrom : Nat := 0
  heldEnd : Nat := 0
  acc : Nat := 0
  counter : Nat := 0
  weight : Nat := 0
  telemAt : Option Nat := none
  entered : Nat := 0
  cur : Int := 0
  temp : Nat := 0
  ptag : Nat := 0
  lim : Bool := false
  limPrev : Bool := false
  nlim : Bool := false
  otw : Bool := false
  flt : Bool := false
  late : Bool := false
  crcDrop : Bool := false
  fresh : Bool := false
  edges : List EdgeSent := []
  bursts : List BurstSent := []
  started : Bool := false
  stopDue : Bool := false
  faults : Nat := 0
  worn : Bool := false
  probeOk : Bool := true
  probes : Nat := 0
  returning : Nat := 0
  chosenFor : Nat := 0
  vacState : StallState := .conducting
  vacTaper : Nat := 0
  vacHeld : Nat := 0
  serial : Nat := 0
deriving DecidableEq, Repr

/-- The layout changes of R142. -/
inductive ChangeKind where
  | fill | retire | giveBack | commit | lane | lawUnit | balUnit
deriving DecidableEq, Repr

/-- A pending layout change: the role, stall, lane or unit it concerns (0 for a commit) and when it became pending. -/
structure Change where
  kind : ChangeKind
  id : Nat
  since : Nat
deriving DecidableEq, Repr

/-- One yard: m, the epoch, the pending layout changes and those taken at the boundary decided (R142, R143), the accepted
interleave commit with its staged words (R119), the advance of the phases that a new Δ asks for (R412), the drain (R144), the shed
timers, and the latest words of YARD_ONLIMn that were written over, each with the instant of that write (R9, R434). -/
structure Yard where
  m : Nat := 0
  epoch : Nat := 0
  pend : List Change := []
  taking : List Change := []
  commit : Option RMap := none
  dstep : Nat := 0
  code : Nat := 0
  boundary : Option Nat := none
  drainEnd : Option Nat := none
  deferred : Bool := false
  linearSince : Nat := 0
  dwell : Nat := 0
  lastShed : Nat := 0
  onlims : List (Nat × Word) := []
deriving DecidableEq, Repr

/-! ### The law engine (05_law_engine.md) -/

/-- The law state of R157: ifilt, s, the histories, vcprev, and whether the committed vc lay at a limit. -/
structure LawState where
  ifilt : Int := 0
  s : Int := 0
  x1 : Int := 0
  x2 : Int := 0
  y1 : Int := 0
  y2 : Int := 0
  vcprev : Int := 0
  outhi : Bool := false
  outlo : Bool := false
deriving DecidableEq, Repr

/-- The rebase a job carries (R166). -/
inductive Rebase where
  | none | ustar (u : Nat) | vcprev
deriving DecidableEq, Repr

/-- A bank of coefficients: mantissa and shift of each, and the four limits (R155). -/
structure Bank where
  b0 : Int × Nat
  b1 : Int × Nat
  b2 : Int × Nat
  a1 : Int × Nat
  a2 : Int × Nat
  ki : Int × Nat
  kff : Int × Nat
  kvin : Int × Nat
  kll : Int × Nat
  imin : Int
  imax : Int
  vcmin : Int
  vcmax : Int
deriving DecidableEq, Repr

/-- The inputs latched for a job at its boundary (R156), with the region and whether it is a hand-back (R225). -/
structure LawInputs where
  bank : Bank
  ec : Int
  vt : Int
  ir : Int
  vin : Nat
  rvin : Int
  rvnom : Int
  tp : Nat
  igain : Int
  kdr : Int × Nat
  first : Bool
  rebase : Rebase
  held : Bool
  region : Nat
  handBack : Bool
  satErr : Bool
deriving DecidableEq, Repr

/-- What a completed job delivers (R161): u, the new law state, x0, droop, vc and the sample's flags. -/
structure LawResult where
  u : Nat
  st : LawState
  x0 : Int
  droop : Int
  vc : Int
  satArith : Bool
  satInt : Bool
  satOut : Bool
  intHi : Bool
  intLo : Bool
  outHi : Bool
  outLo : Bool
deriving DecidableEq, Repr

/-- Where a job stands: waiting for a unit, running in one, or complete. -/
inductive JobPhase where
  | pending | running (unit : Nat) | complete
deriving DecidableEq, Repr

/-- A law job (R156): its inputs, its deadline, where it stands, and its result once complete. -/
structure LawJob where
  inp : LawInputs
  deadline : Nat
  phase : JobPhase
  result : Option LawResult
deriving DecidableEq, Repr

/-- A commit of a law-engine group accepted and not yet applied (R174, R176): the group's local code, its fields as
staged at acceptance, and what was written to them since. -/
structure GroupPend where
  code : Nat
  words : RMap
  late : RMap
deriving DecidableEq, Repr

/-- The law of one rail: committed state and outputs, the job in flight, the region, and the commits accepted.
`missDue` says that a miss has brought MISSRUN to MISS_MAX and no job has committed since (R164). -/
structure Law where
  st : LawState := {}
  u : Nat := 0
  vc : Int := 0
  x0 : Int := 0
  droop : Int := 0
  live : Nat := 0
  job : Option LawJob := none
  region : Nat := 0
  first : Bool := false
  rebasePend : Bool := false
  missRun : Nat := 0
  missDue : Bool := false
  swapped : Bool := false
  groups : List GroupPend := []
  code : Nat := 0
  group : Nat := 0
  kdrM : Nat := 0
  kdrS : Nat := 0
  intHi : Bool := false
  intLo : Bool := false
  outHi : Bool := false
  outLo : Bool := false
  voided : Bool := false
  handPend : Bool := false
deriving DecidableEq, Repr

/-- A balance job of one yard (R125): when it was queued, its deadline, where it stands, and the trims that its latched inputs
give (R16). -/
structure BalJob where
  since : Nat
  deadline : Nat
  phase : JobPhase
  trims : List (Nat × Int)
deriving DecidableEq, Repr

/-- A law or balance unit: serving, failed in step 9, lame, hung, since when it is free, the job it runs (rail and
dispatch instant), the verdicts of its last 256 jobs (R177), and its evaluation times (R184). -/
structure EvalUnit where
  serving : Bool := false
  failed : Bool := false
  lame : Bool := false
  hung : Bool := false
  freeAt : Nat := 0
  running : Option (Nat × Nat) := none
  ustar : Bool := false
  dropped : Bool := false
  hist : List Bool := []
  last : Nat := 0
  max : Nat := 0
  replacedBy : Option Nat := none
deriving DecidableEq, Repr

/-! ### Rails: targets, ramps, transients and protection (02, 06, 07, 08) -/

/-- The rail states of R26. -/
inductive RailState where
  | off | probe | ramp | reg | stop | hiccup | latched
deriving DecidableEq, Repr

/-- The modes of a rail in REG (R27). -/
inductive Mode where
  | linear | burst | cut | prepos
deriving DecidableEq, Repr

/-- The statuses of a destination command (R192). -/
inductive CmdStatus where
  | none | held | ramping | reached | superseded | aborted
deriving DecidableEq, Repr

/-- One destination command as LCP_CMDSTATn keeps it, with its NOTIFY bit. -/
structure Cmd where
  seq : Nat := 0
  status : CmdStatus := .none
  src : Nat := 0
  notify : Bool := false
deriving DecidableEq, Repr

/-- A STEP_AHEAD in force (R202): acceptance, direction, class, ts, ir0, and whether MODE has taken PREPOS. -/
structure Warn where
  ta : Nat
  dir : Nat
  cls : Nat
  ts : Nat
  ir0 : Int
  started : Bool
deriving DecidableEq, Repr

/-- A transient episode (R217–R221): its kind, the slot instant of its latest frames, its DUR in eu and the stalls of its
set. -/
structure Episode where
  cut : Bool
  ti : Nat
  dur : Nat
  set : List Nat
deriving DecidableEq, Repr

/-- A CROWBAR in progress (R246): frames sent, the slot instant of the latest and its DUR in coarse steps, and whether the cause was
found in REG. -/
structure Crowbar where
  sent : Nat
  ti : Nat
  dur : Nat
  inReg : Bool
deriving DecidableEq, Repr

/-- One rail. Its state and cause (R26, R29), hiccup timing (R252, R53), destination and commands (R185–R193), ramp
generator (R189), tracking and sequencing (R54–R59), STEP_AHEAD (R202), the open and the closed sample of conversions
(R211), thresholds and episode (R214–R221), and the counts of protection (R250–R262). -/
structure Rail where
  state : RailState := .off
  mode : Mode := .linear
  cause : Nat := 0
  retries : Nat := 0
  hicEnd : Nat := 0
  hicOver : Bool := false
  extGpc : Nat := 0
  owed : Option Nat := none
  dest : Nat := 0
  cls : Nat := 0
  rdest : Nat := 0
  rcls : Nat := 0
  cmdAt : Option Nat := none
  cmd : Cmd := {}
  prev : Cmd := {}
  hint : Nat := 0
  hintNext : Option (Nat × Nat) := none
  pos : Nat := 0
  startCode : Nat := 0
  vt : Nat := 0
  searched : Bool := false
  untracked : Bool := false
  following : Bool := false
  off : Int := 0
  offt : Int := 0
  warn : Option Warn := none
  tight : Bool := false
  seqMask : Nat := 0
  seqDue : Option Nat := none
  stopMask : Nat := 0
  stopDue : Option Nat := none
  coast : Bool := false
  regAt : Nat := 0
  fired : Bool := false
  lfMade : Bool := false
  ir : Int := 0
  irRing : List Int := []
  conv : Int := 0
  sum : Int := 0
  n : Nat := 0
  cmin : Int := 0
  cmax : Int := 0
  sat : Bool := false
  csum : Int := 0
  cn : Nat := 0
  cvt : Nat := 0
  ovthr : Nat := 0
  uvthr : Nat := 0
  droopc : Int := 0
  episode : Option Episode := none
  epSample : Bool := false
  nframes : Nat := 0
  inside : Nat := 0
  uhold : Nat := 0
  crowbar : Option Crowbar := none
  ovRun : Nat := 0
  uvRun : Nat := 0
  ocRun : Nat := 0
  otRun : Nat := 0
  hot : Nat := 0
  pg : Bool := false
  pgRun : Nat := 0
  inRamp : Nat := 0
deriving DecidableEq, Repr

/-- A load command port: the last accepted request and its answer (R198), the last response driven, if any. -/
structure Port where
  last : Nat := 0
  lastData : Nat := 0
  response : Option Nat := none
deriving DecidableEq, Repr

/-- One comparator of R236: its output and the instant of its last edge. -/
structure Comparator where
  level : Bool := false
  since : Nat := 0
  acted : Bool := true
deriving DecidableEq, Repr

/-- A last-fault record awaiting writing (R266): its values at tf as (offset, size, value), whether it holds the waveform
being recorded, its SEQ, tf, and the rail currents and input samples around tf gathered so far. -/
structure LfRec where
  words : List (Nat × Nat × Nat)
  wave : Bool
  seq : Nat
  tf : Nat
  rails : List (List Int)
  inputs : List (Nat × Int × Nat)
deriving DecidableEq, Repr

/-- The waveform ring of R265: recording, recording on to a freeze instant, or frozen. -/
inductive RingState where
  | armed | closing (freezeAt : Nat) | frozen
deriving DecidableEq, Repr

/-- Comparators, capture queue, the waveform ring and the last-fault records (08_protection_and_comparators.md). -/
structure Prot where
  comps : List Comparator := List.replicate 27 {}
  capture : List (BitVec 64) := []
  capLost : Bool := false
  ring : RingState := .armed
  waves : List (List Nat) := List.replicate 8 []
  inputs : List (Nat × Int × Nat) := []
  pending : List LfRec := []
  writing : Bool := false
  slot : Nat := 0
  lfSeq : Nat := 0
  lfSlots : List (Option Nat) := List.replicate 16 none
  scanned : Bool := false
  waveSeq : Nat := 0
  archQueue : List Nat := []
  archBusy : Bool := false
deriving DecidableEq, Repr

/-- The returned-energy bucket (R228, R229): E and the total in 1/32,000 µJ, the unit in which R228's sum is exact, and
whether the ceiling is in force. -/
structure Returned where
  e : Nat := 0
  total : Nat := 0
  ceil : Bool := false
deriving DecidableEq, Repr

/-! ### The input path (09_input_path.md) -/

/-- The input path's states (R278). -/
inductive GateState where
  | off | arm | ramp | on | wait | latched | bleed
deriving DecidableEq, Repr

/-- The coefficients of one metering path (R296). -/
structure Coef where
  gain : Nat := 0
  offset : Int := 0
  shift : Nat := 0
deriving DecidableEq, Repr

/-- One input sample of a ramp: bus voltage in mV, current in mA, and whether a limit acted (R281). -/
structure RampSample where
  v : Int
  i : Int
  limit : Bool
deriving DecidableEq, Repr

/-- What the control die has sent to the high-voltage die (R14, R15): the budget and cooling of the fault timer, the limits of
R282, the slew of R281, RSHUNT, and the coefficients of the paths with whether the shunt path's come from a certificate (R296). -/
structure HvSent where
  budget : Nat := 0
  cool : Nat := 0
  istart : Nat := 0
  irun : Nat := 0
  plim : Nat := 0
  slew : Nat := 0
  rshunt : Nat := 0
  coef : List Coef := List.replicate 4 {}
  cal1 : Bool := false
deriving DecidableEq, Repr

/-- The input path as the two dies hold it: R278–R298. `efet` is in pJ; `ref` in 0.1 mV; `ein`, `erev` and `lifeNj` in nJ; `life` in J.
The readings `vraw` to `p` are the control die's (R305); `hvV`, `hvI`, `hvVds` and `hvDrop` are the high-voltage die's own, by the
coefficients it was sent, on which it acts alone (R14). `seen` says that efet has come up since the cold start (R303).
`pendTrip` and `pendOn` are what the high-voltage die found while ticks were lost (R302); `bleedV` is the VSTOP that the
bleed in progress was commanded with (R294), `extBleed` whether an extraction commanded it (R302), and `step8Due` that step 8
began in it and goes on when it ends (R279, R291). `sent` is what the high-voltage die was sent (R14), and `ownAt` the instant, on
the outside clock, up to which its own oscillator has run the fault timer while ticks are lost (R15). `vdsLowAt` is on the outside
clock too. `extCmd` says that an extraction's gate-off waits for ticks (R15, R292), `sunk` that the high-voltage die of a member
that is not the input owner has turned the gate off (R14, R385). `limSince` says that a limit has acted
since the last input sample (R281, R282), `severe` that the severe comparator has become active with the gate on (R285). -/
structure Hsw where
  state : GateState := .off
  resume : GateState := .off
  waitLeft : Nat := 0
  retries : Nat := 0
  cause : Nat := 0
  recState : Nat := 0
  recEnded : Nat := 0
  recDone : Bool := false
  ilim : Bool := false
  plim : Bool := false
  fetShort : Bool := false
  efet : Nat := 0
  ref : Nat := 0
  rampAt : Nat := 0
  onAt : Nat := 0
  waitEnd : Nat := 0
  offAt : Nat := 0
  offCmd : Option Nat := none
  ibcEn : Bool := false
  ibcFall : Option Nat := none
  ovTripped : Bool := false
  vraw : Nat := 0
  iraw : Int := 0
  vdsRaw : Nat := 0
  vds : Int := 0
  hvV : Int := 0
  hvI : Int := 0
  hvVds : Int := 0
  hvDrop : Nat := 0
  seen : Bool := false
  extCmd : Bool := false
  sunk : Bool := false
  v : Int := 0
  i : Int := 0
  p : Int := 0
  vib : Nat := 0
  vibSent : Nat := 0
  vibAt : Nat := 0
  ibovNow : Bool := false
  vdsLowAt : Option Nat := none
  ramp : List RampSample := []
  tickLost : Bool := false
  lastTick : Nat := 0
  ownAt : Nat := 0
  sent : HvSent := {}
  limSince : Bool := false
  severe : Bool := false
  pendTrip : Nat := 0
  pendOn : Bool := false
  ein : Nat := 0
  erev : Nat := 0
  life : Nat := 0
  lifeNj : Nat := 0
  lifeFlush : Nat := 0
  wearFlush : Nat := 0
  coef : List Coef := List.replicate 4 {}
  calValid : Nat := 0
  calPending : Nat := 0
  calOldest : Option Nat := none
  cmeas : Nat := 0
  vstop : Nat := 0
  bleedEnd : Nat := 0
  bleedV : Nat := 0
  extBleed : Bool := false
  step8Due : Bool := false
deriving DecidableEq, Repr

/-! ### Registers -/

/-- The register file. `act` holds the values in force of the software-written fields; `hold` what the host reads of
them: the shadow or holding copy (R434). `stat` holds stored RO fields and W1C bits. `cnt`, `snap` and `ovf` are the
live counts, the snapshot table and the overflow map (R323, R324). `latch` and `fresh` are the upper-word latches of
R318. -/
structure Regs where
  act : RMap := []
  hold : RMap := []
  stat : RMap := []
  cnt : RMap := []
  snap : RMap := []
  ovf : RMap := []
  latch : RMap := []
  fresh : List Nat := []
deriving DecidableEq, Repr

/-! ### The event recorder (12_event_recorder.md) -/

/-- Bytes 0x00–0x3B of an event record without POS (R360). `data` lists the used DATA bytes; unused ones are 0.
`late` marks an event raised before step 3 of a cold start has read counters 513 and 514 (R361). -/
structure EvRec where
  pcycle : Nat
  optime : Nat
  code : Nat
  addr : Word
  time : Nat
  rep : Nat
  data : List Byte
  late : Bool
deriving DecidableEq, Repr

/-- Where the record being written came from (R367). -/
inductive RecSrc where
  | latch
  | queue (i : Nat)
  | summary
  | cleared
deriving DecidableEq, Repr

/-- How the write of a record or of another loft job ended: R335, R339, R337, R356. -/
inductive LoftEnd where
  | done | refused | noSpare | portFail
deriving DecidableEq, Repr

/-- The record being written, its position (R368), and how its two steps ended once they have. -/
structure RecCur where
  src : RecSrc
  ev : EvRec
  pos : Nat
  ended : Option LoftEnd
deriving DecidableEq, Repr

/-- The event recorder: input queue (R364), hold table (R365), pending losses by class (R366), last-words latches with
their overflow count (R376), EVT_HEAD (R368), the record in progress, and the clear in progress (R373): `cleared` while its
LOG_CLEARED record is written and counter 515 is not yet. -/
structure Recorder where
  queue : List EvRec := []
  hold : List EvRec := []
  lost : List Nat := List.replicate 8 0
  lostTime : Nat := 0
  latches : List EvRec := []
  lwOver : Nat := 0
  lwWritten : Nat := 0
  head : Nat := 0
  cur : Option RecCur := none
  unusable : Bool := false
  released : Bool := false
  clearing : Bool := false
  clearCode : Nat := 0
  clearSession : Nat := 0
  rslot : Nat := 0
  rvalid : Bool := false
  rwords : List Word := []
  countWrite : Bool := false
  cleared : Bool := false
deriving DecidableEq, Repr

/-! ### The loft controller and the store die (11_the_loft.md) -/

/-- The two-copy records of R341; `cert p` is the certificate of path `p`. -/
inductive Rec2 where
  | identity | keyArea | cert (p : Nat) | serials | remap | input
deriving DecidableEq, Repr

/-- Whose write a loft job is: what its end leads to. -/
inductive LoftTag where
  | counter
  | serialCounter
  | rec2 (r : Rec2)
  | event
  | lastFault
  | archive
  | history
  | started
  | finished
  | installBody
  | installFinal
  | dual
  | host
deriving DecidableEq, Repr

/-- What a job asks for: a new value of a spread counter (R351), a write of a two-copy record (R343), an image-history entry
whose HSEQ follows the valid ones (R349; its bytes 0x04–0x3B), or steps whose addresses and bytes are already known. -/
inductive LoftReq where
  | counter (k value : Nat)
  | rec2 (r : Rec2) (payload : List Byte)
  | hist (body : List Byte)
  | plain
deriving DecidableEq, Repr

/-- A writer's sequence of steps waiting for the write buffer (R335). `prio` is its rank in R23: 0 last-fault record,
1 fault-class event, 2 spread counter, 3 other events, 4 image install and host writes. -/
structure LoftJob where
  prio : Nat
  tag : LoftTag
  req : LoftReq
  steps : List (Nat × List Byte)
  begun : Bool
deriving DecidableEq, Repr

/-- One entry of the remap table (R338): the spare's index in the pool, the page it replaces and its USE code. -/
structure RemapEntry where
  spare : Nat
  page : Nat
  use : Nat
deriving DecidableEq, Repr

/-- A remap in progress within a step (R337): the table being written, the page that failed, the spare that will serve it
(none when the pool could not), the steps of the table's write still to come, and what is left of the step. -/
structure RemapWrite where
  table : List RemapEntry
  page : Nat
  spare : Option Nat
  steps : List (Nat × List Byte)
  left : Nat × List Byte
deriving DecidableEq, Repr

/-- The winner of a two-copy record as the controller keeps it (R343): whether B holds it, its SEQ, and the SEQ of the
valid loser, if any. -/
structure Winner where
  copyB : Bool
  seq : Nat
deriving DecidableEq, Repr

/-- The loft controller and what the store die holds beside its array: failing words (R336), the protection word
(R339, R340), the remap table, record winners, the host step buffer and the jobs of every writer. The first job is the
one whose step holds the buffer while `busy`. `changed` holds, until the serial table is written, each stall whose stage has changed,
with the old and the new serial (R353). -/
structure Loft where
  portOk : Bool := false
  portRetry : Nat := 0
  busy : Bool := false
  jobs : List LoftJob := []
  failing : List Nat := []
  cuts : Nat := 0
  remap : List RemapEntry := []
  remapping : Option RemapWrite := none
  bpWord : Nat := 0
  bp : Nat := 0
  protPend : Option Nat := none
  winners : List (Rec2 × Winner) := []
  hostBuf : List Word := []
  hostOver : Bool := false
  hostBusy : Bool := false
  hostCode : Nat := 0
  imgValidA : Bool := false
  imgValidB : Bool := false
  imgSeqA : Nat := 0
  imgSeqB : Nat := 0
  installing : Bool := false
  pcycle : Nat := 0
  opBase : Nat := 0
  opStart : Nat := 0
  opFlushed : Nat := 0
  countersRead : Bool := false
  histNext : Nat := 1
  reqAddr : Nat := 0
  changed : List (Nat × Nat × Nat) := []
deriving DecidableEq, Repr

/-! ### The SAR bank, the metering windows and the central reader (10_measurement.md) -/

/-- One of the four converters: its failed paths, the inputs its spare paths 13 and 14 serve (15 none, R308), the path
to check next, the paths whose last check failed, and the last check instant. -/
structure Converter where
  failed : Nat := 0
  sp13 : Nat := 15
  sp14 : Nat := 15
  nextPath : Nat := 0
  oneFail : Nat := 0
  pendingFail : List Nat := []
  lastCheck : Nat := 0
deriving DecidableEq, Repr

/-- A running sequence (R309, R311): acceptance instant, label, low-power mode, the latched lists of (input, queue) of
the four converters and how many results each has delivered. -/
structure Sequence where
  te : Nat
  tseq : Nat
  lp : Bool
  lists : List (List (Nat × Nat))
  taken : List Nat
deriving DecidableEq, Repr

/-- The accumulators of one metering window (R317). -/
structure Window where
  start : Nat := 0
  ein : Nat := 0
  erev : Nat := 0
  ns : Nat := 0
  vmin : Int := 0
  vmax : Int := 0
  imax : Int := 0
  eout : List Int := List.replicate 8 0
deriving DecidableEq, Repr

/-- A window that a trigger has closed and that is draining: its end and its label (R316). -/
structure Closing where
  win : Window
  te : Nat
  tseq : Nat
deriving DecidableEq, Repr

/-- The SAR bank, its queues, the windows and the snapshot in progress (ts, label and the table being built). `outAt` is the
last whole µs of timebase time whose output energy the window holds (R317). -/
structure Meas where
  conv : List Converter := List.replicate 4 {}
  seq : Option Sequence := none
  lpAct : Bool := false
  queues : List (List Word) := List.replicate 4 []
  tseq : Nat := 0
  te : Nat := 0
  dieTemp : Nat := 0
  dieTaken : Bool := false
  win : Window := {}
  sampled : Bool := false
  outAt : Nat := 0
  closing : Option Closing := none
  pub : Closing := ⟨{}, 0, 0⟩
  snapBusy : Option (Nat × Nat × RMap) := none
  snapSeq : Nat := 0
  snapTime : Nat := 0
deriving DecidableEq, Repr

/-! ### Access, sessions, installs and the management port (14_management_and_access.md) -/

/-- The key area as the control die holds it (R345). -/
structure KeyArea where
  lock : Bool := false
  gen : Nat := 0
  salt : List Byte := List.replicate 16 0
  hash : List Byte := List.replicate 32 0
  serial : Nat := 0
  pwSet : Bool := false
deriving DecidableEq, Repr

/-- ACC_INSTSTAT.STATE (R450). -/
inductive InstState where
  | idle | receiving | writing | done | rejected
deriving DecidableEq, Repr

/-- An install in progress (R443, R446): the words of the stream, the steps of the body already handed to the loft,
and the copy written. `shown` counts the words since BEGIN or the last CERT (ACC_INSTCNT, R450). -/
structure Install where
  state : InstState := .idle
  code : Nat := 0
  dual : Bool := false
  second : Bool := false
  copyB : Bool := false
  header : List Word := []
  buffer : List Word := []
  words : Nat := 0
  shown : Nat := 0
  bodyAt : Nat := 0
  crc : Nat := 0xFFFFFFFF
  seq : Nat := 0
  bodyCrc : Nat := 0
  failed : Bool := false
  phase : Nat := 0
  certWords : List Word := []
  session : Nat := 0
deriving DecidableEq, Repr

/-- Access: level, session, attempts, the end of the back-off and whether it was lost (R440), the challenge, the key area
and the install. `lastTxn` is the instant of the latest transaction, and `prevTxn` of the one before it, which ACC_AUTHSTAT.IDLE counts
from while the latest is answered (R441, R450). -/
structure Access where
  level : Nat := 0
  session : Nat := 0
  begun : Nat := 0
  lastTxn : Nat := 0
  prevTxn : Nat := 0
  fails : Nat := 7
  backEnd : Nat := 0
  lost : Bool := true
  chal : Option (List Byte × Nat) := none
  draws : Nat := 0
  key : KeyArea := {}
  keyBy : List (Nat × Nat) := []
  inst : Install := {}
deriving DecidableEq, Repr

/-- The management port: PAGE, the register window address, the sticky status bytes (R429), the code of the command being served,
and the last answer that the device put on the bus: its bytes and the PEC byte after them, if the host clocked one (R421), or that
it did not acknowledge. -/
structure Mgmt where
  page : Nat := 0
  window : Nat := 0
  vout : List Nat := List.replicate 8 0
  iout : List Nat := List.replicate 8 0
  temp : List Nat := List.replicate 8 0
  mfr : List Nat := List.replicate 8 0
  input : Nat := 0
  cml : Nat := 0
  cmd : Nat := 0
  answer : List Byte := []
  pec : Option Byte := none
  acked : Bool := true
deriving DecidableEq, Repr

/-! ### Redundant pairs and domains (13_pair_and_domain.md) -/

/-- A link of R386 or R407: its state as PAIR_LINK.STATE codes it and its round trip in eu. -/
structure Link where
  state : Nat := 0
  rt : Nat := 0
deriving DecidableEq, Repr

/-- What HELLO last said of the partner, when an intact message last arrived, and whether a HELLO has come from it in START since
this member's cold start (R389). -/
structure Partner where
  hello : Option HelloMsg := none
  started : Bool := false
  lastAt : Option Nat := none
deriving DecidableEq, Repr

/-- A delta sent and not yet acknowledged: its sequence number, content, first and latest send instants (R397). -/
structure DeltaSent where
  seq : Nat
  d : Delta
  first : Nat
  latest : Nat
deriving DecidableEq, Repr

/-- The pair (R383–R405): role and standing, the link, the partner, and arming and deltas: the JOIN messages of the sequence that
the primary last began and when, the standby's place in one, and since when a delta is missing. Then the commits held by
a standby with the boundary or tick of each, takeover and authority, the input owner, and what the command carried out last
sent, in order; `commits` are group commits (group, rail, boundary count) of a boundary later than the last RC's (R397, R416). -/
structure Pair where
  primary : Bool := false
  settled : Bool := false
  alone : Bool := false
  armed : Bool := false
  mismatch : Bool := false
  waiting : Bool := false
  owner : Bool := false
  authority : Bool := false
  missRun : Nat := 0
  term : Nat := 0
  link : Link := {}
  partner : Partner := {}
  pfltLowAt : Option Nat := none
  negAt : Nat := 0
  tx : Nat := 0
  ack : Nat := 0
  unacked : List DeltaSent := []
  joinAt : Option Nat := none
  joinOut : List JoinMsg := []
  joinNext : Nat := 0
  joined : Bool := false
  gapAt : Option Nat := none
  partnerArmed : Bool := false
  rcAt : List Nat := List.replicate 8 0
  dc : Option DcMsg := none
  dcAt : Nat := 0
  offsets : RMap := []
  trimIndex : List Nat := List.replicate 8 0
  handoverAt : Option Nat := none
  takenUntil : Option Nat := none
  checkPos : List Nat := List.replicate 32 0
  checkMiss : List Nat := List.replicate 32 0
  offered : Bool := false
  loftLogged : Bool := false
  sent : List PairMsg := []
  commits : List (Nat × Nat × Nat) := []
  helloSent : Option HelloMsg := none
  helloAt : Nat := 0
deriving DecidableEq, Repr

/-- The domain (R407–R415): identity and the range received or divided, ports, time error, the epochs to come, each with its
instant, and the Δ that the next brings, Δ and the epoch that this member has adopted itself (`ownDelta`, `ownEpoch`: a standby shows
its primary's), snapshots due as (number, instant), alarms, the root's members, and the messages that the command carried out last sent on each port. -/
structure Dom where
  id : Nat := 0
  valid : Bool := false
  noid : Bool := false
  depth : Nat := 0
  aligned : Bool := false
  range : Nat := 0
  settleAt : Option Nat := none
  divided : Bool := false
  dup : Link := {}
  ddn0 : Link := {}
  ddn1 : Link := {}
  terr : Int := 0
  enumGot : Option (Nat × Nat × Nat) := none
  epoch : Nat := 0
  epochs : List (Nat × Nat) := []
  ilvNext : Option Nat := none
  delta : Nat := 0
  ownDelta : Nat := 0
  ownEpoch : Nat := 0
  epochAt : Nat := 0
  snapSeq : Nat := 0
  snapDue : List (Nat × Nat) := []
  snapAt : Nat := 0
  sticky : Nat := 0
  child0 : Nat × Nat × Nat := (0, 0, 0)
  child1 : Nat × Nat × Nat := (0, 0, 0)
  reports : List ReportMsg := []
  alarmSent : Option (Nat × Nat × Nat) := none
  alarmAt : Nat := 0
  sentUp : List DomMsg := []
  sent0 : List DomMsg := []
  sent1 : List DomMsg := []
deriving DecidableEq, Repr

/-! ### The whole device -/

/-- The device: all three dies and its pins. `deviceKey` and `fuseSerial` are what the control die's fuses hold (R41,
R436–R439). `cuts` counts the cuts of loft steps so far (R336) and `draws` in `acc` the draws from the random source;
both index free values of Config. -/
structure Dev where
  regs : Regs := {}
  pins : Pins := {}
  sys : Sys := {}
  tb : Timebase := {}
  lanes : List Lane := List.replicate 32 {}
  stalls : List Stall := List.replicate 512 {}
  yards : List Yard := List.replicate 8 {}
  laws : List Law := List.replicate 8 {}
  bals : List (Option BalJob) := List.replicate 8 none
  lawUnits : List EvalUnit := List.replicate 10 {}
  balUnits : List EvalUnit := List.replicate 3 {}
  rails : List Rail := List.replicate 8 {}
  ports : List Port := List.replicate 4 {}
  prot : Prot := {}
  ret : Returned := {}
  hsw : Hsw := {}
  meas : Meas := {}
  loft : Loft := {}
  evt : Recorder := {}
  acc : Access := {}
  mgmt : Mgmt := {}
  pair : Pair := {}
  dom : Dom := {}
  deviceKey : List Byte := List.replicate 32 0
  fuseSerial : Nat := 0
deriving DecidableEq, Repr

/-- The state: the commands waiting, first in, first out; the 64 MB array of the loft; and the device. -/
structure State where
  pending : List Instr := []
  array : Memory := []
  dev : Dev := {}
deriving DecidableEq, Repr

/-- Why the machine stops with a fault. -/
inductive Fault where
  /-- Raised by LOFT_WCTL_GO, REGISTER_WRITE, REG_WRITE and REG_DATA where they accept a GO whose buffered words run past the
  last address of the loft's array (R333, R358, log entry 20). Safe: the machine stops where nothing is specified. -/
  | loftBeyondArray
deriving DecidableEq, Repr

/-- Why the machine refuses a command. -/
inductive Refusal where
  /-- Raised by an arm of `exec` whose command has no meaning yet; no arm is left without one. Safe: nothing is claimed of it. -/
  | notModelled (mnemonic : String)
deriving DecidableEq, Repr

/-- The machine right after reset: supplies up, START at step 1 of a cold start, every register at its reset value, an
empty loft array and no command waiting. -/
def State.reset : State := {}

end Sys2Proof.Machine
end

