-- ==== Sys2Proof/Machine/Ops.lean ====
section
/-! DEFINITION. The shared operations of every command: time, registers and counters, events and their queue, the loft
as reads see it and jobs for its writers, and what follows of itself after a command. -/

namespace Sys2Proof.Machine

/-! ### Codes of the states -/

def DevState.code : DevState → Nat
  | .start => 0 | .run => 1 | .standby => 2 | .idle => 3 | .halt => 4

def RailState.code : RailState → Nat
  | .off => 0 | .probe => 1 | .ramp => 2 | .reg => 3 | .stop => 4 | .hiccup => 5 | .latched => 6

def Mode.code : Mode → Nat
  | .linear => 0 | .burst => 1 | .cut => 2 | .prepos => 3

def LaneState.code : LaneState → Nat
  | .disabled => 0 | .training => 1 | .up => 2 | .down => 3 | .retired => 4 | .parked => 5

def StallState.code : StallState → Nat
  | .unused => 0 | .spare => 1 | .conducting => 2 | .tapering => 3 | .held => 4 | .shed => 5 | .failed => 6
  | .retired => 7 | .incoming => 8

def CmdStatus.code : CmdStatus → Nat
  | .none => 0 | .held => 1 | .ramping => 2 | .reached => 3 | .superseded => 4 | .aborted => 5

def GateState.code : GateState → Nat
  | .off => 0 | .arm => 1 | .ramp => 2 | .on => 3 | .wait => 4 | .latched => 5 | .bleed => 6

def InstState.code : InstState → Nat
  | .idle => 0 | .receiving => 1 | .writing => 2 | .done => 3 | .rejected => 4

/-! ### Time -/

/-- Edge units in 1 µs (R19), in 1 ms and in 1 s. -/
def usEu : Nat := 51200
def msEu : Nat := 51200000
def secEu : Nat := 51200000000

/-- Timebase time in eu; 0 before lock (R73, R361). -/
def Dev.now (d : Dev) : Nat := if d.tb.running then ((d.tb.wall : Int) + d.tb.offset).toNat else 0

/-- How far a slew in progress has moved timebase time by wall instant `w`, at 50 ppm (R76, R410). -/
def Timebase.moved (b : Timebase) (w : Nat) : Int :=
  let k : Int := (w - b.slewAt) / 20000
  max (-k) (min k b.slewBy)

/-- The timebase at wall instant `w`. PHERR follows the slew of R76; under lock it keeps the last value, because no command
carries an edge's phase error then (DESIGN CHOICE: log entry 79). -/
def Timebase.toWall (w : Nat) (b : Timebase) : Timebase :=
  { b with wall := w, offset := if b.slewBy = 0 then b.offset else b.slewBase + b.moved w,
           phErr := if b.slewing then b.moved w - b.slewBy else b.phErr }

/-- Timebase time begins to move by `by_` eu, at 50 ppm. -/
def Dev.slew (by_ : Int) (d : Dev) : Dev :=
  { d with tb := { d.tb with slewAt := d.tb.wall, slewBase := d.tb.offset, slewBy := by_ } }

/-- The clock by which the high-voltage die's bleed is timed: timebase time, or the outside clock before the timebase runs
(R15, R19, R294). -/
def Dev.hvClock (d : Dev) : Nat := if d.tb.running then d.now else d.tb.wall

/-- What is left of a bleed, by instant `c`, once the high-voltage die's own oscillator times it: never more, and at most 20 %
less (R15, R19). -/
def Hsw.onOwn (c : Nat) (h : Hsw) : Hsw := { h with bleedEnd := c + (h.bleedEnd - c) * 1000 / (1000 + Config.ownOscillator % 251) }

/-- What is left of a bleed, by instant `c`, once ticks time it again. -/
def Hsw.onTicks (c : Nat) (h : Hsw) : Hsw := { h with bleedEnd := c + (h.bleedEnd - c) * (1000 + Config.ownOscillator % 251) / 1000 }

/-! ### Pieces of the state -/

def Dev.rail (d : Dev) (n : Nat) : Rail := d.rails.getD n {}
def Dev.yard (d : Dev) (n : Nat) : Yard := d.yards.getD n {}
def Dev.law (d : Dev) (n : Nat) : Law := d.laws.getD n {}
def Dev.stall (d : Dev) (s : Nat) : Stall := d.stalls.getD s {}
def Dev.lane (d : Dev) (l : Nat) : Lane := d.lanes.getD l {}
def Dev.lawUnit (d : Dev) (u : Nat) : EvalUnit := d.lawUnits.getD u {}
def Dev.balUnit (d : Dev) (u : Nat) : EvalUnit := d.balUnits.getD u {}

def Dev.onRail (n : Nat) (f : Rail → Rail) (d : Dev) : Dev := { d with rails := modAt d.rails n f }
def Dev.onYard (n : Nat) (f : Yard → Yard) (d : Dev) : Dev := { d with yards := modAt d.yards n f }
def Dev.onLaw (n : Nat) (f : Law → Law) (d : Dev) : Dev := { d with laws := modAt d.laws n f }
def Dev.onStall (s : Nat) (f : Stall → Stall) (d : Dev) : Dev := { d with stalls := modAt d.stalls s f }
def Dev.onLane (l : Nat) (f : Lane → Lane) (d : Dev) : Dev := { d with lanes := modAt d.lanes l f }
def Dev.onLawUnit (u : Nat) (f : EvalUnit → EvalUnit) (d : Dev) : Dev := { d with lawUnits := modAt d.lawUnits u f }
def Dev.onBalUnit (u : Nat) (f : EvalUnit → EvalUnit) (d : Dev) : Dev := { d with balUnits := modAt d.balUnits u f }

/-- Carry out `f` when `c` holds. -/
def Dev.when (c : Bool) (f : Dev → Dev) (d : Dev) : Dev := if c then f d else d

/-- Carry out `f` for each element of a list in order. -/
def Dev.each {α : Type} (l : List α) (f : α → Dev → Dev) (d : Dev) : Dev := l.foldl (fun d a => f a d) d

/-- The rails whose bit of a mask is 1, ascending. -/
def maskList (n m : Nat) : List Nat := (List.range n).filter fun i => m.testBit i

/-- The rails whose YARD_CFGn.EN is 1. -/
def Dev.enabledRails (d : Dev) : List Nat := (List.range 8).filter fun n => d.regs.act.YARD_CFG_EN n = 1

/-- A field in which 0 acts as 1. -/
def atLeast1 (v : Nat) : Nat := if v = 0 then 1 else v

/-! ### Registers -/

/-- A stored RO or W1C register. -/
def Dev.stat (d : Dev) (a : Nat) : Word := d.regs.stat.rd a
def Dev.setStat (a : Nat) (v : Word) (d : Dev) : Dev := { d with regs.stat := d.regs.stat.wr a v }
def Dev.setStatFld (a hi lo v : Nat) (d : Dev) : Dev := d.setStat a (setFld (d.stat a) hi lo v)
/-- Set the bits of `mask` in a stored register. -/
def Dev.stick (a mask : Nat) (d : Dev) : Dev := d.setStat a (d.stat a ||| BitVec.ofNat 32 mask)

/-- The word and bit of the overflow map for the counter at `a` (R323). -/
def ovfWord (a : Nat) : Nat := 0x124000 + 4 * (a / 128)
def ovfBit (a : Nat) : Nat := (a / 4) % 32

/-- Advance the live count at `a` by `k`: it wraps at 2^32, and a wrap sets its overflow bit (R323). -/
def Dev.count (a : Nat) (k : Nat := 1) (d : Dev) : Dev :=
  let v := (d.regs.cnt.rd a).toNat + k
  let r := { d.regs with cnt := d.regs.cnt.wr a (BitVec.ofNat 32 v) }
  let o := r.ovf.rd (ovfWord a) ||| BitVec.ofNat 32 (2 ^ ovfBit a)
  { d with regs := if v < 2 ^ 32 then r else { r with ovf := r.ovf.wr (ovfWord a) o } }

/-! ### Global addresses (R4–R6) -/

/-- The global address word of R5. -/
def Dev.gaWord (d : Dev) (kind stall seg : Nat) : Word :=
  BitVec.ofNat 32 (kind * 2 ^ 29 + (d.dom.id % 65536) * 2 ^ 11 + (stall % 512) * 4 + seg % 4)

def Dev.gaStall (d : Dev) (s : Nat) : Word := d.gaWord 1 s 0
def Dev.gaLane (d : Dev) (l : Nat) : Word := d.gaWord 2 (16 * l) 0
def Dev.gaRail (d : Dev) (n : Nat) : Word := d.gaWord 3 n 0
def Dev.gaDev (d : Dev) : Word := d.gaWord 4 0 0

/-- The domain ID in an address word; one whose KIND is reserved is unknown (R5, R6). -/
def gaId (a : Nat) : Option Nat := if a / 2 ^ 29 % 8 ≤ 4 then some (a / 2 ^ 11 % 2 ^ 16) else none

/-! ### Operating time (R352) -/

/-- The operating time in ms: the value read in step 3 and the timebase time since. -/
def Dev.opTime (d : Dev) : Nat := d.loft.opBase + (d.now - d.loft.opStart) / msEu

/-! ### Events (R360–R366, R376) -/

/-- The class of an event code (R362). -/
def evClass (code : Nat) : Nat := code / 4096

/-- The event of a code, address and data raised now (R361). -/
def Dev.mkEvent (d : Dev) (code : Nat) (addr : Word) (data : List Byte) : EvRec :=
  { pcycle := d.loft.pcycle, optime := d.opTime, code := code, addr := addr, time := d.now, rep := 0,
    data := data.take 28, late := !d.loft.countersRead }

/-- A fault-class event takes a last-words latch; latch 7 always holds the newest (R376). -/
def Dev.toLatch (e : EvRec) (d : Dev) : Dev :=
  let d := d.count aEVT_LWCNT
  if d.evt.latches.length < 8 then { d with evt.latches := d.evt.latches ++ [e] }
  else
    let d := d.stick aEVT_STATUS 0x10000
    { d with evt.latches := d.evt.latches.take 7 ++ [e], evt.lwOver := d.evt.lwOver + 1 }

/-- A fault-class event that finds the queue full (R365). -/
def Dev.holdEvent (e : EvRec) (d : Dev) : Dev :=
  if d.evt.hold.any (fun h => h.code = e.code && h.addr = e.addr) then
    let d := d.count aEVT_HELDCNT
    { d with evt.hold := d.evt.hold.map fun h =>
        if h.code = e.code && h.addr = e.addr then { h with rep := min 65535 (h.rep + 1) } else h }
  else { d with evt.hold := d.evt.hold ++ [e] }

/-- A non-fault event that is not accepted (R366). -/
def Dev.loseEvent (e : EvRec) (d : Dev) : Dev :=
  let c := evClass e.code
  let first := d.evt.lost.all (· = 0)
  let d := (d.stick aEVT_STATUS 0x4000).count (aEVT_LOST (c - 2))
  { d with evt.lost := modAt d.evt.lost c (· + 1), evt.lostTime := if first then e.time else d.evt.lostTime }

/-- The device raises an event (R364–R366, R376). -/
def Dev.enqueue (e : EvRec) (d : Dev) : Dev :=
  if evClass e.code = 1 then
    if d.evt.unusable then d.toLatch e
    else if d.evt.queue.length < 128 then { d with evt.queue := d.evt.queue ++ [e] }
    else d.holdEvent e
  else if 16 < 128 - d.evt.queue.length then { d with evt.queue := d.evt.queue ++ [e] }
  else d.loseEvent e

/-- Raise the event of a code and address with its data. -/
def Dev.raise (code : Nat) (addr : Word) (data : List Byte) (d : Dev) : Dev := d.enqueue (d.mkEvent code addr data)

/-- Raise a device event. -/
def Dev.raiseDev (code : Nat) (data : List Byte) (d : Dev) : Dev := d.raise code d.gaDev data

/-- The held event that moves into a freed entry: the oldest by TIME (R365). -/
def oldestHeld : List EvRec → Option EvRec
  | [] => none
  | e :: es => match oldestHeld es with
    | none => some e
    | some f => if e.time ≤ f.time then some e else some f

/-- An entry of the queue is freed: the oldest held event moves in before any other is accepted (R365). -/
def Recorder.freed (r : Recorder) : Recorder :=
  match oldestHeld r.hold with
  | some e => { r with queue := r.queue ++ [e], hold := r.hold.erase e }
  | none => r

/-! ### Records as bytes (R360) -/

/-- Bytes 0x00–0x3B of a record at log position `pos`. -/
def EvRec.body (e : EvRec) (pos : Nat) : List Byte :=
  leBytes 4 e.pcycle ++ leBytes 6 e.optime ++ leBytes 1 (evClass e.code) ++ leBytes 3 pos ++ leBytes 2 e.code ++
  leBytes 4 e.addr.toNat ++ leBytes 8 e.time ++ leBytes 2 e.rep ++ leBytes 2 0 ++
  (e.data ++ List.replicate 28 0).take 28

/-- The 64 bytes of a record. -/
def EvRec.bytes (e : EvRec) (pos : Nat) : List Byte :=
  let b := e.body pos
  b ++ leBytes 4 (crc32 b)

/-- The number of slots of the event log (R368). -/
def logSlots : Nat := 491520

/-- The loft address of the slot of a log position (R368). -/
def logAddr (pos : Nat) : Nat := 0x2200000 + 64 * (pos % logSlots)

/-! ### The loft as reads see it (R336–R338) -/

/-- The first page of the spare pool (R333). -/
def sparePage0 : Nat := 0x2080000 / 512

/-- Whether the controller ignores a remap entry for a page: one in the spare pool, in the remap table or in the
identity region (R338). -/
def remapIgnored (p : Nat) : Bool :=
  (0x10400 ≤ p && p < 0x107E0) || (0x10180 ≤ p && p < 0x101A0) || p < 2

/-- The page that serves page `p`: the spare that a remap entry in use names, or itself (R337, R338). -/
def Loft.pageOf (l : Loft) (p : Nat) : Nat :=
  match l.remap.find? (fun e => e.use = 1 && e.page = p && !remapIgnored p) with
  | some e => sparePage0 + e.spare
  | none => p

/-- The physical address that serves loft address `a`. -/
def Loft.phys (l : Loft) (a : Nat) : Nat := l.pageOf (a / 512) * 512 + a % 512

/-- `n` bytes from address `a` up, as runs that each lie in one page: address and length. -/
def pageRuns : Nat → Nat → Nat → List (Nat × Nat)
  | 0, _, _ => []
  | fuel + 1, a, n =>
    let k := min n (512 - a % 512)
    if n = 0 then [] else (a, k) :: pageRuns fuel (a + k) (n - k)

/-- `n` bytes of the loft from address `a` up, page by page (R337). -/
def Loft.read (l : Loft) (m : Memory) (a n : Nat) : List Byte :=
  (pageRuns (n / 512 + 2) a n).flatMap fun r => m.rds (l.phys r.1) r.2

/-- The failing 8-byte words that `n` bytes from `a` touch (R336). -/
def Loft.failsIn (l : Loft) (a n : Nat) : List Nat :=
  l.failing.filter fun w => (pageRuns (n / 512 + 2) a n).any fun r => l.phys r.1 / 8 * 8 ≤ w && w < l.phys r.1 + r.2

/-- Number of pages that `n` bytes from `a` touch. -/
def pagesTouched (a n : Nat) : Nat := if n = 0 then 0 else (a + n - 1) / 512 - a / 512 + 1

/-- What a read of `n` bytes from `a` that met `f` failing words does to the counters (R336, R359). -/
def Dev.noteFails (f a n : Nat) (d : Dev) : Dev :=
  let d := { d with loft.reqAddr := a }.count aLOFT_PGRD (pagesTouched a n)
  { d with regs := if f = 0 then d.regs else ((d.count aLOFT_RDERRCNT f).stick aLOFT_STATUS 0x1000).regs }

/-- A read of `n` bytes from `a` is counted: pages read, and failing words (R336, R359); while the port does not answer no page is
read (R356). -/
def Dev.noteRead (a n : Nat) (d : Dev) : Dev :=
  if d.loft.portOk then d.noteFails (d.loft.failsIn a n).length a n else { d with loft.reqAddr := a }

/-! ### Spread counters (R350, R351) -/

/-- Cell `j` of counter `k` as read, in the counter's bytes: its number, GEN and VALUE, if it is valid (R350). -/
def Loft.cell (l : Loft) (all : List Byte) (k j : Nat) : Option (Nat × Nat × Nat) :=
  let a := 0x2000000 + 0x80 * k + 8 * j
  let bs := (all.drop (8 * j)).take 8
  let gen := leNat ((bs.drop 6).take 1)
  let crc := leNat ((bs.drop 7).take 1)
  let seven := ((bs.take 7).reverse).map (·.toNat)
  if (l.failsIn a 8).isEmpty && gen % 16 = j && crc8 seven = crc then some (j, gen, leNat (bs.take 6)) else none

/-- The valid cells of counter `k`. -/
def Loft.cells (l : Loft) (m : Memory) (k : Nat) : List (Nat × Nat × Nat) := 
  (List.range 16).filterMap (l.cell (l.read m (0x2000000 + 0x80 * k) 0x80) k)

/-- The cell of the greatest VALUE, the lowest-numbered among equals. -/
def greatestCell : List (Nat × Nat × Nat) → Option (Nat × Nat × Nat)
  | [] => none
  | c :: cs => match greatestCell cs with
    | none => some c
    | some e => if e.2.2 ≤ c.2.2 then some c else some e

/-- The newest valid cell of counter `k` (R350). -/
def Loft.newest (l : Loft) (m : Memory) (k : Nat) : Option (Nat × Nat × Nat) :=
  let cs := l.cells m k
  match cs.find? (fun c => cs.all fun h => decide ((c.2.1 + 256 - h.2.1) % 256 < 128)) with
  | some c => some c
  | none => greatestCell cs

/-- The value of counter `k`; 0 with no valid cell, and for the counters never written (R334, R350). -/
def Loft.counterVal (l : Loft) (m : Memory) (k : Nat) : Nat :=
  if 516 ≤ k then 0 else match l.newest m k with
    | some c => c.2.2
    | none => 0

/-- The step that gives counter `k` a new value (R351). -/
def Loft.counterStep (l : Loft) (m : Memory) (k v : Nat) : Nat × List Byte :=
  let g := match l.newest m k with
    | some c => c.2.1
    | none => 255
  let gen := (g + 1) % 256
  let seven := leBytes 6 v ++ leBytes 1 gen
  (0x2000000 + 0x80 * k + 8 * (gen % 16), seven ++ leBytes 1 (crc8 (seven.reverse.map (·.toNat))))

/-! ### Two-copy records (R341–R343) -/

/-- Address of copy A, distance of copy B, CLASS and LEN of a two-copy record (R333, R341). -/
def Rec2.place : Rec2 → Nat × Nat × Nat × Nat
  | .identity => (0x0, 0x200, 2, 96)
  | .keyArea => (0x1000, 0x200, 3, 160)
  | .cert p => (0x2000 + 0x400 * p, 0x200, 4, 96)
  | .serials => (0x2020000, 0x2000, 5, 4096)
  | .remap => (0x2030000, 0x2000, 6, 3968)
  | .input => (0x20FE000, 0x200, 7, 16)

/-- The address of one copy. -/
def Rec2.addr (r : Rec2) (copyB : Bool) : Nat := r.place.1 + (if copyB then r.place.2.1 else 0)

/-- The bytes of one copy: whole pages (R341). -/
def Rec2.size (r : Rec2) : Nat := (16 + r.place.2.2.2 + 511) / 512 * 512

/-- SEQ and payload of a copy, if it is valid: no word of its pages fails (R341, R342). -/
def Loft.copyOf (l : Loft) (m : Memory) (r : Rec2) (copyB : Bool) : Option (Nat × List Byte) :=
  let a := r.addr copyB
  let len := r.place.2.2.2
  let h := l.read m a 16
  let p := l.read m (a + 16) len
  let seq := leNat (h.take 4)
  if (l.failsIn a r.size).isEmpty && seq + leNat ((h.drop 4).take 4) = 0xFFFFFFFF &&
      leNat ((h.drop 8).take 2) = r.place.2.2.1 && leNat ((h.drop 10).take 2) = len &&
      crc32 ((h.drop 8).take 4 ++ p) = leNat (h.drop 12)
  then some (seq, p) else none

/-- The winner of a two-copy record and its payload, and whether a tie with differing payloads was found (R342). -/
def Loft.winnerOf (l : Loft) (m : Memory) (r : Rec2) : Option (Winner × List Byte) × Bool :=
  match l.copyOf m r false, l.copyOf m r true with
  | some (sa, pa), some (sb, pb) =>
    if sb > sa then (some (⟨true, sb⟩, pb), false) else (some (⟨false, sa⟩, pa), decide (sa = sb ∧ pa ≠ pb))
  | some (sa, pa), none => (some (⟨false, sa⟩, pa), false)
  | none, some (sb, pb) => (some (⟨true, sb⟩, pb), false)
  | none, none => (none, false)

/-- The winner the controller keeps on the die (R343). -/
def Loft.winner (l : Loft) (r : Rec2) : Option Winner := (l.winners.find? (fun w => w.1 = r)).map (·.2)

def Loft.setWinner (r : Rec2) (w : Winner) (l : Loft) : Loft :=
  { l with winners := (r, w) :: l.winners.filter (fun x => x.1 ≠ r) }

/-- Runs of at most 4,096 bytes from an address up (R335, R343). -/
def chunks (a : Nat) (bs : List Byte) : Nat → List (Nat × List Byte)
  | 0 => []
  | fuel + 1 => if bs.isEmpty then [] else (a, bs.take 4096) :: chunks (a + 4096) (bs.drop 4096) fuel

/-- The steps of a write of a two-copy record: CLASS and LEN, the payload, the CRC, SEQ with NSEQ (R343). -/
def Loft.rec2Steps (l : Loft) (r : Rec2) (payload : List Byte) : List (Nat × List Byte) :=
  let (copyB, seq) := match l.winner r with
    | some w => (!w.copyB, w.seq + 1)
    | none => (false, 1)
  let a := r.addr copyB
  let hd := leBytes 2 r.place.2.2.1 ++ leBytes 2 r.place.2.2.2
  (a + 8, hd) :: chunks (a + 16) payload (payload.length / 4096 + 1) ++
    [(a + 12, leBytes 4 (crc32 (hd ++ payload))), (a, leBytes 4 seq ++ leBytes 4 (0xFFFFFFFF - seq))]

/-! ### Jobs for the loft (R23, R335) -/

def Dev.loftJob (j : LoftJob) (d : Dev) : Dev := { d with loft.jobs := d.loft.jobs ++ [j] }

/-- Ask for a new value of spread counter `k` (R351). -/
def Dev.writeCounter (k v : Nat) (d : Dev) : Dev :=
  d.loftJob { prio := 2, tag := .counter, req := .counter k v, steps := [], begun := false }

/-- Ask for a write of a two-copy record; one whose winner holds SEQ 0xFFFF_FFFF is not written (R343). -/
def Dev.writeRec2 (prio : Nat) (r : Rec2) (payload : List Byte) (d : Dev) : Dev :=
  let waiting := (d.loft.jobs.filter fun j => j.tag = .rec2 r).length
  let seq := match d.loft.winner r with
    | some w => w.seq
    | none => 0
  if 0xFFFFFFFF ≤ seq + waiting then
    (d.stick aLOFT_STATUS 0x2000).raiseDev 0x6004 (leBytes 2 r.place.2.2.1)
  else d.loftJob { prio := prio, tag := .rec2 r, req := .rec2 r payload, steps := [], begun := false }

/-- The position of the first job of the highest priority among those waiting (R23, R335). -/
def bestJob : List LoftJob → Option Nat
  | [] => none
  | j :: js => match bestJob js with
    | none => some 0
    | some i => if j.prio ≤ ((js.getD i j).prio) then some 0 else some (i + 1)

/-- The step of an image-history entry: slot HSEQ mod 64, with HSEQ, the bytes given and the CRC (R349). -/
def Loft.histStep (l : Loft) (body : List Byte) : Nat × List Byte :=
  let b := leBytes 4 l.histNext ++ body
  (0x4000 + 64 * (l.histNext % 64), b ++ leBytes 4 (crc32 b))

/-- A job whose steps are known: a counter's cell, a record's copy and an entry's HSEQ are chosen when its first step begins. -/
def Loft.expand (l : Loft) (m : Memory) (j : LoftJob) : LoftJob :=
  if j.begun then j else
    match j.req with
    | .counter k v => { j with steps := [l.counterStep m k v], begun := true }
    | .rec2 r p => { j with steps := l.rec2Steps r p, begun := true }
    | .hist b => { j with steps := [l.histStep b], begun := true }
    | .plain => { j with begun := true }

/-- At a step boundary the controller gives the buffer to the waiting job of the highest priority (R335). -/
def Loft.begin (m : Memory) (l : Loft) : Loft :=
  if l.busy || !l.portOk || l.protPend.isSome then l else
    match bestJob l.jobs with
    | none => l
    | some i =>
      let j := l.expand m (l.jobs.getD i ⟨0, .host, .plain, [], true⟩)
      { l with jobs := j :: l.jobs.eraseIdx i, busy := true }

/-! ### The recorder's choice (R367) -/

/-- The LOST_EVENTS summary (R366). -/
def Dev.summary (d : Dev) : EvRec :=
  { d.mkEvent 0x7001 d.gaDev ((d.evt.lost.drop 2).flatMap (leBytes 4)) with time := d.evt.lostTime }

/-- The record that the recorder takes next, with its source (R367). -/
def Dev.nextRec (d : Dev) : Option (RecSrc × EvRec) :=
  match d.evt.latches with
  | e :: _ => some (.latch, e)
  | [] =>
    match d.evt.queue.findIdx? (fun e => evClass e.code = 1) with
    | some i => (d.evt.queue[i]?).map fun e => (.queue i, e)
    | none =>
      if d.evt.lost.any (· ≠ 0) then some (.summary, d.summary)
      else match d.evt.queue with
        | e :: _ => some (.queue 0, e)
        | [] => none

/-- The job of a record's two steps (R368). -/
def recJob (e : EvRec) (pos : Nat) : LoftJob :=
  let b := e.bytes pos
  { prio := if evClass e.code = 1 then 1 else 3, tag := .event, req := .plain,
    steps := [(logAddr pos, b.take 0x38), (logAddr pos + 0x38, b.drop 0x38)], begun := false }

/-- When no record is being written, the recorder takes the next one: a latch from step 10 on, anything once step 10 has
released it, with the port answering and no clear in progress (R48, R367, R373). -/
def Dev.choose (d : Dev) : Dev :=
  let recover := d.sys.state = .start && d.sys.step = 10 && !d.evt.latches.isEmpty
  if !(d.evt.released || recover) || !d.loft.portOk || d.evt.clearing || d.evt.cur.isSome then d else
    match d.nextRec with
    | none => d
    | some (src, e) =>
      { d with evt.cur := some ⟨src, e, d.evt.head, none⟩, loft.jobs := d.loft.jobs ++ [recJob e d.evt.head] }

/-! ### The pair (R383, R392, R397) -/

/-- Whether the device is a member of a pair (R383). -/
def Dev.inPair (d : Dev) : Bool := d.pins.role = 1 || d.pins.role = 2

/-- A member of a pair that is not its primary: it sends HOLD, and CENSUS in training, and no other downstream frame
(R391, R392). -/
def Dev.isStandby (d : Dev) : Bool := d.inPair && !d.pair.primary

/-- A primary whose partner is in STANDBY mirrors to it (R393, R397). -/
def Dev.mirrors (d : Dev) : Bool := d.inPair && d.pair.primary && d.pair.partner.hello.any fun h => h.state = 2

/-- Number a delta and send it; it stays unacknowledged until an ACK names it (R397). -/
def Dev.delta (x : Delta) (d : Dev) : Dev :=
  if !d.mirrors then d
  else
    { d with pair.unacked := d.pair.unacked ++ [⟨d.pair.tx, x, d.now, d.now⟩], pair.sent := d.pair.sent ++ [.deltas d.pair.tx [x]],
             pair.tx := (d.pair.tx + 1) % 65536 }

/-- The addresses at which two register maps differ, among those of `p`. -/
def changed (p : Nat → Bool) (old new : RMap) : List Nat :=
  ((old ++ new).map (·.1)).eraseDups.filter fun a => p a && decide (old.rd a ≠ new.rd a)

/-- The per-rail counters that COUNT deltas carry; ENG_EVALn and ENG_DMISSn follow from the RC (R397). -/
def mirrored (a : Nat) : Bool :=
  decide (0x40000 ≤ a) && decide (a < 0xB0000) &&
  regTable.any fun r => r.kind = .counter && r.cnt = 8 && r.covers a && r.base ≠ aENG_EVAL 0 && r.base ≠ aENG_DMISS 0

/-- Serving, failed and lame units as a word of three fields of `w` bits (R149, R183). -/
def unitBits (w : Nat) (us : List EvalUnit) : Word :=
  let bits (p : EvalUnit → Bool) : Nat := us.zipIdx.foldl (fun a u => if p u.1 then a + 2 ^ u.2 else a) 0
  BitVec.ofNat 32 (bits (·.serving) + bits (·.failed) * 2 ^ w + bits (·.lame) * 2 ^ (2 * w))

/-- The deltas that a command's change of the device asks for: ROLE, UNIT and COUNT (R397). -/
def Dev.deltasFrom (old new : Dev) : List Delta :=
  ((List.range 512).filterMap fun s =>
    let x := old.stall s
    let y := new.stall s
    if x.state = y.state && x.roleOf = y.roleOf && x.cause = y.cause && x.segok = y.segok then none
    else some (.role s y.state.code y.roleOf y.cause y.segok)) ++
  (let w := unitBits 10 new.lawUnits
   if unitBits 10 old.lawUnits = w then [] else [.unit aENG_UNITMAP w]) ++
  (let w := unitBits 3 new.balUnits
   if unitBits 3 old.balUnits = w then [] else [.unit aYARD_BALUNIT w]) ++
  ((changed mirrored old.regs.cnt new.regs.cnt).map fun a =>
    .count a (new.regs.cnt.rd a - old.regs.cnt.rd a).toNat)

/-- A primary's deltas after a command that turned `old` into `d`. -/
def Dev.mirror (d old : Dev) : Dev := if d.mirrors then d.each (old.deltasFrom d) Dev.delta else d

/-! ### What follows of itself -/

/-- Whether the conditions of IDLE hold (R62): RUN, IDLE allowed, every rail OFF, no partner, nothing queued, and no
loft write pending: no job, last-fault record, archive copy, last-words latch or summary of losses. -/
def Dev.idleOk (d : Dev) : Bool :=
  d.sys.state = .run && d.regs.act.SYS_IDLECFG_EN = 1 && d.rails.all (fun r => r.state = .off) &&
  (d.pins.role = 0 || d.pins.role = 3) && d.evt.queue.isEmpty && d.loft.jobs.isEmpty && !d.loft.busy &&
  d.prot.pending.isEmpty && d.prot.archQueue.isEmpty && !d.prot.archBusy && d.evt.latches.isEmpty && d.evt.lost.all (· = 0)

/-- The dwell of R62: the instant since which the conditions have held. -/
def Dev.dwell (d : Dev) : Dev :=
  { d with sys.idleSince := if d.idleOk then (match d.sys.idleSince with
    | some t => some t
    | none => some d.now) else none }

/-- What follows of itself once a command has acted: the recorder takes a record, the loft controller begins a step,
and the dwell of IDLE begins or ends. -/
def Dev.settle (m : Memory) (d : Dev) : Dev :=
  let d := d.choose
  let d := { d with loft := d.loft.begin m }
  d.dwell

/-- The device after a command that turned `old` into `d`. -/
def Dev.conclude (m : Memory) (d old : Dev) : Dev := (d.mirror old).settle m

end Sys2Proof.Machine
end

