-- ==== Sys2Proof/Machine/Frames.lean ====
section
/-! DEFINITION. Ruloha frames: their bodies (R83–R95), the blocks and bits of the line (R79, R80), their slots (R77, R96,
R23), what a lane carries in each slot (R106), the requests that stages owe an answer to (R474), and the stage parameters the
device writes (R103, R121, R226, R249). -/

namespace Sys2Proof

/-! ### The line (R79) -/

/-- The two header bits, first sent first: 0b01 for a frame, 0b10 for a control block (R79). -/
def Block.header : Block → List Bool
  | .nothing => []
  | .control _ => [true, false]
  | .frame _ => [false, true]

/-- A body from bit 63 down to bit 0. -/
def wireBits (b : Body) : List Bool := (List.range 64).map fun i => b.getLsbD (63 - i)

/-- The self-synchronous scrambler x⁵⁸ + x³⁹ + 1: `st` holds the last 58 scrambled bits, newest first (R79). -/
def scramble : List Bool → List Bool → List Bool × List Bool
  | st, [] => ([], st)
  | st, b :: bs =>
    let o := b ^^ (st.getD 38 false ^^ st.getD 57 false)
    let r := scramble ((o :: st).take 58) bs
    (o :: r.1, r.2)

/-- The bits of one slot in the order sent, and the scrambler after it: the header is not scrambled, the body is. -/
def Block.bits (st : List Bool) : Block → List Bool × List Bool
  | .nothing => ([], st)
  | .control b => let r := scramble st (wireBits b); ((Block.control b).header ++ r.1, r.2)
  | .frame b => let r := scramble st (wireBits b); ((Block.frame b).header ++ r.1, r.2)

/-- The body of a block that carries header 0b01. -/
def Block.body? : Block → Option Body
  | .frame b => some b
  | _ => none

/-- MTYPE of a message of the pair link (R387). -/
def PairMsg.mtype : PairMsg → Nat
  | .hello _ => 1 | .rc _ => 2 | .dc _ => 3 | .ack _ _ => 4 | .join _ => 5 | .taken _ => 6 | .handover => 7 | .owner _ => 8
  | .deltas _ _ => 9 | .time _ => 10

/-- The blocks of a message of the pair link (R387); JOIN has at most 32, one for each item and a head. -/
def PairMsg.blocks : PairMsg → Nat
  | .hello _ => 3 | .rc _ => 9 | .dc _ => 6 | .ack _ _ => 1 | .join m => 1 + m.items.length | .taken _ => 1 | .handover => 1
  | .owner _ => 1 | .deltas _ ds => 2 + ds.length | .time _ => 2

/-- MTYPE of a domain message (R408). -/
def DomMsg.mtype : DomMsg → Nat
  | .enum _ _ _ => 1 | .time _ => 2 | .epoch _ _ => 3 | .ilv _ _ _ => 4 | .snap _ _ => 5 | .alarm _ _ _ => 6 | .report _ => 7

end Sys2Proof

namespace Sys2Proof.Machine

/-! ### Bodies -/

/-- The seven bytes of bits [63:8] of a body, from bit 63 down (R83). -/
def bodyBytes (w : Nat) : List Nat := (List.range 7).map fun i => (w >>> (56 - 8 * i)) % 256

/-- A frame body of TYPE, POS and fields, each given by its lowest bit and its value, with its CRC (R83). -/
def mkBody (type pos : Nat) (fields : List (Nat × Nat)) : Body :=
  let w := fields.foldl (fun w f => w + f.2 * 2 ^ f.1) (type * 2 ^ 60 + pos * 2 ^ 55)
  BitVec.ofNat 64 (w + crc8 (bodyBytes w))

/-- Bits [hi:lo] of a body. -/
def bfld (b : Body) (hi lo : Nat) : Nat := (b.toNat >>> lo) % 2 ^ (hi - lo + 1)

/-- Whether a body's CRC checks. -/
def bodyOk (b : Body) : Bool := crc8 (bodyBytes b.toNat) = b.toNat % 256

/-- The body of a control block of a code (R80). -/
def ctlBody (code : Nat) : Body :=
  let w := code * 2 ^ 56
  BitVec.ofNat 64 (w + crc8 (bodyBytes w))

def trainBody : Body := ctlBody 0x1E
def markBody : Body := ctlBody 0x2D
def idleBody : Body := ctlBody 0x33

/-- EMPTY: a zero payload, reserved for a position or with POS 31 (R85). -/
def emptyBody (pos : Nat) : Body := mkBody 0 pos []

def edgeBody (pos start on seg nlim : Nat) (final : Bool) : Body :=
  mkBody 1 pos [(35, start % 2 ^ 20), (19, on % 2 ^ 16), (15, seg % 16), (12, nlim % 8), (11, final.toNat)]

def burstBody (posmask dur seg : Nat) : Body := mkBody 2 31 [(39, posmask % 2 ^ 16), (23, dur % 2 ^ 16), (19, seg % 16)]

def cutBody (posmask dur : Nat) (lson : Bool) (nlim : Nat) : Body :=
  mkBody 3 31 [(39, posmask % 2 ^ 16), (23, dur % 2 ^ 16), (22, lson.toNat), (19, nlim % 8)]

def holdBody (laneTime : Nat) : Body := mkBody 4 31 [(23, laneTime % 2 ^ 32)]
def probeBody (pos kind : Nat) : Body := mkBody 5 pos [(52, kind % 8)]
def cfgBody (pos param value : Nat) : Body := mkBody 6 pos [(47, param % 256), (15, value % 2 ^ 32)]
def censusBody (pos word : Nat) : Body := mkBody 10 pos [(52, word % 4)]
def claimBody (term domid : Nat) : Body := mkBody 15 31 [(36, term % 65536), (20, domid % 65536)]

/-! ### Messages of the pair and domain links (R386, R387, R408) -/

/-- One bit into the CRC-32 of R341. -/
def crc32Bit (c : Nat) (b : Bool) : Nat := if (decide (c % 2 = 1)) ^^ b then (c / 2) ^^^ 0xEDB88320 else c / 2

/-- The CRC-32 of a message: over every bit before it, from bit 63 of the head block downward (R386). -/
def msgCrc (bodies : List Body) : Nat :=
  let bits := bodies.flatMap wireBits
  ((bits.take (bits.length - 32)).foldl crc32Bit 0xFFFFFFFF) ^^^ 0xFFFFFFFF

/-- The blocks of a message (R386): MTYPE and their number in the head block, and the CRC in bits [31:0] of the last. `bodies`
hold the rest of each block; where each item stands in it the spec does not say (log entry 95). -/
def sealMsg (mtype : Nat) (bodies : List Body) : List Block :=
  let n := bodies.length
  let bs := modAt bodies 0 fun b => BitVec.ofNat 64 (mtype * 2 ^ 60 + n % 32 * 2 ^ 55 + b.toNat % 2 ^ 55)
  (modAt bs (n - 1) fun b => BitVec.ofNat 64 (b.toNat / 2 ^ 32 * 2 ^ 32 + msgCrc bs)).map .frame

/-- Whether the blocks received are an intact message (R386): all carry header 0b01, as many as stated, and the CRC checks. -/
def msgIntact (bs : List Block) : Bool :=
  let bodies := bs.filterMap Block.body?
  bodies.length = bs.length && (bodies.head?.any fun b => bfld b 59 55 = bs.length) &&
  (bodies.getLast?.any fun b => bfld b 31 0 = msgCrc bodies)

/-- MTYPE of the message that the blocks bring, in the head block (R386). -/
def msgType (bs : List Block) : Option Nat := (bs.head?.bind Block.body?).map fun b => bfld b 63 60

/-! ### Slots -/

/-- The rank of a frame type in R23: CUT, BURST, AUTH, EDGE, HOLD, STAGECFG, PROBE, CENSUS. -/
def frameRank (b : Body) : Nat :=
  match bfld b 63 60 with
  | 3 => 0
  | 2 => 1
  | 15 => 2
  | 1 => 3
  | 4 => 4
  | 6 => 5
  | 5 => 6
  | _ => 7

/-- The first slot that begins at or after an instant (R77). -/
def slotAt (t : Nat) : Nat := (t + 511) / 512

/-- The first slot a frame may take from slot `k` on: scheduled frames take even slots only (R96). -/
def fitSlot (rank k : Nat) : Nat := if rank ≤ 1 then k else k + k % 2

/-- A HOLD names the lane time of the slot it takes; other frames stay as they are (R89, R98). -/
def Tx.timed (f : Tx) : Tx := if f.rank = 4 then { f with body := holdBody (512 * f.slot) } else f

/-- Whether a frame leaves before another in a slot that both could take: by the rank of R23; among CUT and among BURST frames
the lower rail first (R218); and a frame that was displaced keeps its place before equals that come after it (log entry 86). -/
def Tx.beats (f : Tx) (moved : Bool) (g : Tx) : Bool :=
  f.rank < g.rank || (f.rank = g.rank && (if f.rank ≤ 1 && f.rail ≠ g.rail then decide (f.rail < g.rail) else moved))

/-- A lane's frames after one was placed, and each frame that moved: the slot it had, and where it is now, `none` for an EDGE
that found no slot by its bound and is discarded (R97). -/
abbrev Placed : Type := List Tx × List (Nat × Option Tx)

/-- Place a frame in the first slot from its own on that is free or carries one it beats; a displaced frame, whose slot was
`was`, moves on in the same way (R23, R96, R97). -/
def placeTx : Nat → List Tx → Tx → Option Nat → Placed
  | 0, l, f, was => (f.timed :: l, was.toList.map fun k => (k, some f.timed))
  | fuel + 1, l, f, was =>
    let put (l : List Tx) : Placed := (f.timed :: l, was.toList.map fun k => (k, some f.timed))
    if f.limit ≠ 0 && decide (f.limit < 512 * f.slot) then (l, was.toList.map fun k => (k, none))
    else match l.find? (fun g => g.slot = f.slot) with
      | none => put l
      | some g =>
        if f.beats was.isSome g then
          let p := put (l.erase g)
          let q := placeTx fuel p.1 { g with slot := fitSlot g.rank (g.slot + 1) } (some g.slot)
          (q.1, p.2 ++ q.2)
        else placeTx fuel l { f with slot := fitSlot f.rank (f.slot + 1) } was

/-- Slots kept behind the present one: a frame returns within 214 ns (R81) and is compared then. -/
def slotsKept : Nat := 64

/-- The answer window: 3 µs from the instant the request leaves (R474). -/
def answerWindow : Nat := 153600

/-- The slot at which a frame that had slot `k` leaves after some moved. -/
def movedSlot (moves : List (Nat × Option Tx)) (k : Nat) : Option Nat :=
  match moves.find? (fun m => m.1 = k) with
  | some m => m.2.map (·.slot)
  | none => some k

/-- An instant that was the beginning of slot `k`, likewise. -/
def movedInstant (moves : List (Nat × Option Tx)) (t : Nat) : Nat :=
  if t % 512 = 0 then ((movedSlot moves (t / 512)).map (512 * ·)).getD t else t

/-- A stall's frames follow the slots they now have: EDGE frames sent, bursts, and the CUTs that end them (R131, R476). -/
def Stall.retime (moves : List (Nat × Option Tx)) (x : Stall) : Stall :=
  { x with
    edges := x.edges.filterMap fun e => (movedSlot moves e.slot).map fun k => { e with slot := k },
    bursts := x.bursts.map fun b =>
      { b with start := movedInstant moves b.start, cutAt := b.cutAt.map (movedInstant moves) } }

/-- An episode's ti, or a crowbar's, follows an immediate frame of its rail that moved (R220, R246). -/
def Rail.retime (was : Nat) (g : Tx) (r : Rail) : Rail :=
  let later (t : Nat) : Nat := if 512 * was ≤ t then max t (512 * g.slot) else t
  if g.rank = 1 then { r with episode := r.episode.map fun e => if e.cut then e else { e with ti := later e.ti } }
  else if g.rank ≠ 0 || (g.body.toNat >>> 23) % 65536 = 0 then r
  else { r with episode := r.episode.map (fun e => if e.cut then { e with ti := later e.ti } else e),
                crowbar := r.crowbar.map fun c => { c with ti := later c.ti } }

/-- The rail of a frame that has moved follows it. -/
def Dev.retimeRail (m : Nat × Option Tx) (d : Dev) : Dev :=
  match m.2 with
  | some g => d.onRail g.rail (Rail.retime m.1 g)
  | none => d

/-- What follows when frames of a lane have moved: stalls, answer windows and episodes take their new slots; EDGE frames
discarded are counted (R97, R220, R474, R476). -/
def Dev.retime (l : Nat) (moves : List (Nat × Option Tx)) (d : Dev) : Dev :=
  if moves.isEmpty then d
  else
    let gone := (moves.filter fun m => m.2.isNone).length
    let d := d.when (decide (gone ≠ 0)) (Dev.count (aLANE_EDGEDROP l) gone)
    let due (a : Ask) : Ask := { a with due := movedInstant moves (a.due - answerWindow) + answerWindow }
    let d := d.onLane l fun x => { x with asks := x.asks.map due }
    let d := d.each (List.range 16) fun p d => d.onStall (16 * l + p) (Stall.retime moves)
    d.each moves Dev.retimeRail

/-- Send a frame on a lane for a rail, in the first slot at or after `ready` that R96 allows it, and for an EDGE not after its
bound; it counts in LANE_TXFRn when its slot has begun (R116). -/
def Dev.sendFor (rail limit l ready : Nat) (b : Body) (d : Dev) : Dev :=
  let r := frameRank b
  let old := (d.lane l).tx.filter fun g => d.now / 512 ≤ g.slot + slotsKept
  let p := placeTx (2 * old.length + 2) old
    { slot := fitSlot r (slotAt (max ready d.now)), rank := r, body := b, rail := rail, limit := limit } none
  (d.onLane l fun x => { x with tx := p.1 }).retime l p.2

/-- Send a frame of no rail in the first slot at or after `ready` that R96 allows it. -/
def Dev.sendAt (l ready : Nat) (b : Body) (d : Dev) : Dev := d.sendFor 8 0 l ready b

/-- Send a frame of no rail in the first slot that R96 allows it. -/
def Dev.send (l : Nat) (b : Body) (d : Dev) : Dev := d.sendAt l d.now b

/-- The slot that holds a frame of a lane. -/
def Dev.slotOf (d : Dev) (l : Nat) (b : Body) : Nat := ((d.lane l).tx.find? (fun g => g.body = b)).elim (slotAt d.now) (·.slot)

/-- Frames of a lane that have not yet left and satisfy `m` are withdrawn. -/
def Dev.dropTx (l : Nat) (m : Tx → Bool) (d : Dev) : Dev :=
  d.onLane l fun x => { x with tx := x.tx.filter fun g => !(d.now ≤ 512 * g.slot && m g) }

/-- A frame is an EDGE. -/
def Tx.isEdge (g : Tx) : Bool := bfld g.body 63 60 = 1

/-! ### What a lane carries (R80, R84, R85, R96, R104, R106) -/

/-- The EMPTY of a slot that carries nothing else: an odd slot 2m + 1 is reserved for position m mod 16 (R96). -/
def emptyFor (slot : Nat) : Body := if slot % 2 = 1 then emptyBody (slot / 2 % 16) else emptyBody 31

/-- The block of a slot in which no frame was placed, on a lane in training or retraining (R104, R106). -/
def Lane.trainBlock (x : Lane) (slot : Nat) : Block :=
  match x.phase with
  | 0 => .control trainBody
  | 1 => .control trainBody
  | 2 => .control (if x.markAt ≤ slot && slot < x.markAt + 16 then markBody else idleBody)
  | _ => .control idleBody

/-- The class that an EDGE frame carries when it leaves (R227). -/
def Dev.edgeClass (d : Dev) (n : Nat) : Nat :=
  let r := d.rail n
  let dest := if r.state = .stop then 4 * d.regs.act.SYS_RAILSTART_STOP_FLOOR n else r.rdest
  if r.state = .ramp || d.ret.ceil then 0
  else if r.mode = .cut then d.regs.act.XNT_NCLASS_CUTC n
  else if 256 * dest < r.pos then d.regs.act.XNT_NCLASS_DOWNC n
  else d.regs.act.XNT_NCLASS_REGC n

/-- LSON and NLIM of a CUT frame of an episode, or of a CROWBAR, which reads the state in which its cause was found (R219, R227,
R246). -/
def Dev.cutClass (d : Dev) (n : Nat) : Bool × Nat :=
  let r := d.rail n
  let inReg := r.crowbar.elim (decide (r.state = .reg)) (·.inReg)
  let lson := inReg && d.regs.act.XNT_CFG_CUT_LSON n = 1 && !d.ret.ceil
  (lson, if lson then d.regs.act.XNT_NCLASS_CUTC n else 0)

/-- The body with which a frame that waits leaves if the device stays as it is: an EDGE, and a CUT of an episode or of a CROWBAR, take
their class as they leave (R227). -/
def Dev.leavingBody (d : Dev) (g : Tx) : Body :=
  let b := g.body
  let r := d.rail g.rail
  if g.gone || 8 ≤ g.rail then b
  else if g.isEdge then
    edgeBody (bfld b 59 55) (bfld b 54 35) (bfld b 34 19) (bfld b 18 15) (d.edgeClass g.rail) (bfld b 11 11 = 1)
  else if bfld b 63 60 = 3 && bfld b 38 23 ≠ 0 && (bfld b 22 22 = 1 || r.crowbar.isSome || r.episode.any (·.cut)) then
    cutBody (bfld b 54 39) (bfld b 38 23) (d.cutClass g.rail).1 (d.cutClass g.rail).2
  else b

/-- The block that the device sends on a lane in one slot (R106): the CUT of R109 leaves on a lane that is RETIRED at once too, and
a PARKED lane carries blocks from the wake on (R64, log entry 85). -/
def Dev.laneBlock (d : Dev) (l slot : Nat) : Block :=
  let x := d.lane l
  let placed := x.tx.find? fun g => g.slot = slot
  match x.state, placed with
  | .disabled, _ => .nothing
  | .retired, none => .nothing
  | .parked, none => if x.phase = 0 then .nothing else x.trainBlock slot
  | _, some g => .frame (d.leavingBody g)
  | .up, none => .frame (emptyFor slot)
  | _, none => x.trainBlock slot

/-- The bits of `n` slots from `slot` on, in the order sent, from a scrambler that holds `st` (R79). -/
def Dev.laneLine (d : Dev) (l : Nat) : Nat → Nat → List Bool → List Bool
  | 0, _, _ => []
  | n + 1, slot, st =>
    let r := (d.laneBlock l slot).bits st
    r.1 ++ d.laneLine l n (slot + 1) r.2

/-! ### Stages and their parameters -/

/-- The lead time L in eu; values outside 240–2,000 ns act as the nearer limit (R99, R114). -/
def Dev.lead (d : Dev) : Nat := min 2000 (max 240 d.regs.act.TB_LEAD_LEAD) * 512 / 10

/-- The stall period Tp in eu (R121). -/
def Dev.tp (d : Dev) (n : Nat) : Nat := 16 * d.regs.act.YARD_CFG_PERIOD n

/-- The rail-sample period P in eu; RATE outside 200–3,200 acts as the nearer limit (R156, R180). -/
def Dev.rate (d : Dev) (n : Nat) : Nat := min 3200 (max 200 (d.regs.act.ENG_CFG_RATE n))
def Dev.p (d : Dev) (n : Nat) : Nat := 16 * d.rate n

/-- The role of a stall: 1 active, 2 spare, 0 unused; 0b11 acts as unused (R118, R150). -/
def Dev.roleKind (d : Dev) (s : Nat) : Nat :=
  let r := d.regs.act.YARD_BIND_ROLE s
  if r = 3 then 0 else r

/-- The rail an active or spare stall is bound to. -/
def Dev.railOf (d : Dev) (s : Nat) : Option Nat := if d.roleKind s = 0 then none else some (d.regs.act.YARD_BIND_RAIL s)

/-- The value of NLIM class `c` of rail `n`, in 1/16 A (R226). -/
def Dev.nlimValue (d : Dev) (n c : Nat) : Nat :=
  8 * (match c with
    | 1 => d.regs.act.XNT_NLIMA_NLIM1 n
    | 2 => d.regs.act.XNT_NLIMA_NLIM2 n
    | 3 => d.regs.act.XNT_NLIMA_NLIM3 n
    | 4 => d.regs.act.XNT_NLIMA_NLIM4 n
    | 5 => d.regs.act.XNT_NLIMB_NLIM5 n
    | 6 => d.regs.act.XNT_NLIMB_NLIM6 n
    | 7 => d.regs.act.XNT_NLIMB_NLIM7 n
    | _ => 0)

/-- The VALUE of stage parameter `p` for stall `s` (R91, R103, R121, R226, R249); OFFSET is given by training. -/
def Dev.paramValue (d : Dev) (s p : Nat) : Nat :=
  match p, d.railOf s with
  | 0x01, some n => d.tp n
  | 0x01, none => 51200
  | 0x02, some n => 8 * d.regs.act.PROT_OC_ILIM n
  | 0x02, none => 0x640
  | 0x0A, some n => d.regs.act.PROT_OT_WARN n
  | 0x0B, some n => d.regs.act.PROT_OT_STAGE n
  | 0x0A, none => 0xFF
  | 0x0B, none => 0xFF
  | 0x0C, _ => if d.inPair then 3 else 1
  | c, some n => if 3 ≤ c && c ≤ 9 then d.nlimValue n (c - 2) else 0
  | _, none => 0

/-- The census residence of a position in eu; 0 where nothing answered (R94, R103). -/
def Lane.residence (x : Lane) (p : Nat) : Nat := if x.present.testBit p then 16 * fld (x.census.rd (4 * p)) 7 0 else 0

/-- The OFFSET of each position (R103). -/
def Dev.offset (d : Dev) (l p : Nat) : Nat :=
  let x := d.lane l
  let rs := (List.range 16).map x.residence
  let k := d.regs.act.LANE_CFG_LINKDLY l
  let link := if k = 0 then (x.rt - rs.sum) / 17 else 16 * k
  (p + 1) * link + (rs.take p).sum

/-- The OFFSET that a position holds, if another member gave it (R393, R402): stored one higher, 0 for none. -/
def Dev.heldOffset (d : Dev) (s : Nat) : Option Nat :=
  match (d.pair.offsets.rd s).toNat with
  | 0 => none
  | k + 1 => some k

/-- START of an EDGE for a period that starts at `start`: with COMP of R402. -/
def Dev.wireStart (d : Dev) (s start : Nat) : Nat :=
  match d.heldOffset s with
  | none => start
  | some held => ((start : Int) + held - d.offset (s / 16) (s % 16)).toNat

/-- The VALUE of any parameter for stall `s`. -/
def Dev.cfgValue (d : Dev) (s p : Nat) : Nat := if p = 0 then d.offset (s / 16) (s % 16) else d.paramValue s p

/-- The XOR of the four bytes of a VALUE (R93). -/
def vchk (v : Nat) : Nat := (v % 256) ^^^ (v / 256 % 256) ^^^ (v / 65536 % 256) ^^^ (v / 16777216 % 256)

/-! ### Requests (R474) -/

/-- The body of a request. -/
def askBody (pos : Nat) : AskKind → Body
  | .probe k => probeBody pos k
  | .cfg p v => cfgBody pos p v
  | .census w => censusBody pos w

/-- Send a request for the `tries`-th time: its answer is owed until 3 µs after it leaves (R474). -/
def Dev.askAgain (l pos : Nat) (k : AskKind) (tries : Nat) (d : Dev) : Dev :=
  let b := askBody pos k
  let d := d.send l b
  let due := 512 * d.slotOf l b + answerWindow
  d.onLane l fun x => { x with asks := x.asks ++ [⟨pos, k, tries, due⟩] }

/-- What does not act in a standby: transients, protection, law and balance jobs, and the yard (R392). -/
def active (f : Dev → Dev) (d : Dev) : Dev := if d.isStandby then d else f d

/-- Send a request for the first time; of a standby's, only a CENSUS leaves. -/
def Dev.ask (l pos : Nat) (k : AskKind) (d : Dev) : Dev :=
  match k with
  | .census _ => d.askAgain l pos k 1
  | _ => if d.isStandby then d else d.askAgain l pos k 1

/-- The stall is asked: its lane and its position (R4). -/
def Dev.askStall (s : Nat) (k : AskKind) (d : Dev) : Dev := d.ask (s / 16) (s % 16) k

/-- Write a parameter to a stall when its lane is UP (R226, R249). -/
def Dev.writeParam (p s : Nat) (d : Dev) : Dev :=
  if (d.lane (s / 16)).state = .up && (d.lane (s / 16)).present.testBit (s % 16) then
    d.askStall s (.cfg p (d.cfgValue s p))
  else d

/-- The active and spare stalls of yard `n`. -/
def Dev.bound (d : Dev) (n : Nat) : List Nat := (List.range 512).filter fun s => d.railOf s = some n

/-- Write a parameter to every active and spare stall of a yard. -/
def Dev.writeParamYard (n p : Nat) (d : Dev) : Dev := d.each (d.bound n) (fun s d => d.writeParam p s)

/-- Lanes on which the device holds authority (R116). -/
def Dev.upLanes (d : Dev) : List Nat := (List.range 32).filter fun l => (d.lane l).state = .up

end Sys2Proof.Machine
end

