-- ==== Sys2Proof/Machine/Run.lean ====
section
/-! DEFINITION. `run`, which carries out a command at its instant and then what follows of itself; and the frames that have left
the lanes by that instant (R116, R227). -/

namespace Sys2Proof.Machine

/-- A frame's slot has begun, and it has not been counted as sent yet (R116). -/
def Tx.leaves (now : Nat) (g : Tx) : Bool := !g.gone && decide (512 * g.slot < now)

/-- A frame that leaves takes the class it has then (R227). -/
def Dev.depart (e : Dev) (now : Nat) (g : Tx) : Tx := if g.leaves now then { g with body := e.leavingBody g, gone := true } else g

/-- The frames of a lane that have left since the command before, which left the device as `e`, are counted (R116). -/
def Dev.countLeft (e : Dev) (l : Nat) (d : Dev) : Dev :=
  let k := ((d.lane l).tx.filter (Tx.leaves d.now)).length
  if k = 0 then d else (d.onLane l fun x => { x with tx := x.tx.map (e.depart d.now) }).count (aLANE_TXFR l) k

/-- The device at instant `t`: time never runs backward (log entry 10). What the command before sent on the links has left, and the
frames whose slots have begun since have left the lanes. -/
def Dev.toInstant (t : Nat) (d : Dev) : Dev :=
  Dev.each (List.range 32) d.countLeft
    { d with tb := d.tb.toWall (max d.tb.wall t), pair.sent := [], dom.sentUp := [], dom.sent0 := [], dom.sent1 := [] }

/-- Carry out a command at instant `t` that changes the device by `f`. -/
def run (t : Nat) (f : Dev → Dev) (s : State) : Host.Outcome State Fault Refusal :=
  let d := s.dev.toInstant t
  .next { s with dev := (f d).conclude s.array d }

/-- Carry out a command that reads the loft's array. -/
def runRead (t : Nat) (f : Memory → Dev → Dev) (s : State) : Host.Outcome State Fault Refusal :=
  let d := s.dev.toInstant t
  .next { s with dev := (f s.array d).conclude s.array d }

/-- Carry out a command that may change the loft's array. -/
def runLoft (t : Nat) (f : Memory → Dev → Memory × Dev) (s : State) : Host.Outcome State Fault Refusal :=
  let d := s.dev.toInstant t
  let r := f s.array d
  .next { s with array := r.1, dev := r.2.conclude r.1 d }

end Sys2Proof.Machine
end

