-- ==== Sys2Proof/Machine/Status.lean ====
section
/-! DEFINITION. What a read of each RO field shows that follows from the machine's own state: the status registers of
the chapters, computed from the state they report. Stored RO fields and W1C bits stand in `regs.stat`. -/

namespace Sys2Proof.Machine

/-- A word of fields, each given by its lowest bit, its width and its value, which is cut to the width. -/
def pk (fs : List (Nat × Nat × Nat)) : Word := BitVec.ofNat 32 (fs.foldl (fun w f => w + (f.2.2 % 2 ^ f.2.1) * 2 ^ f.1) 0)

/-- A value that saturates at a width. -/
def satU (w v : Nat) : Nat := min v (2 ^ w - 1)

/-- The bits of a predicate over 0 … n − 1. -/
def bitsOf (n : Nat) (p : Nat → Bool) : Nat := (List.range n).foldl (fun a i => if p i then a + 2 ^ i else a) 0

/-! ### Yard quantities -/

/-- A stall that fills a role (R128). -/
def StallState.fills : StallState → Bool
  | .conducting | .tapering | .held | .shed => true
  | _ => false

/-- A stall of the active set (R22). -/
def StallState.active : StallState → Bool
  | .conducting | .tapering => true
  | _ => false

/-- The state of a stall at instant `t`: one added or recalled out of HELD or SHED conducts from its firing window on (R129,
R131). -/
def Stall.shown (t : Nat) (x : Stall) : StallState := if x.state = .conducting && decide (t < x.fromW) then x.was else x.state

/-- The stalls that fill roles of yard `n`. -/
def Dev.filled (d : Dev) (n : Nat) : List Nat := (d.bound n).filter fun s => (d.stall s).state.fills

/-- The active set of yard `n` (R22). -/
def Dev.activeSet (d : Dev) (n : Nat) : List Nat := (d.bound n).filter fun s => ((d.stall s).shown d.now).active

/-- The conducting stalls of yard `n`. -/
def Dev.conducting (d : Dev) (n : Nat) : List Nat := (d.bound n).filter fun s => (d.stall s).shown d.now = .conducting

/-- The available spares of yard `n`: SPARE, and their most recent probe passed, or none made yet (R138; DESIGN CHOICE: log entry
107). -/
def Dev.spares (d : Dev) (n : Nat) : List Nat :=
  (d.bound n).filter fun s => (d.stall s).state = .spare && (d.stall s).probeOk

/-- Whether the yard of a rail takes a change at once: no EDGE frame of it is in flight (R145). -/
def RailState.still : RailState → Bool
  | .off | .probe | .hiccup | .latched => true
  | _ => false

/-- Set bits of a SEGOK. -/
def segCount (k : Nat) : Nat := ((List.range 4).filter k.testBit).length

/-- The life fraction of a stall in 1/1,024 without a cap (R126, R150). With EOL 0 the spec states none: a free value
(log entry 8). -/
def Dev.life (d : Dev) (s : Nat) : Nat :=
  match d.railOf s with
  | none => 0
  | some n =>
    let eol := d.regs.act.YARD_WEARCFG_EOL n
    if eol = 0 then Config.lifeWithoutEnd (d.stall s).counter else (d.stall s).counter * 1024 / (eol * 65536)

/-- The weight of a stall (R126): WMIN for one at its end of life that no spare relieves (R136). -/
def Dev.weightOf (d : Dev) (s : Nat) : Nat :=
  match d.railOf s with
  | none => 0
  | some n =>
    let f := min 1024 (d.life s)
    if (d.stall s).worn && !((d.yard n).pend.any fun c => c.kind = .retire && c.id = s) then d.regs.act.YARD_WEARCFG_WMIN n else
    max (d.regs.act.YARD_WEARCFG_WMIN n) (256 - d.regs.act.YARD_WEARCFG_WGAIN n * f / 1024) * segCount (d.stall s).segok / 4

/-! ### Pins that follow from state -/

def Dev.comp (d : Dev) (i : Nat) : Comparator := d.prot.comps.getD i {}


/-- The comparators that are active (PROT_LEVEL). -/
def Dev.levels (d : Dev) : Nat := bitsOf 27 fun i => (d.prot.comps.getD i {}).level

/-- VIN_MIN in mV: 80–150 valid, other values act as 80 (R65). -/
def Dev.vinMin (d : Dev) : Nat :=
  let v := d.regs.act.SYS_STARTCFG_VIN_MIN
  100 * (if v < 80 || 150 < v then 80 else v)

/-- The gate is fully on; in a pair member that is not the input owner, the drop monitor reads 6 codes or less (R385). -/
def Dev.gateGood (d : Dev) : Bool := if d.inPair && !d.pair.owner then decide (d.hsw.vdsRaw ≤ 6) else d.hsw.state = .on

/-- The input is good (R46): supervisor above, gate fully on, intermediate bus at or above VIN_MIN. -/
def Dev.inputGood (d : Dev) : Bool := d.pins.above && d.gateGood && d.vinMin ≤ d.hsw.vibSent

/-- Whether the device holds FAULT# low (R243, R34); in a pair, rails and comparators do not. -/
def Dev.faultPin (d : Dev) : Bool :=
  (d.sys.state = .start && (!d.inPair || d.sys.step ≤ 5)) || d.sys.state = .halt || d.evt.unusable ||
  (!d.inPair &&
    ((d.regs.act.PROT_GCFG_FLT_HIC = 1 && d.rails.any (fun r => r.state = .hiccup)) ||
     (d.regs.act.PROT_GCFG_FLT_LAT = 1 && d.rails.any (fun r => r.state = .latched)) ||
     decide (d.levels &&& d.regs.act.PROT_FAULTSRC_MASK ≠ 0)))

/-- Whether PG[n] is high as far as this device decides (R262, R385): the pins of a pair member are open drain, and one that is
not in RUN releases them. -/
def Dev.pgPin (d : Dev) (n : Nat) : Bool := (d.inPair && d.sys.state ≠ .run) || (d.rail n).pg

/-- HSW_GATE is high impedance: the member is not the input owner, and its high-voltage die does not sink it (R14, R385). -/
def Dev.gateReleased (d : Dev) : Bool := d.inPair && !d.pair.owner && !d.hsw.sunk

/-- BLEED is high impedance: the member is not the input owner (R385), or the high-voltage die does not run (R456). -/
def Dev.bleedReleased (d : Dev) : Bool := (d.inPair && !d.pair.owner) || !d.pins.vbusHv

/-- Whether a load command port drives LALERT# low (R207); a standby holds it released (R200). -/
def Dev.lalertPin (d : Dev) (k : Nat) : Bool :=
  d.sys.state ≠ .standby && (d.stat (aLCP_ALERT k)).toNat % 32 &&& d.regs.act.LCP_ALERTEN_EN k ≠ 0

/-- Rail `n` is enabled under R427. -/
def Dev.enabled (d : Dev) (n : Nat) : Bool :=
  let o := d.regs.act.SYS_RAILEN_ONOFF n
  !o.testBit 4 || ((o.testBit 3 || o.testBit 2) && (!o.testBit 3 || d.regs.act.SYS_RAILEN_OPER n = 0x80) &&
    (!o.testBit 2 || d.pins.en.testBit n))

/-! ### Status registers -/

/-- A mV reading as an unsigned field of `w` bits shows it: below 0 as 0, and saturating (log entry 64). -/
def satV (w : Nat) (v : Int) : Nat := satU w v.toNat

/-- The output energy of rail `n` in one µs: floor(VOUT × IOUT / 1,000) nJ in RAMP, REG or STOP (R317, R322). -/
def Dev.outputEnergy (d : Dev) (n : Nat) : Int :=
  let r := d.rail n
  let code : Int := (r.cvt : Int) + (if r.cn = 0 then 0 else r.csum / (r.cn : Int))
  if r.state = .ramp || r.state = .reg || r.state = .stop then code * r.ir * d.regs.act.ENG_IGAIN_GAIN n / 2 ^ 20 else 0

/-- The window takes `k` µs of output energy, up to now (R317). -/
def Dev.addOutput (k : Nat) (d : Dev) : Dev :=
  { d with meas.win := { d.meas.win with eout := d.meas.win.eout.zipIdx.map fun x => x.1 + k * d.outputEnergy x.2 },
           meas.outAt := d.now / usEu }

/-- The ticks of timebase time before now that no HV_TICK has counted, because they did not arrive, are taken before anything that
the output energy depends on changes (R15, R316, R317). -/
def Dev.catchOutput (d : Dev) : Dev :=
  let k := (d.now - 1) / usEu
  if d.tb.running && decide (d.meas.outAt < k) then
    { d.addOutput (k - d.meas.outAt) with meas.outAt := k }
  else d

/-- SYS, TB and LANE registers (R28, R29, R68, R69, R111–R117). -/
def Dev.roSys (d : Dev) (a : Nat) : Word :=
  if a = aSYS_STATE then
    pk [(0, 4, d.sys.state.code), (4, 4, if d.sys.state = .start then d.sys.step else 0), (8, 2, d.sys.kind),
      (10, 1, d.sys.pendingStart.toNat), (12, 1, d.tb.lock.toNat), (13, 1, d.sys.vinStale.toNat),
      (16, 8, bitsOf 8 fun n => (d.rail n).state = .reg),
      (24, 8, bitsOf 8 fun n => (d.rail n).state = .hiccup || (d.rail n).state = .latched)]
  else if aSYS_RAILSTATE 0 ≤ a && a ≤ aSYS_RAILSTATE 7 then
    let n := (a - aSYS_RAILSTATE 0) / 4
    let r := d.rail n
    pk [(0, 4, r.state.code), (4, 3, if r.state = .reg then r.mode.code else 0), (8, 4, r.retries), (12, 4, r.cause),
      (16, 3, (d.law n).region), (20, 12, (d.yard n).epoch)]
  else if a = aSYS_IMAGESEQ then BitVec.ofNat 32 d.sys.imageSeq
  else if a = aSYS_IDLECFG then 0x400000
  else if a = aSYS_WAKE then pk [(16, 16, d.sys.wakeCount)]
  else if aSYS_RAILEN 0 ≤ a && a ≤ aSYS_RAILEN 7 then
    let n := (a - aSYS_RAILEN 0) / 4
    pk [(1, 1, 1), (16, 1, (d.pins.en.testBit n).toNat), (17, 1, (d.sys.loaded && d.enabled n).toNat)]
  else if a = aTB_CFG then pk [(0, 9, d.tb.mult)]
  else if a = aTB_STATUS then
    pk [(0, 1, d.tb.lock.toNat), (1, 1, d.tb.holdover.toNat), (2, 1, d.tb.slewing.toNat), (3, 1, d.tb.lossFault.toNat),
      (16, 16, toBits 16 (clampI (-32768) 32767 d.tb.phErr))]
  else if a = aTB_NOWL then BitVec.ofNat 32 d.now
  else if a = aLANE_RETIREDMAP then BitVec.ofNat 32 (bitsOf 32 fun l => (d.lane l).state = .retired)
  else if a = aLANE_DOWNMAP then
    BitVec.ofNat 32 (bitsOf 32 fun l => (d.lane l).state = .down || (d.lane l).state = .training)
  else if a = aLANE_CENSEL || a = aLANE_CENDATA then
    let s := d.regs.act.LANE_CENSEL_STALL
    let k := 4 * (s % 16) + d.regs.act.LANE_CENSEL_WORD
    let x := d.lane (s / 16)
    let valid := x.censusOk.testBit k
    if a = aLANE_CENSEL then pk [(31, 1, valid.toNat)] else if valid then x.census.rd k else 0
  else if 0x20000 ≤ a && a < 0x20800 then
    let x := d.lane ((a - 0x20000) / 64)
    match (a - 0x20000) % 64 with
    | 0x04 => 
      pk [(0, 3, x.state.code), (3, 1, x.lame.toNat), (4, 4, satU 4 x.tries), (8, 4, x.cause), (16, 16, x.present)]
    | 0x08 => pk [(0, 16, satU 16 x.rt)]
    | 0x0C => pk [(0, 16, x.term), (16, 1, x.held.toNat)]
    | _ => 0
  else 0

/-- YARD registers (R147, R149, R150). -/
def Dev.roYard (d : Dev) (a : Nat) : Word :=
  if a < 0x40800 then
    let n := (a - 0x40000) / 256
    let y := d.yard n
    let has (k : ChangeKind) := y.pend.any fun c => c.kind = k
    match (a - 0x40000) % 256 with
    | 0x20 =>
      let f := d.filled n
      pk [(0, 9, f.length), (9, 9, y.m), (18, 9, (d.spares n).length), (27, 1, y.drainEnd.isSome.toNat),
        (28, 1, (f.any fun s => (d.stall s).state = .tapering).toNat)]
    | 0x24 => BitVec.ofNat 32 y.epoch
    | 0x28 =>
      pk [(0, 1, (has .fill).toNat), (1, 1, (has .retire).toNat), (2, 1, (has .commit).toNat),
        (3, 1, (has .lawUnit || has .balUnit).toNat), (4, 1, (has .lane || has .giveBack).toNat), (5, 1, y.deferred.toNat)]
    | 0x2C => pk [(0, 8, y.code), (8, 1, y.commit.isSome.toNat)]
    | _ => 0
  else if a = aYARD_BALUNIT then
    pk [(0, 3, bitsOf 3 fun u => (d.balUnit u).serving), (3, 3, bitsOf 3 fun u => (d.balUnit u).failed),
      (6, 3, bitsOf 3 fun u => (d.balUnit u).lame)]
  else if aYARD_BIND 0 ≤ a then
    let s := (a - aYARD_BIND 0) / 16
    let x := d.stall s
    match (a - aYARD_BIND 0) % 16 with
    | 0x4 => pk [(0, 4, (x.shown d.now).code), (4, 4, x.segok), (8, 4, x.cause), (16, 9, x.roleOf)]
    | 0x8 => pk [(0, 24, toBits 24 x.trim)]
    | 0xC => pk [(0, 11, satU 11 (d.life s)), (12, 9, satU 9 x.weight)]
    | _ => 0
  else 0

/-- A coefficient group's local code as a bit of ENG_GRPSTATn.PEND (R180). -/
def Dev.engPend (d : Dev) (n : Nat) : Nat := bitsOf 10 fun g => (d.law n).groups.any fun p => p.code = g

/-- The on-time in force: uhold from an episode until its hand-back (R222). -/
def Dev.uNow (d : Dev) (n : Nat) : Nat :=
  let r := d.rail n
  if r.mode = .burst || r.mode = .cut then r.uhold else (d.law n).u

/-- ENG registers (R180, R183, R184). -/
def Dev.roEng (d : Dev) (a : Nat) : Word :=
  if a < 0x64000 then
    let n := (a - 0x60000) / 0x800
    let l := d.law n
    match (a - 0x60000) % 0x800 with
    | 0x41C => pk [(16, 6, l.kdrS)]
    | 0x420 => BitVec.ofNat 32 l.kdrM
    | 0x430 =>
      pk [(8, 1, l.intHi.toNat), (9, 1, l.intLo.toNat),
        (10, 1, l.outHi.toNat), (11, 1, l.outLo.toNat), (12, 1, l.rebasePend.toNat)]
    | 0x434 =>
      pk [(0, 8, l.code), (8, 4, l.group), (12, 1, (decide (l.groups ≠ [])).toNat), (13, 10, d.engPend n)]
    | 0x438 => pk [(0, 8, satU 8 l.missRun)]
    | 0x440 => BitVec.ofNat 32 (d.uNow n)
    | 0x444 => BitVec.ofInt 32 l.vc
    | 0x448 => BitVec.ofInt 32 l.st.s
    | 0x44C => BitVec.ofInt 32 l.st.ifilt
    | 0x450 => BitVec.ofInt 32 l.x0
    | 0x454 => BitVec.ofInt 32 l.droop
    | _ => 0
  else if a = aENG_UNITMAP then
    pk [(0, 10, bitsOf 10 fun u => (d.lawUnit u).serving), (10, 10, bitsOf 10 fun u => (d.lawUnit u).failed),
      (20, 10, bitsOf 10 fun u => (d.lawUnit u).lame)]
  else if 0x68100 ≤ a && a < 0x681A0 then
    let u := d.lawUnit ((a - 0x68100) / 16)
    match (a - 0x68100) % 16 with
    | 0x4 => pk [(0, 9, (u.hist.filter id).length)]
    | 0x8 => pk [(0, 16, satU 16 u.last), (16, 16, satU 16 u.max)]
    | _ => 0
  else 0

/-- The slew class in use (R189). -/
def Dev.classOf (d : Dev) (n : Nat) : Nat :=
  match (d.rail n).state with
  | .ramp => d.regs.act.SYS_RAILSTART_SS_SLEW n
  | .stop => d.regs.act.SYS_RAILSTART_STOP_SLEW n
  | _ => (d.rail n).cls

/-- The code presented (R189). -/
def Rail.code (r : Rail) : Nat := r.pos / 256

/-- LCP registers (R209, R210). -/
def Dev.roLcp (d : Dev) (a : Nat) : Word :=
  if a < 0x81000 then
    match (a - 0x80000) % 64 with
    | 0x0C => BitVec.ofNat 32 (d.ports.getD ((a - 0x80000) / 64) {}).last
    | _ => 0
  else
    let n := (a - 0x81000) / 64
    let r := d.rail n
    match (a - 0x81000) % 64 with
    | 0x08 => pk [(0, 12, r.dest), (16, 12, r.code), (28, 4, d.classOf n)]
    | 0x0C => pk [(0, 20, r.pos)]
    | 0x10 =>
      pk [(0, 4, r.cmd.seq), (4, 3, r.cmd.status.code), (8, 3, r.cmd.src), (16, 4, r.prev.seq), (20, 3, r.prev.status.code),
        (24, 3, r.prev.src)]
    | 0x14 => pk [(0, 3, r.hint)]
    | 0x20 =>
      pk [(0, 1, r.warn.isSome.toNat), (1, 1, r.warn.elim 0 (·.dir)), (2, 4, r.warn.elim 0 (·.cls)),
        (8, 8, toBits 8 r.off), (16, 8, toBits 8 r.offt)]
    | _ => 0

/-- XNT_RETACC: E in 1/16 µJ, saturating (R228, R235). -/
def Returned.acc (r : Returned) : Nat := satU 32 (r.e / 2000)

/-- Returned energy in µJ (R228). -/
def Returned.tot (r : Returned) : Nat := r.total / 32000

/-- XNT_STATn.EPISODE (R233). -/
def Rail.episodeCode (r : Rail) : Nat :=
  match r.episode with
  | none => 0
  | some e => if e.cut then 2 else 1

/-- XNT registers (R233, R235). -/
def Dev.roXnt (d : Dev) (a : Nat) : Word :=
  if a < 0x91000 then
    let n := (a - 0x90000) / 128
    let r := d.rail n
    match (a - 0x90000) % 128 with
    | 0x1C => pk [(0, 12, r.ovthr), (16, 12, r.uvthr), (28, 1, r.tight.toNat)]
    | 0x20 =>
      pk [(0, 1, (d.prot.comps.getD n {}).level.toNat), (1, 1, (d.prot.comps.getD (8 + n) {}).level.toNat),
        (2, 2, r.episodeCode), (4, 4, r.nframes), (8, 2, min 2 r.inside)]
    | 0x24 => BitVec.ofNat 32 r.uhold
    | 0x28 => pk [(0, 9, toBits 9 r.conv)]
    | _ => 0
  else if a = aXNT_RETACC then BitVec.ofNat 32 d.ret.acc
  else if a = aXNT_RETSTAT then pk [(0, 1, d.ret.ceil.toNat)]
  else if a = aXNT_RETTOTL then BitVec.ofNat 32 d.ret.tot
  else 0

/-- PROT registers (R270, R272). -/
def Dev.roProt (d : Dev) (a : Nat) : Word :=
  if a < 0xA1000 then
    let r := d.rail ((a - 0xA0000) / 64)
    match (a - 0xA0000) % 64 with
    | 0x18 =>
      pk [(0, 8, satU 8 r.ocRun), (8, 8, satU 8 r.uvRun), (16, 8, r.hot), (24, 1, r.pg.toNat),
        (25, 1, (r.state = .hiccup && r.hicOver).toNat)]
    | _ => 0
  else if a = aPROT_CAPSTAT then pk [(0, 7, d.prot.capture.length)]
  else if a = aPROT_CAPL then BitVec.ofNat 32 (d.prot.capture.headD 0).toNat
  else if a = aPROT_LEVEL then BitVec.ofNat 32 d.levels
  else if a = aPROT_LFSTAT then
    pk [(0, 4, d.prot.slot), (4, 1, (d.tb.running && d.prot.ring ≠ .frozen).toNat), (5, 1, (decide (d.prot.ring = .frozen)).toNat),
      (6, 1, d.prot.writing.toNat), (7, 3, d.prot.pending.length)]
  else if a = aPROT_LFSEQ then BitVec.ofNat 32 d.prot.lfSeq
  else 0

/-- HSW registers (R303). -/
def Dev.roHsw (d : Dev) (a : Nat) : Word :=
  let h := d.hsw
  if a = aHSW_STATUS then
    pk [(0, 4, h.state.code), (4, 1, h.ilim.toNat), (5, 1, h.plim.toNat), (6, 1, d.pins.above.toNat),
      (7, 1, h.fetShort.toNat), (8, 4, h.retries), (12, 4, h.cause), (16, 2, h.recState)]
  else if a = aHSW_EFET then BitVec.ofNat 32 (if h.seen then satU 32 (h.efet / 1000000000) else 0)
  else if a = aHSW_WAITREM then
    pk [(0, 16, if h.state = .wait then satU 16 ((h.waitEnd - d.now) / msEu) else 0)]
  else if a = aHSW_CMEAS then pk [(0, 12, satU 12 h.cmeas)]
  else if a = aHSW_VSTOP then pk [(0, 17, satU 17 h.vstop)]
  else 0

/-- MEAS registers (R305, R329, R330). -/
def Dev.roMeas (d : Dev) (a : Nat) : Word :=
  let h := d.hsw
  let p := d.meas.pub
  if a = aMEAS_SARSTAT then
    pk [(0, 1, d.meas.seq.isSome.toNat), (1, 1, d.meas.closing.isSome.toNat), (3, 1, d.meas.lpAct.toNat)]
  else if a = aMEAS_TSEQ then BitVec.ofNat 32 d.meas.tseq
  else if a = aMEAS_TTIMEL then BitVec.ofNat 32 d.meas.te
  else if a = aMEAS_DIETEMP then pk [(0, 12, d.meas.dieTemp)]
  else if aMEAS_PATH 0 ≤ a && a ≤ aMEAS_PATH 3 then
    let c := d.meas.conv.getD ((a - aMEAS_PATH 0) / 4) {}
    pk [(0, 15, c.failed), (16, 4, c.sp13), (20, 4, c.sp14)]
  else if aMEAS_Q 0 ≤ a && a ≤ aMEAS_QSTAT 3 then
    let q := d.meas.queues.getD ((a - aMEAS_Q 0) / 8) []
    if (a - aMEAS_Q 0) % 8 = 0 then q.headD 0xFFFFFFFF else pk [(0, 9, q.length)]
  else if a = aMEAS_VBUS then pk [(0, 20, satV 20 h.v)]
  else if a = aMEAS_IBUS then BitVec.ofInt 32 h.i
  else if a = aMEAS_PIN then BitVec.ofInt 32 h.p
  else if a = aMEAS_VIB then pk [(0, 16, satU 16 h.vib)]
  else if a = aMEAS_VDS then pk [(0, 17, satV 17 h.vds)]
  else if a = aMEAS_RAW then pk [(0, 16, h.vraw), (16, 16, toBits 16 h.iraw)]
  else if a = aMEAS_EINL then BitVec.ofNat 32 (h.ein / 1000)
  else if a = aMEAS_EREVL then BitVec.ofNat 32 (h.erev / 1000)
  else if a = aMEAS_ELIFEL then BitVec.ofNat 32 h.life
  else if a = aMEAS_CALSTAT then
    pk [(0, 4, h.calValid), (4, 4, h.calPending), (16, 16, satU 16 (h.calOldest.elim 0 fun t => (d.opTime - t) / 86400000))]
  else if a = aMEAS_WSEQ then BitVec.ofNat 32 p.tseq
  else if a = aMEAS_WSTARTL then BitVec.ofNat 32 p.win.start
  else if a = aMEAS_WENDL then BitVec.ofNat 32 p.te
  else if a = aMEAS_WEINL then BitVec.ofNat 32 p.win.ein
  else if a = aMEAS_WEREVL then BitVec.ofNat 32 p.win.erev
  else if a = aMEAS_WNS then BitVec.ofNat 32 p.win.ns
  else if a = aMEAS_WVMIN then pk [(0, 20, satV 20 p.win.vmin)]
  else if a = aMEAS_WVMAX then pk [(0, 20, satV 20 p.win.vmax)]
  else if a = aMEAS_WIMAX then BitVec.ofInt 32 p.win.imax
  else if aMEAS_WEOUTL 0 ≤ a && a ≤ aMEAS_WEOUTL 7 && (a - aMEAS_WEOUTL 0) % 8 = 0 then
    BitVec.ofInt 32 (p.win.eout.getD ((a - aMEAS_WEOUTL 0) / 8) 0)
  else 0

/-- The spare pages not yet used (R337). -/
def Loft.freeSpares (l : Loft) : Nat :=
  992 - ((List.range 992).filter fun i => l.remap.any fun e => e.spare = i).length

/-- LOFT registers (R358). -/
def Dev.roLoft (d : Dev) (a : Nat) : Word :=
  let l := d.loft
  if a = aLOFT_STATUS then
    pk [(0, 1, l.portOk.toNat), (1, 1, l.busy.toNat), (2, 2, l.bp), (16, 10, if l.countersRead then l.freeSpares else 0)]
  else if a = aLOFT_PROT then pk [(0, 2, l.bp), (2, 2, l.bpWord)]
  else if a = aLOFT_WSTAT then pk [(0, 11, l.hostBuf.length), (11, 1, l.hostBusy.toNat), (16, 8, l.hostCode)]
  else if a = aLOFT_IMGSEQA then BitVec.ofNat 32 l.imgSeqA
  else if a = aLOFT_IMGSEQB then BitVec.ofNat 32 l.imgSeqB
  else if a = aLOFT_IMGSTAT then
    pk [(0, 1, l.imgValidA.toNat), (1, 1, l.imgValidB.toNat), (2, 1, l.installing.toNat)]
  else if a = aLOFT_PCYCLE then BitVec.ofNat 32 l.pcycle
  else if a = aLOFT_OPTL then BitVec.ofNat 32 d.opTime
  else 0

/-- The word of a latch that EVT_LWSEL selects (R381). -/
def Dev.latchWord (d : Dev) : Option Word :=
  (d.evt.latches[d.regs.act.EVT_LWSEL_LATCH]?).map fun e =>
    BitVec.ofNat 32 (leNat (((e.body 0).drop (4 * d.regs.act.EVT_LWSEL_WORD)).take 4))

/-- EVT registers (R381). -/
def Dev.roEvt (d : Dev) (a : Nat) : Word :=
  let e := d.evt
  if a = aEVT_STATUS then
    pk [(0, 8, e.queue.length), (8, 1, (decide (e.hold ≠ [])).toNat), (9, 4, e.latches.length), (13, 1, e.unusable.toNat)]
  else if a = aEVT_HEADL then BitVec.ofNat 32 e.head
  else if a = aEVT_RSTAT then pk [(0, 19, e.rslot), (31, 1, e.rvalid.toNat)]
  else if a = aEVT_CLRSTAT then pk [(0, 8, e.clearCode), (8, 1, e.clearing.toNat)]
  else if a = aEVT_LWSEL then pk [(31, 1, (e.latches[d.regs.act.EVT_LWSEL_LATCH]?).isSome.toNat)]
  else if a = aEVT_LWDATA then d.latchWord.getD 0
  else if a = aEVT_RDATA0 then e.rwords.headD 0
  else 0

/-- Whether the commits of a pair do not fit its link (R388): 9 × Σ 3,200 / RATE + 6 > 85 over the enabled yards, with the
sum as a fraction. -/
def Dev.pairLoad (d : Dev) : Bool :=
  let f := d.enabledRails.foldl (fun (x : Nat × Nat) n => (x.1 * d.rate n + 28800 * x.2, x.2 * d.rate n)) (0, 1)
  d.inPair && decide (79 * f.2 < f.1)

/-- PAIR registers (R417). -/
def Dev.roPair (d : Dev) (a : Nat) : Word :=
  let p := d.pair
  if a = aPAIR_STAT then
    pk [(0, 2, d.pins.role), (2, 1, p.primary.toNat),
      (3, 1, (p.partner.lastAt.any fun t => d.now ≤ t + 3 * usEu).toNat), (4, 1, p.alone.toNat), (5, 1, p.armed.toNat),
      (6, 1, p.mismatch.toNat), (7, 1, d.pairLoad.toNat), (8, 1, p.waiting.toNat), (9, 1, p.owner.toNat),
      (12, 4, satU 4 p.missRun), (16, 16, p.term)]
  else if a = aPAIR_LINK then pk [(0, 2, p.link.state), (16, 16, satU 16 p.link.rt)]
  else if a = aPAIR_PARTNER then
    match p.partner.hello with
    | none => 0
    | some h => pk [(0, 16, h.domid), (16, 4, h.state), (20, 4, h.step), (24, 1, h.owner.toNat)]
  else if a = aPAIR_DSEQ then pk [(0, 16, p.tx), (16, 16, p.ack)]
  else 0

/-- The local alarm word (R414); a pair without an armed standby sets PAIR at both members. Before the timebase runs it
is 0 (R20, R419). -/
def Dev.localAlarm (d : Dev) : Nat :=
  if !d.tb.running then 0
  else bitsOf 10 (fun k => match k with
    | 0 => d.faultPin
    | 1 => d.rails.any (fun r => r.state = .latched)
    | 2 => d.rails.any (fun r => r.state = .hiccup)
    | 3 => !d.inputGood
    | 4 => d.evt.unusable
    | 5 => d.tb.holdover
    | 7 => d.inPair && !(if d.pair.primary then d.pair.partnerArmed else d.pair.armed)
    | 9 => d.dom.noid
    | _ => false) ||| d.dom.sticky

/-- The address word with the lowest domain ID among some (R414). Where every address is unknown the word sent on names a device of a
free ID, so that no reserved KIND is emitted (R6; log entry 98). -/
def lowestGa (as : List Nat) : Nat :=
  match minimum? (as.filterMap gaId) with
  | some i => (as.find? fun a => gaId a = some i).getD 0
  | none => if as.isEmpty then 0 else 4 * 2 ^ 29 + Config.unknownMember (as.headD 0) % 65536 * 2 ^ 11

/-- The alarm of the subtree (R414): the OR of the local word and the children's, the members with any bit set and the
address word of the lowest among them (R5). -/
def Dev.subAlarm (d : Dev) : Nat × Nat × Nat :=
  let w := d.localAlarm
  let here := if w = 0 then [] else [(w, 1, d.gaDev.toNat)]
  let all := here ++ [d.dom.child0, d.dom.child1].filter fun c => c.2.1 ≠ 0
  (all.foldl (fun a c => a ||| c.1) 0, (all.map fun c => c.2.1).sum, lowestGa (all.map fun c => c.2.2))

/-- DOM_ALMLOW.ID (R419): 0 while no member has a bit set. -/
def Dev.lowestId (d : Dev) : Nat :=
  let a := d.subAlarm
  if a.2.1 = 0 then 0 else (gaId a.2.2).getD 0

/-- DOM registers that are not stored (R419). -/
def Dev.roDom (d : Dev) (a : Nat) : Word :=
  let m := d.dom
  if a = aDOM_ID then
    pk [(0, 16, m.id), (16, 1, m.valid.toNat), (17, 1, m.noid.toNat), (18, 5, m.depth), (23, 1, d.pins.domRoot.toNat),
      (24, 1, m.aligned.toNat)]
  else if a = aDOM_RANGE then pk [(0, 17, m.range)]
  else if a = aDOM_PORTS then
    pk [(0, 2, m.dup.state), (2, 2, m.ddn0.state), (4, 2, m.ddn1.state), (16, 16, satU 16 m.dup.rt)]
  else if a = aDOM_TERR then pk [(0, 16, toBits 16 (clampI (-32768) 32767 m.terr))]
  else if a = aDOM_EPOCH then BitVec.ofNat 32 m.epoch
  else if a = aDOM_ILV then pk [(8, 12, m.delta)]
  else if a = aDOM_SNAPSEQ then BitVec.ofNat 32 m.snapSeq
  else if a = aDOM_ALARM then pk [(0, 10, d.localAlarm), (16, 10, d.subAlarm.1)]
  else if a = aDOM_ALMCNT then pk [(0, 17, d.subAlarm.2.1)]
  else if a = aDOM_ALMLOW then pk [(0, 16, d.lowestId), (16, 1, (decide (d.subAlarm.2.1 ≠ 0)).toNat)]
  else 0

/-- The back-off in eu after a failure that leaves FAILS at k (R440). -/
def Access.delay (x : Access) : Nat := if x.fails = 0 then 0 else min 64 (2 ^ (x.fails - 1)) * secEu

/-- An attempt falls within the back-off; one whose end a cold start has lost runs on until step 5 has ended (R440). -/
def Dev.inBackoff (d : Dev) : Bool := d.acc.lost || (decide (d.acc.fails ≠ 0) && decide (d.now < d.acc.backEnd))

/-- What is left of the back-off, in s rounded up; one that a cold start has lost begins at the end of step 5 (R440, R450). -/
def Dev.backoffLeft (d : Dev) : Nat := if d.acc.lost then 0 else (d.acc.backEnd - d.now + secEu - 1) / secEu

/-- ACC and PERF registers (R450, R332). -/
def Dev.roAcc (d : Dev) (a : Nat) : Word :=
  let x := d.acc
  if a = aACC_LEVEL then pk [(0, 2, x.level), (2, 1, x.key.lock.toNat), (3, 1, x.key.pwSet.toNat)]
  else if a = aACC_AUTHSTAT then
    pk [(0, 4, x.fails), (8, 7, if d.inBackoff then d.backoffLeft else 0),
      (15, 1, x.chal.isSome.toNat), (16, 16, satU 16 ((d.now - x.prevTxn) / secEu))]
  else if a = aACC_SESSION then BitVec.ofNat 32 x.session
  else if a = aACC_INSTSTAT then pk [(0, 3, x.inst.state.code), (8, 8, x.inst.code)]
  else if a = aACC_INSTCNT then pk [(0, 17, x.inst.shown)]
  else if a = aPERF_STAT then pk [(0, 1, d.meas.snapBusy.isSome.toNat)]
  else if a = aPERF_SNAPSEQ then BitVec.ofNat 32 d.meas.snapSeq
  else if a = aPERF_SNAPTL then BitVec.ofNat 32 d.meas.snapTime
  else 0

/-- The RO bits at a register address that follow from the state. -/
def Dev.ro (d : Dev) (a : Nat) : Word :=
  if a < 0x40000 then d.roSys a
  else if a < 0x60000 then d.roYard a
  else if a < 0x80000 then d.roEng a
  else if a < 0x90000 then d.roLcp a
  else if a < 0xA0000 then d.roXnt a
  else if a < 0xB0000 then d.roProt a
  else if a < 0xC0000 then d.roHsw a
  else if a < 0xD0000 then d.roMeas a
  else if a < 0xE0000 then d.roLoft a
  else if a < 0xF0000 then d.roEvt a
  else if a < 0x100000 then d.roPair a
  else if a < 0x110000 then d.roDom a
  else if a < 0x124000 then d.roAcc a
  else d.regs.ovf.rd a

/-! ### Sticky PMBus status (R429) -/

/-- Set bits of one rail's status bytes. -/
def setByte (l : List Nat) (n mask : Nat) : List Nat := modAt l n (· ||| mask)

/-- The sticky bits of a turn-off of rail `n` with a cause (R429). -/
def Dev.statusOff (n cause : Nat) (d : Dev) : Dev :=
  let m := d.mgmt
  { d with mgmt := match cause with
    | 4 => { m with vout := setByte m.vout n 0x80 }
    | 5 => { m with vout := setByte m.vout n 0x10 }
    | 3 => { m with iout := setByte m.iout n 0x80 }
    | 6 => { m with temp := setByte m.temp n 0x80 }
    | 7 => { m with mfr := setByte m.mfr n 0x01 }
    | 8 => { m with mfr := setByte m.mfr n 0x02 }
    | 9 => { m with mfr := setByte m.mfr n 0x04 }
    | 11 => { m with mfr := setByte m.mfr n 0x08 }
    | _ => m }

/-- OT_WARNING of the yard's rail (R429). -/
def Dev.statusOtw (n : Nat) (d : Dev) : Dev := { d with mgmt.temp := setByte d.mgmt.temp n 0x40 }

/-- Sticky bits of STATUS_INPUT (R429). -/
def Dev.statusInput (mask : Nat) (d : Dev) : Dev := { d with mgmt.input := d.mgmt.input ||| mask }

/-! ### Refusals (R424) -/

/-- The bit of STATUS_CML that a refusal code sets. -/
def cmlBit (code : Nat) : Nat :=
  match code with
  | 1 => 7
  | 2 => 6
  | 3 => 5
  | 5 => 6
  | 8 => 6
  | 9 => 4
  | 10 => 6
  | _ => 1

/-- A refusal of a command, with the register address concerned or 0. -/
def Dev.refuse (code cmd addr : Nat) (d : Dev) : Dev :=
  let d := ({ d with mgmt.cml := d.mgmt.cml ||| 2 ^ cmlBit code }).count aACC_REFUSED
  (d.setStat aACC_LASTERR (BitVec.ofNat 32 (code + 256 * cmd))).setStat aACC_LASTADDR (BitVec.ofNat 32 addr)

/-- The current value of a register: its RW fields as the host reads them, its stored bits, and the bits that follow
from the state (R8). -/
def Dev.reg (d : Dev) (a : Nat) : Word := d.regs.hold.rd a ||| d.stat a ||| d.ro a

end Sys2Proof.Machine
end

