-- ==== Sys2Proof/Machine/Session.lean ====
section
/-! DEFINITION. Sessions and the image history (14_management_and_access.md, R436–R442; 11_the_loft.md, R349): what opens
and closes a session, and what abandons an install with it. -/

namespace Sys2Proof.Machine

def Dev.onAcc (f : Access → Access) (d : Dev) : Dev := { d with acc := f d.acc }
def Dev.onInst (f : Install → Install) (d : Dev) : Dev := { d with acc.inst := f d.acc.inst }

/-- The ten bytes of a timestamp: power-cycle count, then operating time (R299, R346, R349). -/
def Dev.stamp (d : Dev) : List Byte := leBytes 4 d.loft.pcycle ++ leBytes 6 d.opTime

/-- The address of an image copy (R333). -/
def imageAddr (copyB : Bool) : Nat := if copyB then 0x80000 else 0x40000

/-- Bytes 0x04–0x3B of an image-history entry (R349): 1 STARTED, 2 DONE, 3 INTERRUPTED, 4 REJECTED. -/
def Dev.histBody (result : Nat) (copyB : Bool) (seq crc session : Nat) (d : Dev) : List Byte :=
  leBytes 1 result ++ leBytes 1 copyB.toNat ++ [0, 0] ++ leBytes 4 seq ++ leBytes 4 crc ++
    d.stamp ++ [0, 0] ++ leBytes 4 session ++ List.replicate 28 0

/-- Whose write the entry of a RESULT is. -/
def histTag (result : Nat) : LoftTag := if result = 1 then .started else if result = 2 then .finished else .history

/-- Ask for an image-history entry. -/
def Dev.writeHist (result : Nat) (copyB : Bool) (seq crc session : Nat) (d : Dev) : Dev :=
  d.loftJob { prio := 4, tag := histTag result, req := .hist (d.histBody result copyB seq crc session), steps := [], begun := false }

/-- The job is one of an install's that ends with it; an entry STARTED stays. -/
def LoftTag.ofInstall : LoftTag → Bool
  | .installBody | .installFinal | .dual | .finished => true
  | _ => false

/-- The install's waiting steps are dropped; a step in progress completes (R335). -/
def Loft.dropInstall (l : Loft) : Loft :=
  let keep (x : LoftJob × Nat) : Option LoftJob :=
    if !x.1.tag.ofInstall then some x.1
    else if x.2 = 0 && l.busy then some { x.1 with steps := x.1.steps.take 1 }
    else none
  { l with jobs := l.jobs.zipIdx.filterMap keep }

/-- An install is in progress, its second copy included (R443, R445). -/
def Install.active (i : Install) : Bool := i.state = .receiving || i.state = .writing || i.second

/-- An install ends REJECTED with a code of R444 (R443). -/
def Dev.rejectInstall (code : Nat) (d : Dev) : Dev :=
  let i := d.acc.inst
  let d := { d with loft := d.loft.dropInstall }
  let d := d.writeHist 4 (i.copyB != i.second) i.seq i.bodyCrc i.session
  let d := d.onInst fun i => { i with state := .rejected, code := code, second := false }
  let d := { d with loft.installing := false }
  d.raiseDev 0x4102 ([BitVec.ofNat 8 code, 0, 0, 0] ++ leBytes 4 i.session)

/-- The session ends: 1 LOGOUT, 2 idle, 3 a start, 4 LOCK (R441, R442, R448). -/
def Dev.closeSession (reason : Nat) (d : Dev) : Dev :=
  if d.acc.level = 0 then d
  else
    let d :=
      if reason = 3 then
        if d.acc.inst.active then { (d.onInst fun _ => {}) with loft := { d.loft.dropInstall with installing := false } } else d
      else d.when d.acc.inst.active (Dev.rejectInstall 8)
    let d := d.raiseDev 0x5002 (leBytes 4 d.acc.session ++ [BitVec.ofNat 8 reason])
    d.onAcc fun x => { x with level := 0, session := 0 }

/-- The identifier of the session with a count (R441). -/
def Dev.sessionId (count : Nat) (d : Dev) : Nat := d.loft.pcycle % 65536 * 65536 + count % 65536

/-- An authentication succeeds: the level rises, and a session opens if none is open (R438, R439, R441). -/
def Dev.raiseLevel (level method : Nat) (d : Dev) : Dev :=
  if d.acc.level ≠ 0 then
    let d := d.onAcc fun x => { x with level := max x.level level }
    d.raiseDev 0x5001 (leBytes 4 d.acc.session ++ [BitVec.ofNat 8 d.acc.level, BitVec.ofNat 8 method])
  else
    let n := d.acc.begun + 1
    let d := d.onAcc fun x => { x with level := level, begun := n, session := d.sessionId n, lastTxn := d.now }
    d.raiseDev 0x5001 (leBytes 4 d.acc.session ++ [BitVec.ofNat 8 level, BitVec.ofNat 8 method])

/-- From the end of step 5 a device whose FIELD_LOCK is 0 is at maintenance level, in a session of count 0 (R436). -/
def Dev.fieldSession (d : Dev) : Dev :=
  if d.acc.key.lock || d.acc.level ≠ 0 then d
  else
    let d := d.onAcc fun x => { x with level := 2, session := d.sessionId 0, lastTxn := d.now }
    d.raiseDev 0x5001 (leBytes 4 d.acc.session ++ [2, 0])

/-- The session that an unlocked device holds of itself, with count 0, ends only at a start (R441). -/
def Dev.fieldHeld (d : Dev) : Bool := !d.acc.key.lock && d.acc.level = 2 && d.acc.session % 65536 = 0

/-- The session ends by LOGOUT, 1, or for want of a transaction, 2; an unlocked device is at maintenance level again at once
(R436, R441). -/
def Dev.endSession (reason : Nat) (d : Dev) : Dev :=
  if d.acc.level = 0 || d.fieldHeld then d else (d.closeSession reason).fieldSession

end Sys2Proof.Machine
end

