-- ==== Sys2Proof/Machine/Yards.lean ====
section
/-! DEFINITION. The yard manager's shared operations (04_the_yard.md): segment masks, shedding and recall, the checks of
an interleave group, vacancies and spares, and what an epoch boundary takes. -/

namespace Sys2Proof.Machine

/-! ### Sorting -/

/-- Insert before the first element that `a` must not follow. -/
def insertBy {α : Type} (lt : α → α → Bool) (a : α) : List α → List α
  | [] => [a]
  | b :: l => if lt b a then b :: insertBy lt a l else a :: b :: l

/-- Stable sort. -/
def sortBy {α : Type} (lt : α → α → Bool) (l : List α) : List α := l.foldr (insertBy lt) []

/-- The rank of the role a stall holds (R118). -/
def Dev.rankOf (d : Dev) (s : Nat) : Nat := d.regs.act.YARD_BIND_RANK (d.stall s).roleOf

/-- The phase of the role a stall holds. -/
def Dev.phaseOf (d : Dev) (s : Nat) : Nat := d.regs.act.YARD_BIND_PHASE (d.stall s).roleOf

/-- Stalls in order of the rank of their roles. -/
def Dev.byRank (d : Dev) (l : List Nat) : List Nat := sortBy (fun a b => d.rankOf a < d.rankOf b) l

/-- The roles of yard `n` that no stall fills. -/
def Dev.vacant (d : Dev) (n : Nat) : List Nat :=
  let f := (d.filled n).map fun s => (d.stall s).roleOf
  sortBy (fun a b => d.regs.act.YARD_BIND_RANK a < d.regs.act.YARD_BIND_RANK b)
    ((d.bound n).filter fun r => d.roleKind r = 1 && !f.contains r)

/-! ### On-times and segments (R123, R124) -/

/-- The latest start of a period of stall `s` at or before now (R121). -/
def Dev.periodBegan (d : Dev) (n s : Nat) : Nat :=
  let tp := atLeast1 (d.tp n)
  d.now - (d.now + tp - d.phaseOf s * tp / 4096) % tp

/-- The word of YARD_ONLIMn that governs a frame of stall `s` built now: a write takes effect at the stall's next period boundary (R9,
R434; DEDUCED: log entry 115). -/
def Dev.onlimOf (d : Dev) (n s : Nat) : Word :=
  ((d.yard n).onlims.find? fun x => d.periodBegan n s ≤ x.1).elim (d.regs.act.rd (aYARD_ONLIM n)) (·.2)

/-- The largest on-time of R123, in eu. -/
def Dev.onmax (d : Dev) (n s : Nat) : Nat := min 65535 (fld (d.onlimOf n s) 15 8 * d.tp n / 256)

/-- ON and the new residue of stall `s` from the on-time with trim, taper and residue, in eu × 2⁸ (R123). -/
def Dev.onOf (d : Dev) (n s : Nat) (v : Int) : Nat × Int :=
  let on := v / 256
  let res := v - on * 256
  let short := on < (fld (d.onlimOf n s) 7 0 : Int)
  let res := if short then v else res
  let on := if short then 0 else on
  if (d.onmax n s : Int) < on then (d.onmax n s, 0) else (on.toNat, res)

/-- The number of segments enabled for a stall of yard `n` (R124). -/
def Dev.segWanted (d : Dev) (n s : Nat) : Nat :=
  let ok := segCount (d.stall s).segok
  let i := (d.rail n).ir
  let m : Int := ((d.yard n).m : Int)
  if d.regs.act.YARD_SEGCFG_SEG_EN n = 0 then ok
  else if i ≥ 4 * (d.regs.act.YARD_SEGCFG_ISEG2 n : Int) * m then ok
  else if i ≥ 4 * (d.regs.act.YARD_SEGCFG_ISEG1 n : Int) * m then min 2 ok
  else min 1 ok

/-- The segment mask of stall `s` in a yard whose epoch count is `epoch` (R124). -/
def Dev.segMask (d : Dev) (n s epoch : Nat) : Nat :=
  let order := (List.range 4).map fun i => (s + epoch + i) % 4
  let take := (order.filter fun k => (d.stall s).segok.testBit k).take (d.segWanted n s)
  take.foldl (fun a k => a + 2 ^ k) 0

/-! ### Shedding, adding and recall (R128–R131) -/

/-- The firing windows of rail `n` begin at k × P + L (R21): the first at or after `t`. -/
def Dev.windowFrom (d : Dev) (n t : Nat) : Nat :=
  let p := d.p n
  if t ≤ d.lead then d.lead else d.lead + (t - d.lead + p - 1) / p * p

/-- The first firing window of rail `n` whose frames have not begun to leave (R129, R131). -/
def Dev.freshWindow (d : Dev) (n : Nat) : Nat := d.windowFrom n (d.now + d.lead)

/-- The start of the next period of stall `s` for which no frame was built yet (R121). -/
def Dev.nextPeriod (d : Dev) (n s : Nat) : Nat :=
  let tp := atLeast1 (d.tp n)
  let t := max d.now (d.stall s).nextFrom
  t + (d.phaseOf s * tp / 4096 + tp - t % tp) % tp

/-- A stall returns to CONDUCTING: from HELD or SHED with a trim of 0, from the window that begins at `w` on (R125, R129,
R131). -/
def Dev.conduct (w s : Nat) (d : Dev) : Dev :=
  d.onStall s fun x =>
    if x.state = .conducting then x
    else if x.state = .tapering then { x with state := .conducting, entered := d.now }
    else { x with state := .conducting, entered := max d.now w, trim := 0, fromW := w, was := x.state }

/-- A stall goes from the taper, or straight from conducting, to HELD (R130); one whose last EDGE frame asked it to continue is
owed the stop frame (R123). -/
def Stall.toHeld (ends : Nat) (x : Stall) : Stall :=
  { x with state := .held, heldEnd := ends, stopDue := x.stopDue || x.edges.head?.any fun e => !e.final }

/-- A conducting stall leaves the conducting set (R130); one that was recalled and does not conduct yet stays as it was. -/
def Dev.shedStall (n s : Nat) (d : Dev) : Dev :=
  let next := d.nextPeriod n s
  d.onStall s fun x =>
    if x.state ≠ .conducting then x
    else if d.now < x.fromW then { x with state := x.was, fromW := 0 }
    else if d.regs.act.YARD_SHEDTIME_TAPER n = 0 then x.toHeld (d.now + 8 * d.tp n)
    else { x with state := .tapering, taperFrom := next }

/-- Make the conducting set the `m` filled roles of lowest rank (R128); those that enter it conduct from window `w` on. -/
def Dev.setM (n m w : Nat) (d : Dev) : Dev :=
  let order := d.byRank (d.filled n)
  let m := min m order.length
  let d := d.onYard n fun y => { y with m := m }
  (d.each (order.take m) (Dev.conduct w)).each (order.drop m) (Dev.shedStall n)

/-- The stalls that a BURST or a CUT of yard `n` names (R132, R246). -/
def Dev.burstSet (d : Dev) (n : Nat) : List Nat :=
  (d.bound n).filter fun s =>
    let st := (d.stall s).shown d.now
    st = .conducting || st = .tapering || st = .held

/-- The positions of a set of stalls on a lane, as a POSMASK. -/
def posMask (l : Nat) (set : List Nat) : Nat := set.foldl (fun a s => if s / 16 = l then a + 2 ^ (s % 16) else a) 0

/-- The lanes that carry stalls of a set, ascending. -/
def lanesOf (set : List Nat) : List Nat := (List.range 32).filter fun l => set.any fun s => s / 16 = l

/-- The device may send frames on a lane: it is UP (R106, R109), and the device is no standby (R392). -/
def Dev.laneUp (d : Dev) (l : Nat) : Bool := (d.lane l).state = .up && !d.isStandby

/-- The instant of the latest slot that holds one of the given frames, at least the next slot's. -/
def Dev.frameInstant (d : Dev) (frames : List (Nat × Body)) : Nat :=
  512 * (frames.map fun f => d.slotOf f.1 f.2).foldl max (slotAt d.now)

/-- Bursts in progress of a lane's stalls of a set end at the instant at which a CUT leaves; one that leaves after it, because the CUT
displaced it, does not (R476). -/
def Dev.endBursts (l : Nat) (set : List Nat) (t : Nat) (d : Dev) : Dev :=
  let stop (b : BurstSent) : BurstSent := if b.cutAt.isSome || decide (t < b.start) then b else { b with cutAt := some t }
  d.each (set.filter fun s => s / 16 = l) fun s d => d.onStall s fun x => { x with bursts := x.bursts.map stop }

/-- The CUT frames to a set of stalls on those of the given lanes that are UP, one for each lane. -/
def Dev.cutFrames (d : Dev) (lanes set : List Nat) (dur : Nat) (lson : Bool) (nlim : Nat) : List (Nat × Body) :=
  (lanes.filter d.laneUp).map fun l => (l, cutBody (posMask l set) dur lson nlim)

/-- Send CUT frames of rail `n` in the first slot; a burst in progress ends with them (R246, R476). -/
def Dev.sendCuts (n : Nat) (set : List Nat) (fs : List (Nat × Body)) (d : Dev) : Dev :=
  d.each fs fun f d =>
    let d := (d.sendFor n 0 f.1 d.now f.2).count (aXNT_CFR n)
    d.endBursts f.1 set (512 * d.slotOf f.1 f.2)

/-- A CUT to a set of stalls on the given lanes. -/
def Dev.sendCutOn (n : Nat) (lanes set : List Nat) (dur : Nat) (lson : Bool) (nlim : Nat) (d : Dev) : Dev :=
  d.sendCuts n set (d.cutFrames lanes set dur lson nlim)

/-- A CUT to a set of stalls on every lane that carries one of them (R217, R219). -/
def Dev.sendCut (n : Nat) (set : List Nat) (dur : Nat) (lson : Bool) (nlim : Nat) (d : Dev) : Dev :=
  d.sendCutOn n (lanesOf set) set dur lson nlim

/-- The stop frame of R123 for one stall; a burst in progress ends with it (R476). -/
def Dev.stopFrame (s ready : Nat) (d : Dev) : Dev :=
  let b := cutBody (2 ^ (s % 16)) 0 false 0
  if d.laneUp (s / 16) then
    let d := d.sendFor ((d.railOf s).getD 8) 0 (s / 16) ready b
    d.endBursts (s / 16) [s] (512 * d.slotOf (s / 16) b)
  else d

/-- EDGE frames for a stall that have not yet left are withdrawn (R137). -/
def Dev.dropEdges (s : Nat) (d : Dev) : Dev := d.dropTx (s / 16) fun g => g.isEdge && bfld g.body 59 55 = s % 16

/-! ### Interleave groups (R119, R120, R122) -/

/-- The low `b` bits of a number reversed. -/
def bitReverse : Nat → Nat → Nat
  | 0, _ => 0
  | b + 1, v => (v % 2) * 2 ^ b + bitReverse b (v / 2)

/-- The smallest b with 2^b ≥ n. -/
def ceilLog2 (n : Nat) : Nat := ((List.range 11).find? fun b => n ≤ 2 ^ b).getD 10

/-- The role field of YARD_BINDs in a register map: 1 active, 2 spare, 0 otherwise (R118). -/
def roleIn (m : RMap) (s : Nat) : Nat :=
  let r := m.YARD_BIND_ROLE s
  if r = 3 then 0 else r

/-- The active stalls of yard `n` in a register map, ascending. -/
def activeIn (m : RMap) (n : Nat) : List Nat :=
  (List.range 512).filter fun s => roleIn m s = 1 && m.YARD_BIND_RAIL s = n

/-- PHASE and RANK computed for the active stalls of a yard (R122), as (stall, phase, rank). -/
def autoPhase (act : List Nat) : List (Nat × Nat × Nat) :=
  let lt := fun a b => a % 16 < b % 16 || (a % 16 = b % 16 && a / 16 < b / 16)
  let l := sortBy lt act
  let n := l.length
  let b := ceilLog2 n
  let order := ((List.range (2 ^ b)).map (bitReverse b)).filter fun k => k < n
  l.zipIdx.map fun (s, k) => (s, k * 4096 / n, order.idxOf k)

/-- Store the computed PHASE and RANK in the fields in force. -/
def storePhases (m : RMap) (l : List (Nat × Nat × Nat)) : RMap :=
  l.foldl (fun m x => m.wr (aYARD_BIND x.1) (setFld (setFld (m.rd (aYARD_BIND x.1)) 19 8 x.2.1) 28 20 x.2.2)) m

/-- Phases advanced by `k`, modulo 4,096 (R412). -/
def advance (k : Nat) (l : List (Nat × Nat × Nat)) : List (Nat × Nat × Nat) := l.map fun x => (x.1, (x.2.1 + k) % 4096, x.2.2)

/-- The PHASE and RANK of the active stalls of yard `n` as they stand in a register map. -/
def phasesIn (m : RMap) (n : Nat) : List (Nat × Nat × Nat) :=
  (activeIn m n).map fun s => (s, m.YARD_BIND_PHASE s, m.YARD_BIND_RANK s)

/-- A register map with AUTOPHASE applied for yard `n`. -/
def withAutoPhase (m : RMap) (n : Nat) : RMap :=
  if m.YARD_CFG_AUTOPHASE n = 1 then storePhases m (autoPhase (activeIn m n)) else m

/-- A register map with the interleave of yard `n` moved on: under AUTOPHASE the computed phases with Δ added, else the
phases advanced by `k` (R122, R412). -/
def withDelta (m : RMap) (n delta k : Nat) : RMap :=
  if m.YARD_CFG_AUTOPHASE n = 1 then storePhases m (advance delta (autoPhase (activeIn m n)))
  else if k = 0 then m else storePhases m (advance k (phasesIn m n))

/-- The largest number of the given offsets inside any 20 ns interval of a period (R120). Two starts exactly 20 ns apart do not
share one (DESIGN CHOICE: log entry 80). -/
def mostInWindow (tp : Nat) (offs : List Nat) : Nat :=
  offs.foldl (fun a x => max a ((offs.filter fun y => (y + tp - x) % tp < 1024).length)) 0

/-- The slot budget of R120 over a register map, at a lead time in ns: every yard with active stalls on a lane counts. -/
def budgetOk (m : RMap) (leadNs : Nat) : Bool :=
  let offs := (List.range 8).map fun k =>
    let tp := 16 * m.YARD_CFG_PERIOD k
    (tp, (activeIn (withAutoPhase m k) k).map fun s =>
      (s / 16, (withAutoPhase m k).YARD_BIND_PHASE s * tp / 4096))
  (List.range 32).all fun l =>
    (offs.map fun y => mostInWindow y.1 ((y.2.filter fun o => o.1 = l).map (·.2))).sum ≤ (leadNs - 217) / 20

/-- The checks of R119 over a register map: `stalls` are those whose fields the group holds. -/
def Dev.ilvCheck (d : Dev) (m : RMap) (n : Nat) (stalls : List Nat) : Nat :=
  let m := withAutoPhase m n
  let act := activeIn m n
  let nact := m.YARD_CAP_NACT n
  let used := stalls.filter fun s => roleIn m s ≠ 0
  let tp := 16 * m.YARD_CFG_PERIOD n
  if m.YARD_CFG_PERIOD n < 1600 || 12800 < m.YARD_CFG_PERIOD n then 1
  else if used.any fun s => m.YARD_CFG_EN (m.YARD_BIND_RAIL s) = 0 then 2
  else if act.length ≠ nact then 3
  else if m.YARD_CFG_AUTOPHASE n = 0 && (List.range nact).any fun r => !(act.any fun s => m.YARD_BIND_RANK s = r) then 4
  else if used.any fun s => !((m.LANE_CFG_POP (s / 16)).testBit (s % 16)) || (d.lane (s / 16)).state = .retired then 5
  else if nact < m.YARD_CAP_MINACT n || m.YARD_CAP_MINACT n < m.YARD_CAP_MINCOND n then 6
  else if !budgetOk m (min 2000 (max 240 m.TB_LEAD_LEAD)) then 7
  else if min 65535 (m.YARD_ONLIM_DMAX n * tp / 256) < m.YARD_ONLIM_ONMIN n then 8
  else 0

/-- The stalls whose RAIL is `n`, before or after the staged change (R119). -/
def Dev.ilvStalls (d : Dev) (n : Nat) : List Nat :=
  (List.range 512).filter fun s => d.regs.act.YARD_BIND_RAIL s = n || d.regs.hold.YARD_BIND_RAIL s = n

/-- The words of the interleave group of yard `n` as staged: its fields from the shadow, the rest of each word as it is
in force (R119). -/
def Dev.ilvWords (d : Dev) (n : Nat) : RMap :=
  let take (a mask : Nat) : Nat × Word := (a, blend mask (d.regs.act.rd a) (d.regs.hold.rd a))
  [take (aYARD_CFG n) 0x3FFF2, take (aYARD_CAP n) 0x3FFFF] ++
    (d.ilvStalls n).map fun s => take (aYARD_BIND s) 0x1FFFFF1F

/-- The stalls of a commit of yard `n`: those bound to it, and those whose fields the accepted group holds (R119). -/
def Dev.commitStalls (d : Dev) (n : Nat) (ws : RMap) : List Nat :=
  (List.range 512).filter fun s => d.regs.act.YARD_BIND_RAIL s = n || ws.any fun w => w.1 = aYARD_BIND s

/-- The bits of a register that belong to the interleave group of yard `n` (R119). -/
def ilvMask (n a : Nat) : Nat := if a = aYARD_CFG n then 0x3FFF2 else if a = aYARD_CAP n then 0x1FF else 0x1FFFFF1F

/-- The words of an accepted interleave commit as they come into force: the group's bits alone; what was written to the other fields
of a word since stands (R119). -/
def Dev.ilvInForce (d : Dev) (n : Nat) (ws : RMap) : RMap :=
  ws.map fun w => (w.1, blend (ilvMask n w.1) (d.regs.act.rd w.1) w.2)

/-- A register map with words stored over it. -/
def RMap.over (m : RMap) (ws : RMap) : RMap := ws.foldl (fun m w => m.wr w.1 w.2) m

/-! ### Pending layout changes (R138, R142) -/

/-- A layout change becomes pending, unless it already is. -/
def Dev.pendChange (n : Nat) (k : ChangeKind) (id : Nat) (d : Dev) : Dev :=
  d.onYard n fun y =>
    if y.pend.any (fun c => c.kind = k && c.id = id) then y else { y with pend := y.pend ++ [⟨k, id, d.now⟩] }

/-- The pending changes that satisfy `m` stay; with none left nothing is deferred (R143). -/
def Yard.keepPend (m : Change → Bool) (y : Yard) : Yard :=
  let p := y.pend.filter m
  { y with pend := p, deferred := y.deferred && !p.isEmpty }

/-- The vacancies that available spares can fill, lowest rank first (R138). -/
def Dev.fillable (d : Dev) (n : Nat) : List Nat := (d.vacant n).take (d.spares n).length

/-- A spare has been chosen for a role and waits for the boundary (R150). -/
def Dev.chosen (d : Dev) (n r : Nat) : Option Nat :=
  (d.bound n).find? fun s => (d.stall s).state = .incoming && (d.stall s).chosenFor = r

/-- The stalls at the end of their life that spares can relieve beside the vacancies, lowest rank first (R136). -/
def Dev.relievable (d : Dev) (n : Nat) : List Nat :=
  let worn := d.byRank ((d.filled n).filter fun s => (d.stall s).worn)
  let sure := worn.filter fun s => (d.chosen n (d.stall s).roleOf).isSome
  sure ++ (worn.filter fun s => !sure.contains s).take ((d.spares n).length - (d.fillable n).length)

/-- Every vacancy with an available spare is a pending change, and every retirement that a spare can relieve; one without a
spare is not (R136, R138). -/
def Dev.refreshFills (n : Nat) (d : Dev) : Dev :=
  let can := (d.vacant n).filter fun r => (d.fillable n).contains r || (d.chosen n r).isSome
  let old := d.relievable n
  let lost := (d.yard n).pend.any fun c => c.kind = .retire && !old.contains c.id
  let d := (d.when lost (Dev.stick (aYARD_COUNT n) 0x40000000)).onYard n (Yard.keepPend fun c =>
    (c.kind ≠ .fill || can.contains c.id) && (c.kind ≠ .retire || old.contains c.id))
  let d := d.each can fun r d => d.pendChange n .fill r
  let d := d.each old fun s d => d.pendChange n .retire s
  d.each ((d.filled n).filter fun s => (d.stall s).worn) fun s d => d.onStall s fun x => { x with weight := d.weightOf s }

/-- The spare that fills a role: one on the lane of the role's original holder, else the lowest stall number (R138). -/
def pickSpare (avail : List Nat) (r : Nat) : Option Nat :=
  match avail.find? (fun s => s / 16 = r / 16) with
  | some s => some s
  | none => avail.head?

/-- A spare is chosen for a role: INCOMING, with a trim of 0 and a residue of 0 (R138, R150). -/
def Dev.chooseFor (n r : Nat) (d : Dev) : Dev :=
  (pickSpare (d.spares n) r).elim d fun s => d.onStall s fun x =>
    { x with state := .incoming, chosenFor := r, trim := 0, res := 0, edges := [], bursts := [] }

/-- Whether a fill of role `r` conducts: it takes over the role's shed state, and the conducting set stays the roles of
lowest rank (R128, R146). -/
def Dev.fillConducts (d : Dev) (n r : Nat) : Bool :=
  let rank := d.regs.act.YARD_BIND_RANK r
  let f := d.filled n
  if f.any fun s => (d.stall s).state = .conducting && rank < d.rankOf s then true
  else if f.any fun s => (d.stall s).state ≠ .conducting && d.rankOf s < rank then false
  else (d.stall r).vacState = .conducting

/-- A stall takes a role, with a trim of 0 and the shed state of the role: a taper or a hold under way goes on (R125, R138,
R146). At a boundary that takes a commit, which roles conduct is settled after the fills. -/
def Dev.takeRole (commit : Bool) (n s r : Nat) (d : Dev) : Dev :=
  let c := !commit && d.fillConducts n r
  let y := d.stall r
  let st : StallState := if c then .conducting else if y.vacState = .conducting then .shed else y.vacState
  let d := d.onStall s fun x =>
    { x with state := st, roleOf := r, chosenFor := 0, returning := 0, entered := d.now, trim := 0, fromW := 0,
             taperFrom := y.vacTaper, heldEnd := y.vacHeld }
  d.onYard n fun y => { y with m := if c then y.m + 1 else y.m }

/-! ### What a boundary takes (R142, R144) -/

/-- The state of a stall after a commit that binds it: its own role, shed until `keepM` finds it in the conducting set, the
stable, or unused (R119, R144, R146). The role it held, vacant now, keeps its shed state. -/
def Dev.rebind (was : List Nat) (s : Nat) (d : Dev) : Dev :=
  let x := d.stall s
  if x.state = .failed || x.state = .retired then d
  else if d.roleKind s = 1 && was.contains s then d
  else
    let d := d.when x.state.fills (Dev.onStall x.roleOf fun y => { y with vacState := x.state, vacTaper := x.taperFrom, vacHeld := x.heldEnd })
    d.onStall s fun x =>
      { x with
        state := match d.roleKind s with
          | 1 => .shed
          | 2 => .spare
          | _ => .unused,
        roleOf := s, chosenFor := 0, returning := 0, trim := 0, fromW := 0, entered := d.now,
        res := if (d.yard (d.regs.act.YARD_BIND_RAIL s)).boundary.isSome && d.roleKind s = 1 then x.res else 0,
        stopDue := x.state.fills && x.edges.head?.any fun e => !e.final }

/-- A yard conducts with every role it fills. -/
def Dev.allConduct (d : Dev) (n : Nat) : Bool := decide ((d.filled n).length ≤ (d.yard n).m)

/-- How many of yard `n`'s roles are in the conducting set, those that are vacant included (R128, R137). -/
def Dev.conductingRoles (d : Dev) (n : Nat) : Nat :=
  (d.yard n).m + ((d.vacant n).filter fun r => (d.stall r).vacState = .conducting).length

/-- The conducting set of yard `n` after a commit, from the device `e` before it: as many roles of lowest rank as before, at least
MINCOND, less those that stay vacant; at rest a yard with nothing shed conducts with every role (R128, R144; log entry 90). -/
def Dev.keepM (e : Dev) (n : Nat) (d : Dev) : Dev :=
  let roles := sortBy (fun a b => d.regs.act.YARD_BIND_RANK a < d.regs.act.YARD_BIND_RANK b)
    ((d.filled n).map (fun s => (d.stall s).roleOf) ++ d.vacant n)
  let k := if (e.rail n).state.still && e.allConduct n then roles.length
    else max (d.regs.act.YARD_CAP_MINCOND n) (e.conductingRoles n)
  d.setM n ((d.filled n).filter fun s => (roles.take k).contains (d.stall s).roleOf).length 0

/-- Another yard that a commit takes stalls from, or binds stalls to: it conducts with as many as still do, and at rest a yard with
nothing shed conducts with every role (R128, R144). -/
def Dev.settleM (e : Dev) (n : Nat) (d : Dev) : Dev :=
  let left := ((d.filled n).filter fun s => (d.stall s).state = .conducting).length
  d.setM n (if (e.rail n).state.still && e.allConduct n then (d.filled n).length else left) (d.freshWindow n)

/-- The stage parameters of the given stalls whose VALUE is no longer what it was in `e` are written (R121, R226, R249). -/
def Dev.writeChanged (e : Dev) (stalls : List Nat) (d : Dev) : Dev :=
  d.each stalls fun s d => d.each ((List.range 13).filter fun p => decide (p ≠ 0 ∧ d.paramValue s p ≠ e.paramValue s p)) fun p d =>
    d.writeParam p s

/-- The yards other than `n` that one of `stalls` has left or joined since the device was `e` (R144). -/
def Dev.movedYards (d e : Dev) (n : Nat) (stalls : List Nat) : List Nat :=
  (List.range 8).filter fun k => k ≠ n && stalls.any fun s => decide (e.railOf s ≠ d.railOf s) &&
    (e.railOf s = some k || d.railOf s = some k)

/-- Apply an accepted interleave commit: its fields come into force, PHASE and RANK are computed under AUTOPHASE, the roles are
held by their own stalls, and the other yards that lose or gain stalls follow (R119, R121, R122, R144, R146, R412); `keepM` settles
the yard's own conducting set. -/
def Dev.applyIlv (n : Nat) (ws : RMap) (d : Dev) : Dev :=
  let stalls := d.commitStalls n ws
  let was := (d.filled n).filter fun s => (d.stall s).roleOf = s
  let e := d
  let d := { d with regs.act := withDelta (d.regs.act.over (d.ilvInForce n ws)) n d.dom.delta (d.yard n).dstep }
  let d := d.each stalls (Dev.rebind was)
  let d := d.onYard n fun y => { y with commit := none, dstep := 0 }
  let d := d.each (d.movedYards e n stalls) (Dev.settleM e)
  let d := d.delta (.commit 0x10 n (d.now / d.p n % 65536))
  Dev.writeChanged e (d.bound n ++ stalls.filter fun s => !(d.bound n).contains s) d

/-- A stall that R136 marked becomes RETIRED when a spare can take its role. -/
def Dev.retireWorn (n s : Nat) (d : Dev) : Dev :=
  let x := d.stall s
  if !x.state.fills || ((d.chosen n x.roleOf).isNone && (d.spares n).length ≤ (d.fillable n).length) then d
  else
    let r := x.roleOf
    let d := d.onStall r fun y => { y with vacState := x.state, vacTaper := x.taperFrom, vacHeld := x.heldEnd }
    let d := d.onStall s fun x => { x with state := .retired, stopDue := x.edges.head?.any fun e => !e.final }
    (d.onYard n fun y => { y with m := if x.state = .conducting then y.m - 1 else y.m }).count (aYARD_RETIRE n)

/-- A stall that passed both probes of R140 refills its own role if that is vacant, and otherwise joins the stable; it is
no longer failed (R137). One that has failed again since, or whose lane is not UP, stays as it is (R110, R146). -/
def Dev.giveBack (commit : Bool) (n s : Nat) (d : Dev) : Dev :=
  if (d.stall s).returning ≠ 3 || (d.lane (s / 16)).state ≠ .up then d
  else
  let d := d.onStall s fun x => { x with cause := 0 }
  if d.roleKind s = 1 && (d.vacant n).contains s then d.takeRole commit n s s
  else d.onStall s fun x => { x with state := .spare, roleOf := s, returning := 0, probeOk := true, trim := 0, res := 0 }

/-- The fills of one boundary, in order of rank (R138, R148); STALLS_REPLACED counts those of steps 6 and 7, whose rail part
runs in PROBE (R66). -/
def Dev.fillRoles (commit : Bool) (n : Nat) (roles : List Nat) (d : Dev) : Dev :=
  d.each (roles.filter fun r => (d.vacant n).contains r) fun r d =>
    let d := if (d.chosen n r).isSome then d else d.chooseFor n r
    match d.chosen n r with
    | some s =>
      let starts := (d.sys.state = .start && (d.sys.step = 6 || d.sys.step = 7)) || (d.rail n).state = .probe
      let d := (d.takeRole commit n s r).when starts
        fun d => d.setStatFld aSYS_STARTLOG 23 16 (satU 8 (fld (d.stat aSYS_STARTLOG) 23 16 + 1))
      d.count (aYARD_REPLACE n)
    | none => d

/-- A failed stall as R137 leaves it: FAILED with its cause, its role vacant. The counts and frames of R137 are
`Dev.failStall`'s. -/
def Dev.markFailed (s cause : Nat) (d : Dev) : Dev :=
  let x := d.stall s
  let d := d.onStall s fun x => { x with state := .failed, cause := cause, chosenFor := 0, returning := 0 }
  match d.railOf s with
  | none => d
  | some n =>
    if !x.state.fills then d
    else
      let d := d.onStall x.roleOf fun y => { y with vacState := x.state, vacTaper := x.taperFrom, vacHeld := x.heldEnd }
      d.onYard n fun y => { y with m := if x.state = .conducting then y.m - 1 else y.m }

/-- Of the stalls on a lane, those of the rails given count as failed with cause 5 (R106, R109, R137); the return of one that had failed
before is void (R110). -/
def Dev.failLaneStalls (l : Nat) (rails : List Nat) (d : Dev) : Dev :=
  d.each ((List.range 16).map fun p => 16 * l + p) fun s d =>
    let x := d.stall s
    match d.railOf s with
    | none => d
    | some n =>
      if !rails.contains n || x.state = .unused || x.state = .retired then d
      else if x.state = .failed then d.onStall s fun x => { x with returning := 0 }
      else
        let d := (d.markFailed s 5).count (aYARD_FAILCNT n)
        d.onStall s fun x => { x with edges := [], stopDue := false }

/-- A lane is RETIRED under R107, from TRAINING or UP with a cause, else with the cause it has: LANE_RETIRED is logged and
every stall of the lane counts as failed; step 6 counts it (R66). -/
def Dev.retireLane (l : Nat) (cause : Option Nat) (d : Dev) : Dev :=
  if (d.lane l).state = .retired then d
  else
    let d := (d.dropTx l fun _ => true).onLane l fun x =>
      { x with state := .retired, cause := cause.getD x.cause, lame := false, asks := [], phase := 0 }
    let d := d.raise 0x1005 (d.gaLane l) [BitVec.ofNat 8 (d.lane l).cause]
    let d := d.when (d.sys.state = .start && d.sys.step = 6)
      fun d => d.setStatFld aSYS_STARTLOG 15 8 (satU 8 (fld (d.stat aSYS_STARTLOG) 15 8 + 1))
    d.when (decide (d.sys.state ≠ DevState.standby)) (Dev.failLaneStalls l (List.range 8))

/-- At a boundary of yard `n` a lame lane loses that yard's stalls; after the last such yard it is RETIRED (R107). -/
def Dev.retireLame (n l : Nat) (d : Dev) : Dev :=
  if !(d.lane l).lame then d
  else
    let d := d.failLaneStalls l [n]
    if d.yards.any fun y => y.pend.any fun c => c.kind = .lane && c.id = l then d else d.retireLane l (some 3)

/-- A spare unit takes the place of a lame law unit (R178). For the longest-free order of R160 it is free since now (DESIGN CHOICE:
log entry 108). -/
def Dev.replaceLaw (u : Nat) (d : Dev) : Dev :=
  match (List.range 10).find? (fun v => !(d.lawUnit v).serving && !(d.lawUnit v).failed && !(d.lawUnit v).lame &&
      (d.lawUnit v).replacedBy.isNone) with
  | none => d.raiseDev 0x2008 [BitVec.ofNat 8 u]
  | some v =>
    let d := d.onLawUnit u fun x => { x with serving := false, replacedBy := some v }
    let d := d.onLawUnit v fun x => { x with serving := true, freeAt := d.now }
    (d.raiseDev 0x3004 [BitVec.ofNat 8 u, BitVec.ofNat 8 v]).count aENG_UNITRET

/-- A spare unit takes the place of a lame balance unit (R127). -/
def Dev.replaceBal (u : Nat) (d : Dev) : Dev :=
  match (List.range 3).find? (fun v => !(d.balUnit v).serving && !(d.balUnit v).failed && !(d.balUnit v).lame &&
      (d.balUnit v).replacedBy.isNone) with
  | none => d.raiseDev 0x2009 [BitVec.ofNat 8 u]
  | some v =>
    let d := d.onBalUnit u fun x => { x with serving := false, replacedBy := some v }
    let d := d.onBalUnit v fun x => { x with serving := true, freeAt := d.now }
    d.raiseDev 0x3005 [BitVec.ofNat 8 u, BitVec.ofNat 8 v]

/-- The epoch-class field of yard `n` takes its held value (R9): MINACT. -/
def Dev.takeEpochFields (n : Nat) (d : Dev) : Dev :=
  let a := aYARD_CAP n
  { d with regs.act := d.regs.act.wr a (blend 0x3FE00 (d.regs.act.rd a) (d.regs.hold.rd a)) }

/-- Take a list of layout changes of yard `n` at one boundary, without advancing its epoch: the commit, retirements of
lanes and stalls, returns, units, the fills (R138, R142, R146), and last what conducts after a commit (R144). -/
def Dev.takeLayout (n : Nat) (cs : List Change) (d : Dev) : Dev :=
  let ids (k : ChangeKind) : List Nat := (cs.filter fun c => c.kind = k).map (·.id)
  let was := d.vacant n
  let commit := !(ids .commit).isEmpty
  let d := d.onYard n (Yard.keepPend fun c => !cs.contains c)
  let d := d.takeEpochFields n
  let e := d
  let d := if !commit then d else match (d.yard n).commit with
    | some ws => d.applyIlv n ws
    | none => d
  let d := d.each (ids .lane) (Dev.retireLame n)
  let d := d.each (ids .retire) (Dev.retireWorn n)
  let d := d.each (ids .giveBack) (Dev.giveBack commit n)
  let d := d.each (ids .lawUnit) Dev.replaceLaw
  let d := d.each (ids .balUnit) Dev.replaceBal
  let roles := (d.vacant n).filter fun r => (ids .fill).contains r || commit || !was.contains r
  (d.fillRoles commit n roles).when commit (Dev.keepM e n)

/-- Take every pending change of a yard at once, with no drain (R145). -/
def Dev.takeNow (n : Nat) (d : Dev) : Dev :=
  let d := d.refreshFills n
  let cs := (d.yard n).pend
  if cs.isEmpty then d
  else
    let d := d.onYard n fun y => { y with boundary := none, drainEnd := none, deferred := false, taking := [] }
    let d := d.takeLayout n cs
    (d.onYard n fun y => { y with epoch := y.epoch + 1 }).refreshFills n

/-- After anything that may make a change pending: vacancies with spares are pending, and a yard at rest takes what is
pending at once (R138, R145). -/
def Dev.afterChange (n : Nat) (d : Dev) : Dev :=
  if (d.rail n).state.still then d.takeNow n else d.refreshFills n

end Sys2Proof.Machine
end

