-- ==== Sys2Proof/Machine/LawOps.lean ====
section
/-! DEFINITION. The law engine's shared operations (05_law_engine.md): the arithmetic of an evaluation, its inputs, the
rebase targets, region selection, the groups of coefficients, and the lame rule. -/

namespace Sys2Proof.Machine

/-! ### Arithmetic (R152, R153) -/

/-- Saturation to 32 bits of two's complement. -/
def sat32 (v : Int) : Int := clampI (-(2 ^ 31)) (2 ^ 31 - 1) v

/-- Whether saturation to 32 bits changes a value. -/
def overs (v : Int) : Bool := decide (sat32 v ≠ v)

/-- A coefficient applied, before saturation: the product shifted right with rounding toward minus infinity (R152). -/
def mulRaw (a : Int) (k : Int × Nat) : Int := a * k.1 / (2 ^ k.2 : Nat)

/-- A fixed internal product, before saturation (R152). -/
def mulcRaw (a b : Int) (sh : Nat) : Int := a * b / (2 ^ sh : Nat)

/-- The droop coefficient that SLOPE gives at shift `s`: round(SLOPE × 2^(s + 13) / 10⁸), half away from zero (R154). -/
def kdrMant (slope s : Nat) : Nat := (slope * 2 ^ (s + 14) + 100000000) / 200000000

/-- kdr of a SLOPE: mantissa and shift (R154). -/
def kdrOf (slope : Nat) : Nat × Nat :=
  if slope = 0 then (0, 0)
  else match ((List.range 64).reverse).find? (fun s => kdrMant slope s < 2 ^ 31) with
    | some s => (kdrMant slope s, s)
    | none => (0, 0)

/-- The reciprocal of a bus voltage in mV (R154). -/
def rvOf (vin : Nat) : Int := if vin = 0 then 2 ^ 31 - 1 else ((min (2 ^ 31 - 1) (2 ^ 33 * 1000 / vin) : Nat) : Int)

/-- An evaluation of the law (R157, R167, R169). With IMIN > IMAX, VCMIN > VCMAX or VCMIN < 0, which R175 refuses and an image may
still load, a value below the lower limit takes it and any other the upper one, and a negative u acts as 0 (DESIGN CHOICE: log entry 109). -/
def lawEval (st : LawState) (i : LawInputs) : LawResult :=
  let b := i.bank
  let icalR := mulcRaw (i.ir * 2048) i.igain 15
  let ical := sat32 icalR
  let dif := ical - st.ifilt
  let stepR := mulRaw (sat32 dif) b.kll
  let filtR := st.ifilt + sat32 stepR
  let ifilt := if i.first then ical else sat32 filtR
  let droopR := mulRaw ifilt i.kdr
  let droop := sat32 droopR
  let x0R := -i.ec - droop
  let x0 := sat32 x0R
  let posR := i.vt - droop
  let ffR := mulRaw (sat32 posR) b.kff
  let ff := sat32 ffR
  let p0 := mulRaw x0 b.b0
  let p1 := mulRaw st.x1 b.b1
  let p2 := mulRaw st.x2 b.b2
  let p3 := mulRaw st.y1 b.a1
  let p4 := mulRaw st.y2 b.a2
  let a1 := sat32 p0 + sat32 p1
  let a2 := sat32 a1 + sat32 p2
  let a3 := sat32 a2 + sat32 p3
  let a4 := sat32 a3 + sat32 p4
  let y0 := sat32 a4
  let rdR := i.rvin - i.rvnom
  let rkR := mulRaw (sat32 rdR) b.kvin
  let rsR := i.rvnom + sat32 rkR
  let rv := clampI 1 (2 ^ 31 - 1) (sat32 rsR)
  let clampRv := decide (rv ≠ sat32 rsR)
  let starR : Int := match i.rebase with
    | .ustar u => (u : Int) * 2 ^ 53 / ((i.tp : Int) * rv)
    | .vcprev => st.vcprev
    | .none => 0
  let star := sat32 starR
  let sat1 := star - ff
  let sat2 := sat32 sat1 - y0
  let kiR := mulRaw x0 b.ki
  let intR := st.s + sat32 kiR
  let frozen := i.held || (st.outhi && decide (x0 > 0)) || (st.outlo && decide (x0 < 0))
  let s := if i.rebase ≠ .none then sat32 sat2 else if frozen then st.s else sat32 intR
  let sc := clampI b.imin b.imax s
  let v1 := ff + y0
  let v2 := sat32 v1 + sc
  let vcR := sat32 v2
  let vc := clampI b.vcmin b.vcmax vcR
  let qR := mulcRaw vc rv 31
  let uR := mulcRaw (sat32 qR) i.tp 22
  let satInt := decide (sc ≠ s)
  let satOut := decide (vc ≠ vcR)
  let used := overs icalR || (!i.first && (overs dif || overs stepR || overs filtR)) || overs droopR || overs x0R ||
    overs posR || overs ffR || overs p0 || overs p1 || overs p2 || overs p3 || overs p4 || overs a1 || overs a2 ||
    overs a3 || overs a4 || overs rdR || overs rkR || overs rsR || clampRv || overs v1 || overs v2 || overs qR || overs uR
  let rebased := i.rebase ≠ .none && (overs starR || overs sat1 || overs sat2)
  let integ := i.rebase = .none && !frozen && (overs kiR || overs intR)
  let u := match i.rebase with
    | .ustar w => if satInt || satOut || clampRv then (sat32 uR).toNat else w
    | _ => (sat32 uR).toNat
  { u := u, x0 := x0, droop := droop, vc := vc,
    st := { ifilt := ifilt, s := sc, x1 := x0, x2 := st.x1, y1 := y0, y2 := st.y1, vcprev := vc,
            outhi := decide (vc = b.vcmax), outlo := decide (vc = b.vcmin) },
    satArith := used || rebased || integ, satInt := satInt, satOut := satOut,
    intHi := decide (sc = b.imax), intLo := decide (sc = b.imin),
    outHi := decide (vc = b.vcmax), outLo := decide (vc = b.vcmin) }

/-! ### Inputs (R22, R154) -/

/-- The nominal intermediate bus in mV (R183). -/
def Dev.vinNom (d : Dev) : Nat :=
  let v := d.regs.act.ENG_VINNOM_VINNOM
  if v < 8000 || 15000 < v then 12000 else v

/-- The intermediate bus voltage of the law in mV (R22). -/
def Dev.vin (d : Dev) : Nat := if d.sys.vinStale then d.vinNom else d.hsw.vibSent

/-- The rail current of R22: the sum of the latest TELEM currents of the yard's active set, in 1/16 A. -/
def Dev.railCurrent (d : Dev) (n : Nat) : Int := ((d.activeSet n).map fun s => (d.stall s).cur).sum

/-- The bank at a bank's base address in a register map: nine coefficients and four limits (R155, R181). -/
def bankAt (m : RMap) (a : Nat) : Bank :=
  let c (k : Nat) : Int := (m.rd (a + k)).toInt
  let sh (k hi lo : Nat) : Nat := fld (m.rd (a + k)) hi lo
  { b0 := (c 0x00, sh 0x24 5 0), b1 := (c 0x04, sh 0x24 13 8), b2 := (c 0x08, sh 0x24 21 16), a1 := (c 0x0C, sh 0x24 29 24),
    a2 := (c 0x10, sh 0x28 5 0), ki := (c 0x14, sh 0x28 13 8), kff := (c 0x18, sh 0x28 21 16), kvin := (c 0x1C, sh 0x28 29 24),
    kll := (c 0x20, sh 0x2C 5 0), imin := c 0x30, imax := c 0x34, vcmin := c 0x38, vcmax := c 0x3C }

/-- The active bank of region `r` of rail `n`. -/
def Dev.bank (d : Dev) (n r : Nat) : Bank := bankAt d.regs.stat (aENG_AB0 n r)

/-- The ustar of R476 over the window of length tp that ends at `b`; tp is that of the layout in force now (DESIGN CHOICE: log entry
110). -/
def Dev.ustar (d : Dev) (n b : Nat) : Nat :=
  let tp := d.tp n
  let inWin (t : Nat) : Bool := decide (b ≤ t + tp) && decide (t < b)
  let high (x : Stall) : Option Nat :=
    let es := x.edges.filter fun e => inWin e.start
    let bs := x.bursts.filter fun e => inWin e.start
    if es.isEmpty && bs.isEmpty then none
    else some ((es.map (·.on)).sum + (bs.map fun e => match e.cutAt with
      | some c => min (16 * e.dur) (c - e.start)
      | none => 16 * e.dur).sum)
  let hs := (d.conducting n).filterMap fun s => high (d.stall s)
  if hs.isEmpty then d.uNow n else 256 * hs.sum / hs.length

/-! ### Regions (R172) -/

/-- Threshold j of rail `n`, 1–7, in A. -/
def Dev.band (d : Dev) (n j : Nat) : Nat :=
  match j with
  | 1 => d.regs.act.ENG_BANDA_T1 n
  | 2 => d.regs.act.ENG_BANDA_T2 n
  | 3 => d.regs.act.ENG_BANDB_T3 n
  | 4 => d.regs.act.ENG_BANDB_T4 n
  | 5 => d.regs.act.ENG_BANDC_T5 n
  | 6 => d.regs.act.ENG_BANDC_T6 n
  | _ => d.regs.act.ENG_BANDD_T7 n

/-- How many thresholds, lowered by `h` A, the committed ifilt reaches; 0xFFFF is never reached (R172). -/
def Dev.bandCount (d : Dev) (n h : Nat) : Nat :=
  ((List.range 7).filter fun j =>
    let t := d.band n (j + 1)
    t ≠ 0xFFFF && decide (((t : Int) - h) * 2 ^ 15 ≤ (d.law n).st.ifilt)).length

/-- select_region of R156. `entering` marks the first boundary after entry to RAMP. -/
def Dev.selectRegion (d : Dev) (n : Nat) (entering : Bool) : Nat :=
  let m := d.regs.act
  let p := (d.law n).region
  let up := d.bandCount n 0
  let down := d.bandCount n (m.ENG_RSEL_HYST n)
  if (d.rail n).state = .ramp && m.ENG_RSEL_RAMP_OVR n = 1 then m.ENG_RSEL_RAMPREG n
  else match m.ENG_RSEL_SRC n with
    | 1 => if entering then up else if p < up then up else if down < p then down else p
    | 2 => (m.ENG_HINTMAP_MAP n >>> (3 * (d.rail n).hint)) % 8
    | _ => m.ENG_RSEL_FIXED n

/-! ### Groups (R174–R176) -/

/-- The addresses and masks of the fields of a group of rail `n`, by its local code. -/
def engGroup (n g : Nat) : List (Nat × Nat) :=
  if g < 8 then (List.range 16).map fun k => (aENG_SB0 n g + 4 * k, 0xFFFFFFFF)
  else if g = 8 then [(aENG_LL n, 0x1FFF), (aENG_IGAIN n, 0xFFFF)]
  else [(aENG_RSEL n, 0xFFFF01FF), (aENG_BANDA n, 0xFFFFFFFF), (aENG_BANDB n, 0xFFFFFFFF), (aENG_BANDC n, 0xFFFFFFFF),
        (aENG_BANDD n, 0xFFFF), (aENG_HINTMAP n, 0xFFFFFF)]

/-- The fields of a group as staged. -/
def Dev.engStaged (d : Dev) (n g : Nat) : RMap := (engGroup n g).map fun x => (x.1, d.regs.hold.rd x.1)

/-- Checks 0x11–0x13 of R175 on a bank. -/
def Bank.check (b : Bank) : Nat :=
  if b.imax < b.imin then 0x11 else if b.vcmax < b.vcmin then 0x12
  else if b.vcmin < 0 || 0x20000000 < b.vcmax then 0x13 else 0

/-- Checks 0x16 and 0x17: thresholds strictly ascending, unused ones last, and HYST below the least gap (R175). -/
def bandCheck (ts : List Nat) (hyst : Nat) : Nat :=
  let used := ts.filter (· ≠ 0xFFFF)
  let last := (ts.dropWhile (· ≠ 0xFFFF)).any (· ≠ 0xFFFF)
  let gaps := (used.zip (used.drop 1)).map fun x => (x.1, x.2)
  if last || gaps.any (fun x => x.2 ≤ x.1) then 0x16
  else if (used.headD (hyst + 1) ≤ hyst) || gaps.any (fun x => x.2 - x.1 ≤ hyst) then 0x17 else 0

/-- The checks of R175 on a group as staged. -/
def Dev.engCheck (d : Dev) (n g : Nat) : Nat :=
  let m := d.regs.hold
  if (d.law n).groups.any fun p => p.code = g then 0x10
  else if g < 8 then (bankAt m (aENG_SB0 n g)).check
  else if g = 8 then
    if 5000 < m.ENG_LL_SLOPE n then 0x14
    else if m.ENG_IGAIN_GAIN n < 0x6000 || 0xA000 < m.ENG_IGAIN_GAIN n then 0x15 else 0
  else
    let ts := [m.ENG_BANDA_T1 n, m.ENG_BANDA_T2 n, m.ENG_BANDB_T3 n, m.ENG_BANDB_T4 n, m.ENG_BANDC_T5 n,
      m.ENG_BANDC_T6 n, m.ENG_BANDD_T7 n]
    let c := bandCheck ts (m.ENG_RSEL_HYST n)
    let named := [m.ENG_RSEL_RAMPREG n, m.ENG_RSEL_FIXED n] ++
      (List.range 8).map fun h => (m.ENG_HINTMAP_MAP n >>> (3 * h)) % 8
    if c ≠ 0 then c
    else if m.ENG_RSEL_SRC n = 3 || named.any (fun r => (d.bank n r).check ≠ 0) then 0x18 else 0

/-- kdr is formed when the load-line group is applied (R154). -/
def Dev.formKdr (n : Nat) (d : Dev) : Dev :=
  let k := kdrOf (d.regs.act.ENG_LL_SLOPE n)
  d.onLaw n fun l => { l with kdrM := k.1, kdrS := k.2 }

/-- Apply one accepted group: a bank group exchanges the shadow and the active bank, and a later write lands in the
shadow after the exchange; the others come into force (R173, R174, R176). -/
def Dev.applyGroup (n : Nat) (p : GroupPend) (d : Dev) : Dev :=
  if p.code < 8 then
    let old := p.words.map fun w => (w.1, d.stat (w.1 - 0x40))
    let stat := p.words.foldl (fun m w => m.wr (w.1 - 0x40) w.2) d.regs.stat
    let hold := (d.regs.hold.over old).over p.late
    let d := { d with regs.stat := stat, regs.hold := hold }
    let d := d.onLaw n fun l => { l with swapped := l.swapped || decide (l.region = p.code) }
    d.count (aENG_SWAP n)
  else
    let masked := p.words.map fun w => (w.1, blend (((engGroup n p.code).find? (fun x => x.1 = w.1)).elim 0 (·.2))
      (d.regs.act.rd w.1) w.2)
    let d := { d with regs.act := d.regs.act.over masked }
    if p.code = 8 then d.formKdr n else d

/-- Apply every accepted group of a rail (R174). -/
def Dev.applyGroups (n : Nat) (d : Dev) : Dev :=
  let ps := (d.law n).groups
  let d := d.onLaw n fun l => { l with groups := [] }
  d.each ps fun p d => (d.applyGroup n p).delta (.commit p.code n (d.now / d.p n % 65536))

/-- A commit of a law-engine group: checked when received, then pending or, on a rail at rest, applied at once (R174,
R175). -/
def Dev.commitEng (n g : Nat) (d : Dev) : Dev :=
  let code := d.engCheck n g
  let p : GroupPend := ⟨g, d.engStaged n g, []⟩
  let d := d.onLaw n fun l => { l with code := code, group := g }
  if code ≠ 0 then d
  else
    let d := d.onLaw n fun l => { l with groups := l.groups ++ [p] }
    if (d.rail n).state = .ramp || (d.rail n).state = .reg then d else d.applyGroups n

/-! ### Law and balance units (R127, R177, R178) -/

/-- PCT of the lame rule, 0 where the rule is disabled (R183). -/
def Dev.lamePct (d : Dev) : Nat := min 100 d.regs.act.ENG_LAMECFG_PCT

/-- Whether a job that took `e` eu on a rail counts as slow (R177). The verdict stands as it was formed when the job ended, also
with PCT 0, which disables the rule and not the record (DESIGN CHOICE: log entry 83). -/
def Dev.slowJob (d : Dev) (n e : Nat) : Bool := decide (d.lamePct * d.p n < 100 * e)

/-- Add a verdict to a unit's last 256 jobs (R177). -/
def EvalUnit.judge (slow : Bool) (u : EvalUnit) : EvalUnit := { u with hist := (slow :: u.hist).take 256 }

/-- Whether a unit meets the lame rule. -/
def Dev.meetsLame (d : Dev) (u : EvalUnit) : Bool :=
  d.lamePct ≠ 0 && atLeast1 d.regs.act.ENG_LAMECFG_COUNT ≤ (u.hist.filter id).length

/-- The lowest-numbered yard in RAMP or REG (R127, R178). -/
def Dev.firstRunning (d : Dev) : Option Nat :=
  (List.range 8).find? fun n => (d.rail n).state = .ramp || (d.rail n).state = .reg

/-- The stable holds a passing law unit. -/
def Dev.lawSpare (d : Dev) : Bool := d.lawUnits.any fun v => !v.serving && !v.failed && !v.lame && v.replacedBy.isNone

/-- A spare balance unit remains. -/
def Dev.balSpare (d : Dev) : Bool := d.balUnits.any fun v => !v.serving && !v.failed && !v.lame && v.replacedBy.isNone

/-- A law unit that meets the lame rule is marked, and its replacement becomes a pending layout change or is taken at
once (R178). -/
def Dev.lameLaw (u : Nat) (d : Dev) : Dev :=
  let x := d.lawUnit u
  if x.lame || !x.serving then d
  else
    let d := d.onLawUnit u fun x => { x with lame := true }
    let d := d.raiseDev 0x2007 (leBytes 4 u ++ leBytes 4 (x.hist.filter id).length)
    if !d.lawSpare then d.raiseDev 0x2008 [BitVec.ofNat 8 u]
    else match d.firstRunning with
      | some n => d.pendChange n .lawUnit u
      | none => d.replaceLaw u

/-- The same for a balance unit (R127). -/
def Dev.lameBal (u : Nat) (d : Dev) : Dev :=
  let x := d.balUnit u
  if x.lame || !x.serving then d
  else
    let d := d.onBalUnit u fun x => { x with lame := true }
    if !d.balSpare then d.raiseDev 0x2009 [BitVec.ofNat 8 u]
    else match d.firstRunning with
      | some n => d.pendChange n .balUnit u
      | none => d.replaceBal u

/-- A law job is discarded: the running unit is told to drop its result, and a job that was dispatched counts as slow, a ustar
job apart (R163, R177). One that was complete in time keeps the verdict on its time (DESIGN CHOICE: log entry 108). -/
def Dev.dropLawJob (n : Nat) (d : Dev) : Dev :=
  match (d.law n).job with
  | none => d
  | some j =>
    let d := d.onLaw n fun l => { l with job := none }
    match j.phase with
    | .running u =>
      let d := d.onLawUnit u fun x => { x with dropped := x.dropped || x.running.any fun r => r.1 = n }
      if (d.lawUnit u).ustar then d
      else
        let d := d.onLawUnit u (EvalUnit.judge true)
        if d.meetsLame (d.lawUnit u) then d.lameLaw u else d
    | _ => d

/-- The same for a yard's balance job (R127). -/
def Dev.dropBalJob (n : Nat) (d : Dev) : Dev :=
  match d.bals.getD n none with
  | none => d
  | some j =>
    let d := { d with bals := d.bals.set n none }
    match j.phase with
    | .running u =>
      let d := d.onBalUnit u fun x => EvalUnit.judge true { x with dropped := x.dropped || x.running.any fun r => r.1 = n }
      if d.meetsLame (d.balUnit u) then d.lameBal u else d
    | _ => d

end Sys2Proof.Machine
end

