-- ==== Sys2Proof/Machine/RailOps.lean ====
section
/-! DEFINITION. The rails' shared operations: command statuses and alerts (R192, R207), leaving OFF and sequencing (R27,
R54–R57), stopping (R58, R59), turning a rail off (R244–R251) and its last-fault record (R264–R268), and the failure of
a stall with what it may bring (R137, R141). -/

namespace Sys2Proof.Machine

/-! ### Owners, statuses and alerts -/

/-- The owner of rail `n`: port 0–3, or 4 for PMBus; none while YARD_CFGn.EN is 0 (R187). -/
def Dev.owner (d : Dev) (n : Nat) : Option Nat :=
  if d.regs.act.YARD_CFG_EN n = 0 then none else some (min 4 (d.regs.act.LCP_RAILCFG_OWNER n))

/-- Set alert cause `bit` of a port; PMBus has none (R207). -/
def Dev.alertPort (k bit : Nat) (d : Dev) : Dev := if k < 4 then d.stick (aLCP_ALERT k) (2 ^ bit) else d

/-- Set an alert cause at the port that owns rail `n` (R207). -/
def Dev.alertOwner (n bit : Nat) (d : Dev) : Dev :=
  match d.owner n with
  | some k => d.alertPort k bit
  | none => d

/-- Set an alert cause at the port a command came from, while that port owns rail `n` (R207). -/
def Dev.alertSource (n k bit : Nat) (d : Dev) : Dev := d.when (d.owner n = some k) (Dev.alertPort k bit)

def Dev.setStatus (n : Nat) (st : CmdStatus) (d : Dev) : Dev :=
  d.onRail n fun r => { r with cmd := { r.cmd with status := st } }

/-- The command in force becomes REACHED; with NOTIFY its port is alerted (R191, R207). A code-0 command that waited in
HELD is reached when its rail enters OFF (R192). -/
def Dev.reach (n : Nat) (d : Dev) : Dev :=
  let c := (d.rail n).cmd
  if c.status = .ramping || (c.status = .held && (d.rail n).dest = 0) then (d.setStatus n .reached).when c.notify (Dev.alertSource n c.src 0) else d

/-- The command in force becomes ABORTED unless it was reached or replaced (R192, R207). -/
def Dev.abortCmd (n : Nat) (d : Dev) : Dev :=
  let c := (d.rail n).cmd
  if c.status = .held || c.status = .ramping then (d.setStatus n .aborted).alertSource n c.src 3 else d

/-- The command in force waits for the next ramp: HELD (R192). -/
def Dev.holdCmd (n : Nat) (d : Dev) : Dev :=
  let c := (d.rail n).cmd
  if c.status = .ramping || c.status = .reached then d.setStatus n .held else d

/-! ### Last-fault records (R264–R268) -/

/-- The slot a record goes to: the lowest that holds no valid record, else that of the lowest SEQ (R267). -/
def lfChoose (slots : List (Option Nat)) : Nat :=
  match slots.findIdx? (·.isNone) with
  | some i => i
  | none =>
    let low := (minimum? (slots.filterMap id)).getD 0
    slots.findIdx (· = some low)

/-- The highest valid SEQ, 0 with none. -/
def lfHigh (slots : List (Option Nat)) : Nat := (slots.filterMap id).foldl max 0

/-- The slots once every record that awaits writing has been written. -/
def Dev.lfAhead (d : Dev) : List (Option Nat) :=
  d.prot.pending.foldl (fun l r => l.set (lfChoose l) (some r.seq)) d.prot.lfSlots

/-- A stall's 8 bytes of the record (R266). -/
def Stall.lfWord (now : Nat) (x : Stall) : Nat :=
  toBits 12 x.cur + x.temp % 256 * 2 ^ 12 + x.ptag % 256 * 2 ^ 20 + x.lim.toNat * 2 ^ 28 + x.nlim.toNat * 2 ^ 29 +
  x.otw.toNat * 2 ^ 30 + x.flt.toNat * 2 ^ 31 + (x.shown now).code * 2 ^ 32 + x.segok % 16 * 2 ^ 36 + x.cause % 16 * 2 ^ 40 +
  x.roleOf % 512 * 2 ^ 44

/-- The sixteen registers of rail `n` in the record (R266). -/
def lfRailRegs (n : Nat) : List Nat :=
  [aSYS_RAILSTATE n, aENG_FLAGS n, aENG_U n, aENG_VC n, aENG_INT n, aENG_IFILT n, aENG_ERR n, aENG_DROOP n, aLCP_TGT n,
   aLCP_RAMP n, aXNT_STAT n, aXNT_THR n, aXNT_UHOLD n, aYARD_COUNT n, aYARD_EPOCH n, aPROT_STAT n]

/-- The values of a record at tf: header, conditions, rails and stalls (R266). -/
def Dev.lfWords (d : Dev) (rail : Option Nat) (cause entered retries : Nat) (wave : Bool) (waveSeq : Nat) :
    List (Nat × Nat × Nat) :=
  let addr := match rail with
    | some n => d.gaRail n
    | none => d.gaDev
  [(0x04, 2, 1), (0x08, 4, d.loft.pcycle), (0x0C, 6, d.opTime), (0x14, 8, d.now), (0x1C, 4, addr.toNat), (0x20, 1, cause),
   (0x21, 1, entered), (0x22, 1, retries), (0x23, 1, wave.toNat + 2 * rail.isNone.toNat), (0x24, 4, waveSeq),
   (0x28, 4, (d.reg aSYS_STATE).toNat), (0x2C, 4, (d.reg aSYS_STARTLOG).toNat)] ++
  ([aMEAS_VBUS, aMEAS_IBUS, aMEAS_VIB, aMEAS_PIN, aHSW_STATUS, aXNT_RETACC, aTB_STATUS, aPROT_LEVEL].zipIdx.map
    fun a => (0x100 + 4 * a.2, 4, (d.reg a.1).toNat)) ++
  ((List.range 8).flatMap fun n => (lfRailRegs n).zipIdx.map fun a => (0x200 + 128 * n + 4 * a.2, 4, (d.reg a.1).toNat)) ++
  (d.stalls.zipIdx.map fun x => (0x600 + 8 * x.2, 8, x.1.lfWord d.now))

/-- Make a last-fault record, or count it lost when four await writing (R264, R265, R268). Its SEQ is settled when it is written
(R267). Before the timebase runs no conversion follows, and the ring is frozen at once. -/
def Dev.makeRecord (rail : Option Nat) (cause entered retries : Nat) (d : Dev) : Dev :=
  let addr := match rail with
    | some n => d.gaRail n
    | none => d.gaDev
  if 4 ≤ d.prot.pending.length then d.raise 0x100C addr [BitVec.ofNat 8 cause]
  else
    let seq := lfHigh d.lfAhead + 1
    let wave := decide (d.prot.ring = .armed)
    let waveSeq := if wave then seq else d.prot.waveSeq
    let r : LfRec :=
      { words := d.lfWords rail cause entered retries wave waveSeq, wave := wave, seq := seq, tf := d.now,
        rails := d.rails.map fun x => (x.irRing.take 32).reverse, inputs := d.prot.inputs }
    let d := { d with prot.pending := d.prot.pending ++ [r], prot.waveSeq := waveSeq }
    if !wave then d
    else { d with prot.ring := if d.tb.running then .closing (d.now + 32 * usEu) else .frozen }

/-! ### Stop actions (R246) -/

/-- The HARD action: one CUT to every stall of the yard that may be switching, and no further EDGE frame. -/
def Dev.hardStop (n : Nat) (d : Dev) : Dev :=
  let set := d.burstSet n
  let d := d.each (d.bound n) fun s d => (d.dropEdges s).onStall s fun x => { x with edges := [], stopDue := false }
  d.sendCutOn n (lanesOf (d.filled n)) set (d.regs.act.YARD_CFG_PERIOD n) false 0

/-- The `sent`-th frame of a CROWBAR, by the rail state in which its cause was found (R227, R246); ti is the slot it leaves in. -/
def Dev.crowbarFrame (n sent : Nat) (inReg : Bool) (d : Dev) : Dev :=
  let dur := atLeast1 (d.regs.act.XNT_CUT_DUR n)
  let d := d.onRail n fun r => { r with crowbar := some ⟨sent, d.now, dur, inReg⟩ }
  let c := d.cutClass n
  let set := d.burstSet n
  let fs := d.cutFrames (lanesOf (d.filled n)) set dur c.1 c.2
  let d := d.sendCuts n set fs
  let ti := d.frameInstant fs
  d.onRail n fun r => { r with crowbar := some ⟨sent, ti, dur, inReg⟩ }

/-- The CROWBAR action begins; no further EDGE frame of the yard leaves. -/
def Dev.beginCrowbar (n : Nat) (inReg : Bool) (d : Dev) : Dev :=
  let d := d.each (d.bound n) fun s d => (d.dropEdges s).onStall s fun x => { x with edges := [], stopDue := false }
  d.crowbarFrame n 1 inReg

/-- Stalls whose last EDGE frame asked the stage to continue are owed the stop frame of R123. -/
def Dev.oweStops (n : Nat) (d : Dev) : Dev :=
  d.each (d.bound n) fun s d => d.onStall s fun x =>
    { x with stopDue := x.stopDue || (match x.edges.head? with
      | some e => !e.final
      | none => false) }

/-! ### The causes (R245–R247) -/

/-- The rail is in RAMP or REG. -/
def Dev.runs (d : Dev) (n : Nat) : Bool := (d.rail n).state = .ramp || (d.rail n).state = .reg

/-- The persistence time of a general comparator is met (R261). -/
def Dev.gpcMet (d : Dev) (k : Nat) : Bool :=
  let c := d.comp (16 + k)
  let t := d.regs.act.PROT_GPC_TIME k
  c.level && decide (c.since + (if t = 0 then 1024 else t * usEu) ≤ d.now)

/-- The general comparators whose action turns rail `n` off now (R261). -/
def Dev.gpcsFor (d : Dev) (n : Nat) : List Nat :=
  (List.range 8).filter fun k =>
    let a := d.regs.act.PROT_GPC_ACTION k
    (a = 1 || a = 2) && (d.regs.act.PROT_GPC_RAILMASK k).testBit n && d.gpcMet k

/-- Each cause of R245 that a run or a level shows for rail `n` at this instant. -/
def Dev.ocMet (d : Dev) (n : Nat) : Bool := atLeast1 (d.regs.act.PROT_OC_NLIMP n) ≤ (d.rail n).ocRun
def Dev.otMet (d : Dev) (n : Nat) : Bool := atLeast1 (d.regs.act.PROT_OT_OTN n) ≤ (d.rail n).otRun
def Dev.ovMet (d : Dev) (n : Nat) : Bool := atLeast1 (d.regs.act.PROT_OV_OVN n) ≤ (d.rail n).ovRun
def Dev.uvMet (d : Dev) (n : Nat) : Bool :=
  (d.rail n).state = .reg && d.regs.act.PROT_UV_UV_EN n = 1 && decide (atLeast1 (d.regs.act.PROT_UV_UVN n) ≤ (d.rail n).uvRun)
def Dev.missMet (d : Dev) (n : Nat) : Bool := (d.law n).missDue

/-- The roles that will be filled after the fills the next boundary will make (R141). -/
def Dev.filledAfter (d : Dev) (n : Nat) : Nat :=
  let incoming := (d.bound n).filter fun s => (d.stall s).state = .incoming
  (d.filled n).length + min (d.vacant n).length ((d.spares n).length + incoming.length)

/-- Fewer filled roles than YARD_CAPn.MINACT (R141). -/
def Dev.tooFew (d : Dev) (n : Nat) : Bool :=
  !d.isStandby && d.regs.act.YARD_CFG_EN n = 1 && decide (d.filledAfter n < d.regs.act.YARD_CAP_MINACT n)

/-- The holdover has passed HOLDOVER_MAX and rails are to stop for it (R75). -/
def Dev.holdoverMet (d : Dev) : Bool :=
  d.tb.holdover && !d.tb.lossFault && d.regs.act.TB_CFG_LOSS_ACTION = 1 &&
    decide (d.tb.holdAt + atLeast1 d.regs.act.TB_CFG_HOLDOVER_MAX * msEu < d.now)

/-- The causes found at this instant (R247). -/
def Dev.causesNow (d : Dev) (n : Nat) : List Nat :=
  let add (c : Bool) (k : Nat) : List Nat := if c then [k] else []
  let run := d.runs n
  add (run && d.tooFew n) 7 ++ add (run && d.holdoverMet) 9 ++ add (run && d.ocMet n) 3 ++ add (d.ovMet n) 4 ++ add (d.uvMet n) 5 ++ add (run && d.otMet n) 6 ++
  add (run && d.missMet n) 8 ++ add (run && !d.inputGood) 10 ++ add (run && !(d.gpcsFor n).isEmpty) 11

/-! ### Turning a rail off (R244–R251) -/

/-- What every way out of RAMP and REG does: the episode and the warning end without a count, jobs are discarded
without DMISS, accepted groups are applied, and PG falls (R174, R179, R244, R263). -/
def Dev.quitRun (n : Nat) (d : Dev) : Dev :=
  let d := d.catchOutput.onRail n fun r =>
    { r with episode := none, mode := .linear, epSample := false, warn := none, off := 0, offt := 0, tight := false, pg := false, pgRun := 0,
             inside := 0, inRamp := 0, following := false }
  let d := (d.dropLawJob n).onLaw n fun l => { l with rebasePend := false, voided := false, handPend := false, swapped := false }
  (d.dropBalJob n).applyGroups n

/-- The order in which R247 names the cause. -/
def causeOrder : List Nat := [7, 9, 4, 6, 3, 5, 8, 11, 10]

/-- The cause that CAUSE records (R247). -/
def firstCause (cs : List Nat) : Nat := (causeOrder.find? cs.contains).getD (cs.headD 0)

/-- Whether a cause latches at once on rail `n`: YARD_SHORT, TIMEBASE, OV under LATCH; EXT under ACTION 0b10 is told by
`ext` (R245). -/
def Dev.latchesAtOnce (d : Dev) (n : Nat) (ext : Bool) (c : Nat) : Bool :=
  c = 7 || c = 9 || (c = 4 && d.regs.act.PROT_OV_LATCH n = 1) || (c = 11 && ext)

/-- The hiccup time in eu: 0 acts as 1 ms, above 1,024 as 1,024 ms (R252, R270). -/
def Dev.hicTime (d : Dev) (n : Nat) : Nat := min 1024 (atLeast1 (d.regs.act.PROT_HIC_TIME n)) * msEu

/-- Whether a turn-off makes a last-fault record (R264). -/
def Dev.recordsFault (d : Dev) (n : Nat) (cs : List Nat) (latched : Bool) : Bool :=
  (cs.any (fun c => 3 ≤ c && c ≤ 11) && !(d.rail n).lfMade) || latched || d.regs.act.PROT_GCFG_LF_EVERY = 1

/-- Causes in the order of R247, and any that it does not rank. -/
def inOrder (cs : List Nat) : List Nat := causeOrder.filter cs.contains ++ cs.filter fun c => !causeOrder.contains c

/-- RAIL_OFF for each cause in R247's order, and the record of the turn-off (R244 item 6). -/
def Dev.logOff (n : Nat) (cs : List Nat) (d : Dev) : Dev :=
  let r := d.rail n
  let makes := d.recordsFault n cs (r.state = .latched)
  let slot := if makes && d.prot.pending.length < 4 then lfChoose d.lfAhead else 0xFF
  let d := d.each (inOrder cs) fun c d => (d.statusOff n c).raise 0x1001 (d.gaRail n)
    [BitVec.ofNat 8 c, BitVec.ofNat 8 r.state.code, BitVec.ofNat 8 r.retries, BitVec.ofNat 8 slot]
  let d := d.count (aPROT_TOFF n)
  if makes then (d.makeRecord (some n) r.cause r.state.code r.retries).onRail n fun r => { r with lfMade := true } else d

/-- A rail enters LATCHED (R251, R271, R207). -/
def Dev.enterLatched (n cause : Nat) (d : Dev) : Dev :=
  let d := d.onRail n fun r => { r with state := .latched, cause := cause, hicOver := false, seqMask := 0, seqDue := none }
  ((d.count (aPROT_LATCHCNT n)).abortCmd n).alertOwner n 1

/-- A rail enters HICCUP (R251, R252, R192, R207). -/
def Dev.enterHiccup (n cause retries : Nat) (d : Dev) : Dev :=
  let d := d.onRail n fun r =>
    { r with state := .hiccup, cause := cause, retries := retries, hicEnd := d.now + d.hicTime n, hicOver := false }
  (d.holdCmd n).alertOwner n 1

/-- A rail enters OFF: RETRIES returns to 0, an episode ends, since none is acted on in OFF, a code-0 command is reached, and the yard
takes what is pending (R145, R192, R216, R251). -/
def Dev.enterOff (n : Nat) (d : Dev) : Dev :=
  let d := d.onRail n fun r =>
    { r with state := .off, retries := 0, coast := false, following := false, untracked := false, hicOver := false,
             stopMask := 0, stopDue := none, fired := false, searched := false, episode := none }
  let d := if (d.rail n).dest = 0 then d.reach n else d
  d.takeNow n

/-- The rail that rail `n` is set to follow (R71). -/
def Dev.leaderOf (d : Dev) (n : Nat) : Option Nat :=
  let m := d.regs.act.SYS_RAILTRACK_MODE n
  if (m = 1 || m = 2) && d.regs.act.SYS_RAILTRACK_SRC n = 0 then some (d.regs.act.SYS_RAILTRACK_LEADER n) else none

/-- The rails that track rail `n` as their leader in this start (R55, R57). -/
def Dev.followersOf (d : Dev) (n : Nat) : List Nat :=
  (List.range 8).filter fun f =>
    let m := d.regs.act.SYS_RAILTRACK_MODE f
    f ≠ n && (m = 1 || m = 2) && d.regs.act.SYS_RAILTRACK_SRC f = 0 && d.regs.act.SYS_RAILTRACK_LEADER f = n &&
      !(d.rail f).untracked

/-- A rail in RAMP or REG enters STOP with a cause of codes 1 or 2, by ramp or by coasting; one that has not switched
enters OFF at once (R58). -/
def Dev.beginStop (n cause : Nat) (coast : Bool) (d : Dev) : Dev :=
  let r := d.rail n
  if r.state ≠ .ramp && r.state ≠ .reg then d
  else
    let d := d.quitRun n
    let coast := coast || d.regs.act.SYS_RAILSTART_STOP_COAST n = 1
    let d := d.onRail n fun r => { r with state := .stop, cause := cause, coast := coast }
    let d := if (d.rail n).dest = 0 then d.setStatus n .ramping else d.abortCmd n
    let d := d.logOff n [cause]
    if !r.fired then d.enterOff n else if coast then d.oweStops n else d

/-- A rail in RAMP or REG is turned off with the causes found at one instant (R244, R246, R247, R251); its followers
enter STOP with cause LEADER (R60). -/
def Dev.turnOff (n : Nat) (cs : List Nat) (ext : Bool) (d : Dev) : Dev :=
  let r := d.rail n
  let inReg := decide (r.state = .reg)
  let d := d.quitRun n
  let d := if cs.contains 4 then d.beginCrowbar n inReg else d.hardStop n
  let cause := firstCause cs
  let retry := r.retries < d.regs.act.PROT_HIC_RETRY_MAX n
  let d :=
    if cs.any (d.latchesAtOnce n ext) then d.enterLatched n cause
    else if cs.contains 10 then d.enterHiccup n cause r.retries
    else if retry then d.enterHiccup n cause (r.retries + 1)
    else d.enterLatched n cause
  let d := d.logOff n cs
  let d := d.takeNow n
  d.each (d.followersOf n) fun f d => d.beginStop f 2 false

/-- Causes of codes 3 to 11 found for rail `n` at one instant, whatever its state: a turn-off in RAMP or REG, R248 in
STOP and HICCUP, R27 in PROBE. -/
def Dev.findCauses (n : Nat) (cs : List Nat) (ext : Bool) (d : Dev) : Dev :=
  match (d.rail n).state with
  | .ramp => d.turnOff n cs ext
  | .reg => d.turnOff n cs ext
  | .stop =>
    let d := if cs.contains 4 then d.beginCrowbar n false else d.hardStop n
    (d.onRail n fun r => { r with cause := firstCause cs, episode := none }).enterOff n
  | .hiccup => if cs.any (d.latchesAtOnce n ext) then d.enterLatched n (firstCause cs) else d
  | .probe =>
    if !cs.contains 7 then d
    else
      let d := match d.leaderOf n with
        | some l => if (d.rail n).untracked then d else d.raise 0x2012 (d.gaRail l) [BitVec.ofNat 8 n]
        | none => d
      let fs := d.followersOf n
      (d.enterLatched n 7).each fs fun f d => d.beginStop f 2 false
  | _ => d

/-- Rail `n` meets the given causes and every other one found at this instant (R244, R247): a rail in RAMP or REG is turned off,
one in STOP acts by R248 on the given ones and on an overvoltage. -/
def Dev.turnOffFor (n : Nat) (cs : List Nat) (d : Dev) : Dev :=
  let all := cs ++ ((d.causesNow n).filter fun c => !cs.contains c && (d.runs n || (d.rail n).state = .stop))
  let gs := d.gpcsFor n
  let hard := gs.any fun k => d.regs.act.PROT_GPC_ACTION k = 2
  let d := match gs with
    | k :: _ => d.onRail n fun r => { r with extGpc := k }
    | [] => d
  d.findCauses n all hard

/-- Turn rail `n` off for every cause found now (R244, R247). -/
def Dev.turnOffNow (n : Nat) (d : Dev) : Dev := d.turnOffFor n []

/-- A protection turn-off of this instant acts before a disable (R23). -/
def Dev.protectFirst (n : Nat) (d : Dev) : Dev := d.when (d.runs n && !(d.causesNow n).isEmpty) (Dev.turnOffNow n)

/-- The ORDER slot of rail `n`. -/
def Dev.slot (d : Dev) (n : Nat) : Nat := d.regs.act.SYS_RAILSTART_ORDER n

/-- The rails by their ORDER slots, the highest first (R59). -/
def Dev.stopOrder (d : Dev) : List Nat := (List.range 8).reverse.flatMap fun k => (List.range 8).filter fun n => d.slot n = k

/-- The device leaves RUN: every rail that is not OFF enters OFF by the HARD action, the rails of the highest slot first (R59);
a hiccup time still running is owed, and RETRIES is kept but by a rail that was LATCHED (R25, R27, R53, R245, R251, R254).
Every non-zero destination waits for the next ramp (R208). A CROWBAR still running ends with its HARD frame (R246). CAUSE becomes 0xC
also for a rail in PROBE, STOP, HICCUP or LATCHED (DESIGN CHOICE: log entry 112). -/
def Dev.stopAll (d : Dev) : Dev :=
  d.each d.stopOrder fun n d =>
    let r := d.rail n
    let run := r.state = .ramp || r.state = .reg
    let d := d.when run (Dev.quitRun n)
    let d := d.when (run || r.state = .stop || r.crowbar.isSome) (Dev.hardStop n)
    let d := d.onRail n fun x => { x with crowbar := none }
    if r.state = .off then (if r.dest = 0 then d else d.holdCmd n)
    else
      let d := d.onRail n fun x => { x with cause := 0xC, owed := if r.state = .hiccup then some r.hicEnd else none }
      let d := d.enterOff n
      let d := d.onRail n fun x => { x with retries := if r.state = .latched then 0 else r.retries }
      let d := d.when run (Dev.logOff n [0xC])
      if (d.rail n).dest = 0 then d else d.holdCmd n

/-- A rail stops, and with a leader its followers, which track it down (R59). A protection turn-off of this instant comes first, of
each of them (R23). -/
def Dev.stopRail (n cause : Nat) (coast : Bool) (d : Dev) : Dev :=
  let d := d.protectFirst n
  let fs := (d.followersOf n).filter fun f => (d.rail f).state = .ramp || (d.rail f).state = .reg
  let d := d.beginStop n cause coast
  d.each fs fun f d => ((d.protectFirst f).beginStop f 1 false).onRail f fun r => { r with following := decide (r.state = .stop) }

/-! ### Failing a stall (R137, R141) -/

/-- Too few roles filled: YARD_SHORT (R141, R248, R269). -/
def Dev.checkShort (n : Nat) (d : Dev) : Dev :=
  if d.tooFew n then
    let st := (d.rail n).state
    let d := if st = .ramp || st = .reg then d.stick (aYARD_COUNT n) 0x20000000 else d
    d.turnOffFor n [7]
  else d

/-- A stall is failed (R137): it is FAILED with its cause and its role is vacant at once; unless its lane is down, no
EDGE frame leaves for it and the stop frame does. A stall already FAILED or RETIRED stays so (R146, R260). -/
def Dev.failStall (s cause : Nat) (d : Dev) : Dev :=
  let x := d.stall s
  match d.railOf s with
  | none => d
  | some n =>
    if x.state = .failed || x.state = .retired || x.state = .unused then d
    else
      let d := (d.markFailed s cause).count (aYARD_FAILCNT n)
      let d := d.dropEdges s
      let d := if x.edges.isEmpty || cause = 5 then d else d.stopFrame s d.now
      let d := d.onStall s fun x => { x with edges := [], stopDue := false }
      (d.checkShort n).afterChange n

/-! ### Leaving OFF, tracking and sequencing (R27, R54, R56, R57) -/

/-- Rail `n` is set to follow the TRACK pin. -/
def Dev.tracksPin (d : Dev) (n : Nat) : Bool :=
  let m := d.regs.act.SYS_RAILTRACK_MODE n
  (m = 1 || m = 2) && d.regs.act.SYS_RAILTRACK_SRC n = 1

/-- The conditions of R57 under which a follower runs untracked for one start. -/
def Dev.cannotTrack (d : Dev) (n : Nat) : Bool :=
  match d.leaderOf n with
  | none => false
  | some l => l = n || (d.leaderOf l).isSome || d.tracksPin l || (d.rail l).dest = 0

/-- The rail is meant to run: its yard is enabled, it is enabled under R427 and its destination is not 0. -/
def Dev.wantsOn (d : Dev) (n : Nat) : Bool :=
  d.regs.act.YARD_CFG_EN n = 1 && d.enabled n && (d.rail n).dest ≠ 0

/-- A follower's leader has left OFF, or the start is untracked (R56, R57). -/
def Dev.trackOk (d : Dev) (n : Nat) : Bool :=
  match d.leaderOf n with
  | none => true
  | some l => d.cannotTrack n || (d.rail l).state = .probe || (d.rail l).state = .ramp || (d.rail l).state = .reg

/-- Every condition for leaving OFF (R27, R46, R53, R54, R245). -/
def Dev.mayLeave (d : Dev) (n : Nat) : Bool :=
  let r := d.rail n
  r.state = .off && d.wantsOn n && d.sys.state = .run && d.inputGood && !d.tb.lossFault &&
  (match r.owed with
    | some e => decide (e ≤ d.now)
    | none => true) &&
  r.seqMask = 0 && r.seqDue.isNone && d.trackOk n

/-- Whether this start of rail `n` is untracked is judged now, and one that is is logged (R57). -/
def Dev.judgeTrack (n : Nat) (d : Dev) : Dev :=
  let no := d.cannotTrack n
  let d := if no then d.raise 0x4007 (d.gaRail n) (leBytes 4 (d.reg (aSYS_RAILTRACK n)).toNat) else d
  d.onRail n fun r => { r with untracked := no }

/-- Enter PROBE: the rail part of step 7 sends every stall of the yard a switch-node PROBE (R44). -/
def Dev.enterProbe (n : Nat) (d : Dev) : Dev :=
  let d := d.onRail n fun r =>
    { r with state := .probe, searched := false, hicOver := false, seqMask := 0,
             seqDue := none, owed := none, stopMask := 0, stopDue := none }
  d.each (d.bound n) fun s d =>
    let x := d.stall s
    if x.state = .failed || x.state = .retired || !d.laneUp (s / 16) then d else d.askStall s (.probe 1)

/-- A rail leaves OFF: the first turn-off of this start is still to come (R264). -/
def Dev.leaveOff (n : Nat) (d : Dev) : Dev := ((d.judgeTrack n).enterProbe n).onRail n fun r => { r with lfMade := false }

/-- The rails of a mask have all reached REG or LATCHED (R54). -/
def Dev.allUp (d : Dev) (mask : Nat) : Bool :=
  (maskList 8 mask).all fun k => (d.rail k).state = .reg || (d.rail k).state = .latched

/-- The rails of a mask are all OFF (R59). -/
def Dev.allOff (d : Dev) (mask : Nat) : Bool := (maskList 8 mask).all fun k => (d.rail k).state = .off

/-- DELAY of rail `n` in eu (R70). -/
def Dev.slotDelay (d : Dev) (n : Nat) : Nat := d.regs.act.SYS_RAILSTART_DELAY n * 10 * usEu

/-- What follows of itself when a rail or an enable has changed: slot delays begin, and a rail whose conditions all hold
leaves OFF (R27, R54, R56, R59). -/
def Dev.pumpRail (n : Nat) (d : Dev) : Dev :=
  let r := d.rail n
  let d := if r.seqMask ≠ 0 && r.seqDue.isNone && d.allUp r.seqMask then
      d.onRail n fun r => { r with seqMask := 0, seqDue := if d.slotDelay n = 0 then none else some (d.now + d.slotDelay n) }
    else d
  let d := if r.stopMask ≠ 0 && r.stopDue.isNone && d.allOff r.stopMask then
      d.onRail n fun r => { r with stopMask := 0, stopDue := some (d.now + d.slotDelay n) }
    else d
  if d.mayLeave n then d.leaveOff n else d

/-- All rails, leaders before their followers. -/
def Dev.pump (d : Dev) : Dev :=
  let rails := (List.range 8).filter (fun n => (d.leaderOf n).isNone) ++ (List.range 8).filter (fun n => (d.leaderOf n).isSome)
  d.each rails Dev.pumpRail

/-- Rails enabled together start by their slots: each waits for the nearest lower slot that any of them occupies; the slot
of a follower, of a rail or of the TRACK pin, is ignored (R54, R56). -/
def Dev.startMany (ns : List Nat) (d : Dev) : Dev :=
  let lead := ns.filter fun n => ((d.leaderOf n).isNone && !d.tracksPin n) || d.cannotTrack n
  let d := d.each (ns.filter fun n => !lead.contains n) fun n d => d.onRail n fun r => { r with seqMask := 0, seqDue := none }
  let d := d.each lead fun n d =>
    let lower := lead.filter fun k => d.slot k < d.slot n
    let top := (lower.map d.slot).foldl max 0
    let mask := (lower.filter fun k => d.slot k = top).foldl (fun a k => a + 2 ^ k) 0
    d.onRail n fun r => { r with seqMask := mask, seqDue := none }
  d.pump

/-- Rails disabled together stop from the highest occupied slot down: each waits for those of the nearest higher slot that are not
OFF, in whatever state they stand; a follower moves with its leader, and one of the TRACK pin at once (R59). A LATCHED one is OFF
at once (R27). `coast` tells which of them coast. -/
def Dev.stopMany (ns : List Nat) (cause : Nat) (coast : Nat → Bool) (d : Dev) : Dev :=
  let d := d.each ns Dev.protectFirst
  let run := ns.filter d.runs
  let d := d.each (run.filter d.tracksPin) fun n d => d.stopRail n cause (coast n)
  let hold := ns.filter fun n => (d.rail n).state ≠ .off && (d.rail n).state ≠ .latched && !d.tracksPin n &&
    match d.leaderOf n with
    | some l => !run.contains l || (d.rail n).untracked
    | none => true
  let lead := hold.filter run.contains
  let now := lead.filter fun n => !hold.any fun k => d.slot n < d.slot k
  let d := d.each (lead.filter fun n => !now.contains n) fun n d =>
    let higher := hold.filter fun k => d.slot n < d.slot k
    let low := (higher.map d.slot).foldl min 8
    d.onRail n fun r =>
      { r with stopMask := (higher.filter fun k => d.slot k = low).foldl (fun a k => a + 2 ^ k) 0, coast := coast n }
  d.each now fun n d => d.stopRail n cause (coast n)

/-- A disable of rail `n` on its own, by its state: STOP from RAMP and REG, OFF at once from LATCHED; elsewhere it takes
effect when the state ends (R27, R58, R193). A protection turn-off of this instant comes first (R23). -/
def Dev.disableRail (n : Nat) (coast : Bool) (d : Dev) : Dev :=
  let d := d.protectFirst n
  match (d.rail n).state with
  | .ramp => d.stopRail n 1 coast
  | .reg => d.stopRail n 1 coast
  | .latched => d.enterOff n
  | .hiccup => if (d.rail n).hicOver then d.enterOff n else d
  | _ => d.onRail n fun r => { r with seqMask := 0, seqDue := none }

/-! ### Destinations (R185–R193) -/

/-- SLEWQ of a class, in 0.25 mV/µs (R188). -/
def slewq (c : Nat) : Nat := [2, 3, 4, 5, 6, 8, 12, 16, 24, 32, 48, 64, 96, 128, 192, 256].getD c 0

/-- The limits in force: below 600 acts as 600, above 3,000 as 3,000 (R185). -/
def Dev.vmin (d : Dev) (n : Nat) : Nat := min 3000 (max 600 (d.regs.act.LCP_LIM_VMIN n))
def Dev.vmax (d : Dev) (n : Nat) : Nat := min 3000 (max 600 (d.regs.act.LCP_LIM_VMAX n))

/-- A destination is in range: 0, or inside VMIN–VMAX (R185). -/
def Dev.inRange (d : Dev) (n code : Nat) : Bool := code = 0 || (d.vmin n ≤ code && code ≤ d.vmax n)

/-- A warning in force ends without a miss, and off is 0 from the next boundary (R193, R208). -/
def Dev.clearWarn (n : Nat) (d : Dev) : Dev := d.onRail n fun r => { r with warn := none, offt := 0, off := 0 }

/-- A warning in force ends as a hit or as a miss: offt becomes 0, and off returns under R203 (R204). -/
def Dev.endWarn (n : Nat) (hit : Bool) (d : Dev) : Dev :=
  if (d.rail n).warn.isNone then d
  else (d.onRail n fun r => { r with warn := none, offt := 0 }).count (if hit then aLCP_STEPHIT n else aLCP_STEPMISS n)

/-- An accepted destination command of a source (R190, R192, R193). The ramp generator takes it at the first boundary
that lies at least 20 ns after its acceptance (R189). -/
def Dev.setDest (n code cls : Nat) (seq src : Nat) (notify : Bool) (d : Dev) : Dev :=
  let r := d.rail n
  let live := r.cmd.status = .held || r.cmd.status = .ramping
  let old := if live then { r.cmd with status := .superseded } else r.cmd
  let run := r.state = .ramp || r.state = .reg
  let st : CmdStatus :=
    if run || (code = 0 && r.state = .stop) then .ramping
    else if code = 0 && r.state = .off then .reached
    else .held
  let d := d.onRail n fun r => { r with
    prev := old, cmd := ⟨seq, st, src, notify⟩, dest := code, cls := cls, cmdAt := if r.state = .reg || r.state = .ramp then some d.now else none }
  let d := (d.count (aLCP_SETVCNT n)).when live (Dev.count (aLCP_SUPERCNT n))
  let d := if st = .reached && notify then d.alertPort src 0 else d
  if code = 0 then (d.clearWarn n).disableRail n false else d

end Sys2Proof.Machine
end

