-- ==== Sys2Proof/Machine/YardRows.lean ====
section
/-! DEFINITION. The yard's commands (04_the_yard.md): frames, epoch boundaries, sheds, balance jobs, wear and spares. -/

namespace Sys2Proof.Machine

/-! ### EDGE frames (R21, R97, R123, R143, R144) -/

/-- The instant by which an EDGE for a start at position `p` must have left: s − (25 + 12 × (p + 1)) ns (R97). -/
def edgeBound (start p : Nat) : Nat := start - ((25 + 12 * (p + 1)) * 512 + 9) / 10

/-- The candidate boundary of yard `n`: the first window that begins P + L after the first pending change, at or after
the end of the drain, and is not yet past its decision (R143). -/
def Dev.candidate (d : Dev) (n : Nat) : Option Nat :=
  let y := d.yard n
  match minimum? (y.pend.map (·.since)) with
  | none => none
  | some t => some (d.windowFrom n (max (max (t + d.p n + d.lead) (y.drainEnd.getD 0)) (d.now + d.lead)))

/-- The layout that governs periods at or after a boundary not yet reached, as the device would be after it (R144). -/
def Dev.afterBoundary (d : Dev) (n : Nat) (cs : List Change) : Dev := d.takeLayout n cs

/-- The device as the layout of a period that starts at `start` has it. -/
def Dev.viewAt (d : Dev) (n start : Nat) : Dev :=
  match (d.yard n).boundary with
  | some b => if b ≤ start then d.afterBoundary n (d.yard n).taking else d
  | none => d

/-- Whether a stall leaves, or moves its phase, at a boundary that takes `cs`. -/
def Dev.leaves (d : Dev) (n s : Nat) (cs : List Change) : Bool :=
  let e := d.afterBoundary n cs
  !((e.stall s).state.fills && e.railOf s = some n) || e.tp n ≠ d.tp n || e.phaseOf s ≠ d.phaseOf s

/-- Whether a frame for the period at `start` is the stall's last under the layout before a boundary decided, or before
the candidate from B − P − L on (R123, R143). -/
def Dev.lastOfLayout (d : Dev) (n s start : Nat) : Bool :=
  let y := d.yard n
  let cut (b : Nat) (cs : List Change) : Bool := start < b && b ≤ start + d.tp n && d.leaves n s cs
  match y.boundary with
  | some b => cut b y.taking
  | none =>
    match d.candidate n with
    | some b => b ≤ d.now + d.p n + d.lead && cut b (y.pend.filter fun c => c.since + d.p n + d.lead ≤ b)
    | none => false

/-- The rail sends EDGE frames: RAMP once its first job has committed, REG, and STOP while it ramps down; one that entered STOP before
that job has no on-time to send (R26, R58; DEDUCED: log entry 113). -/
def Dev.sendsEdges (d : Dev) (n : Nat) : Bool :=
  let r := d.rail n
  (d.sys.state = .run) && r.crowbar.isNone &&
  ((r.state = .ramp && r.searched && !(d.law n).first) || r.state = .reg ||
    (r.state = .stop && !r.coast && r.searched && !(d.law n).first))

/-- How long an EDGE frame is remembered: two of the longest periods. -/
def edgesKept : Nat := 409600

/-- Build the EDGE frame of stall `s` for the period at `start`, with the layout of its period, and send it unless no slot is
left by its bound, where it is discarded (R97, R123). A frame built ahead of a boundary takes its segments by the epoch count
before it advances (R124, DESIGN CHOICE: log entry 81). -/
def Dev.buildEdge (n s start : Nat) (d : Dev) : Dev :=
  let v := d.viewAt n start
  let x := v.stall s
  let taper := d.regs.act.YARD_SHEDTIME_TAPER n
  let u : Int := d.uNow n + (if d.regs.act.YARD_BALCFG_BAL_EN n = 1 then x.trim else 0)
  let j := (start - x.taperFrom) / v.tp n + 1
  let tapered : Int := if x.state = .tapering then u * ((taper : Int) - j + 1) / ((taper : Int) + 1) else u
  let (on, res) := v.onOf n s (tapered + x.res)
  let final := (x.state = .tapering && taper ≤ j) || d.lastOfLayout n s start
  let b := edgeBody (s % 16) (d.wireStart s start) on (v.segMask n s (v.yard n).epoch) (d.edgeClass n) final
  let l := s / 16
  let d := d.onStall s fun y => { y with res := res, nextFrom := start + v.tp n }
  let e := d.sendFor n (max 1 (edgeBound start (s % 16))) l (start - d.lead) b
  match (e.lane l).tx.find? (fun g => g.body = b) with
  | none => d.count (aLANE_EDGEDROP l)
  | some g =>
    let e := e.onStall s fun y => { y with
      started := true, edges := ⟨start, on, final, u, x.res, g.slot⟩ :: y.edges.filter fun f => d.now ≤ f.start + edgesKept }
    e.onRail n fun r => { r with fired := true }

/-- Whether an EDGE frame for stall `s` and a period at `start` is due: the stall is in the active set of that period's layout
and conducts from there on, the period starts there, its frame's instant has come, it has not been built, and a taper has
periods left (R121, R123, R129, R130, R144). -/
def Dev.edgeDue (d : Dev) (n s start : Nat) : Bool :=
  let v := d.viewAt n start
  let x := v.stall s
  let tp := v.tp n
  d.sendsEdges n && d.laneUp (s / 16) && v.railOf s = some n && x.state.active &&
  !(x.state = .tapering && decide (x.taperFrom + d.regs.act.YARD_SHEDTIME_TAPER n * tp ≤ start)) &&
  start % tp = v.phaseOf s * tp / 4096 && start ≤ d.now + d.lead && x.fromW ≤ start && (d.stall s).nextFrom ≤ start

/-- EDGE_FRAME_SEND (R97, R123). -/
def fEdgeFrameSend (s start : Nat) (d : Dev) : Dev :=
  match (List.range 8).find? (fun n => d.edgeDue n s start) with
  | some n => d.buildEdge n s start
  | none => d
def execEdgeFrameSend (t stall start : Nat) (s : State) := run t (active (fEdgeFrameSend stall start)) s

/-- EDGE_FRAME_DISCARD (R97): the bound has passed and the frame has not left, so that it is built and discarded. -/
def fEdgeFrameDiscard (s start : Nat) (d : Dev) : Dev := if edgeBound start (s % 16) < d.now then fEdgeFrameSend s start d else d
def execEdgeFrameDiscard (t stall start : Nat) (s : State) := run t (active (fEdgeFrameDiscard stall start)) s

/-- Tapered frames of a stall that have not yet left are rebuilt without the taper, each from its own u, trim and residue, and
keep their slots (R131). -/
def Dev.untaper (n s : Nat) (d : Dev) : Dev :=
  let wait := (d.stall s).edges.filter fun e => d.now ≤ 512 * e.slot
  let new (e : EdgeSent) : Nat × Int × Bool := ((d.onOf n s (e.u + e.res)).1, (d.onOf n s (e.u + e.res)).2, d.lastOfLayout n s e.start)
  let fix (g : Tx) : Tx := match wait.find? (fun e => g.isEdge && decide (bfld g.body 59 55 = s % 16) && e.slot = g.slot) with
    | some e => { g with body := edgeBody (s % 16) (d.wireStart s e.start) (new e).1 (bfld g.body 18 15) (bfld g.body 14 12) (new e).2.2 }
    | none => g
  let mend (e : EdgeSent) : EdgeSent := if wait.contains e then { e with on := (new e).1, final := (new e).2.2 } else e
  let d := d.onLane (s / 16) fun l => { l with tx := l.tx.map fix }
  d.onStall s fun x => { x with res := wait.head?.elim x.res fun e => (new e).2.1, edges := x.edges.map mend }

/-- A recall of yard `n` (R131): the tapered frames that wait are rebuilt, and every filled role conducts. INTERVAL starts anew, the
count of DWELL does not (R128). -/
def Dev.recall (n : Nat) (d : Dev) : Dev :=
  let f := d.filled n
  let d := d.each (f.filter fun s => (d.stall s).state = .tapering) (Dev.untaper n)
  let d := (d.each f (Dev.conduct (d.freshWindow n))).count (aYARD_ABANDON n)
  d.onYard n fun y => { y with m := f.length, lastShed := d.now }

/-- STOP_FRAME_SEND (R123): the first slot at or after the last commanded start plus its ON. -/
def fStopFrameSend (s : Nat) (d : Dev) : Dev :=
  let x := d.stall s
  if !x.stopDue then d
  else match x.edges.head? with
    | none => d.onStall s fun x => { x with stopDue := false }
    | some e =>
      if e.start + e.on ≤ d.now then (d.stopFrame s d.now).onStall s fun x => { x with stopDue := false } else d
def execStopFrameSend (t stall : Nat) (s : State) := run t (active (fStopFrameSend stall)) s

/-! ### Epoch boundaries (R142–R146) -/

/-- EPOCH_BOUNDARY_DECISION (R143): at B − L the boundary is taken or deferred; the spares it needs are chosen and the
drain begins (R144, R150). -/
def fEpochBoundaryDecision (n : Nat) (d : Dev) : Dev :=
  let y := d.yard n
  let r := d.rail n
  let b := d.now + d.lead
  let cs := y.pend.filter fun c => c.since + d.p n ≤ d.now
  if (r.state ≠ .ramp && r.state ≠ .reg) || y.boundary.isSome || cs.isEmpty || d.now % d.p n ≠ 0 ||
      b < y.drainEnd.getD 0 then d
  else if r.state = .reg && (r.mode = .burst || r.mode = .cut || d.now < y.linearSince + d.p n) then
    d.onYard n fun y => { y with deferred := true }
  else
    let v := d.afterBoundary n cs
    let d := d.onYard n fun y =>
      { y with boundary := some b, taking := cs, drainEnd := some (b + d.tp n), deferred := false }
    d.each (List.range 512) fun s d =>
      if (v.stall s).state.fills && v.railOf s = some n && !(d.stall s).state.fills &&
          ((d.stall s).state = .spare || (d.stall s).state = .failed) then
        d.onStall s fun x => { x with state := .incoming, chosenFor := (v.stall s).roleOf, trim := 0, res := 0, edges := [] }
      else d
def execEpochBoundaryDecision (t n : Nat) (s : State) := run t (active (fEpochBoundaryDecision n)) s

/-- EPOCH_BOUNDARY (R144): the layout changes decided take effect and the epoch advances. -/
def fEpochBoundary (n : Nat) (d : Dev) : Dev :=
  let y := d.yard n
  match y.boundary with
  | none => d
  | some b =>
    if d.now < b then d
    else
      let d := d.takeLayout n y.taking
      let d := d.onYard n fun y => { y with epoch := y.epoch + 1, boundary := none, taking := [] }
      ((d.refreshFills n).each (List.range 8) Dev.checkShort).pump
def execEpochBoundary (t n : Nat) (s : State) := run t (active (fEpochBoundary n)) s

/-- DRAIN_END (R144). -/
def fDrainEnd (n : Nat) (d : Dev) : Dev :=
  let y := d.yard n
  match y.drainEnd with
  | some e => if y.boundary.isNone && e ≤ d.now then d.onYard n fun y => { y with drainEnd := none } else d
  | none => d
def execDrainEnd (t n : Nat) (s : State) := run t (active (fDrainEnd n)) s

/-- SHED_PROGRESS (R130): TAPER periods from the first tapered one, whether or not their frames left, then 8 periods HELD,
then SHED. -/
def fShedProgress (s : Nat) (d : Dev) : Dev :=
  match d.railOf s with
  | none => d
  | some n =>
    let x := d.stall s
    if x.state = .tapering && decide (x.taperFrom + d.regs.act.YARD_SHEDTIME_TAPER n * d.tp n ≤ d.now) then
      d.onStall s (Stall.toHeld (d.now + 8 * d.tp n))
    else if x.state = .held && x.heldEnd ≤ d.now then d.onStall s fun x => { x with state := .shed }
    else d
def execShedProgress (t stall : Nat) (s : State) := run t (active (fShedProgress stall)) s

/-! ### TELEM that does not come (R22) -/

/-- TELEM_TIMEOUT: 8 periods in the active set of a rail in RAMP, REG or STOP, counted from the later of the last valid TELEM and
the entry; 48 in HELD or SHED, whatever the rail's state, while the lane is UP (log entry 89). -/
def fTelemTimeout (s : Nat) (d : Dev) : Dev :=
  match d.railOf s with
  | none => d
  | some n =>
    let x := d.stall s
    let st := (d.rail n).state
    let from_ := max (x.telemAt.getD 0) x.entered
    let late : Bool :=
      if (x.shown d.now).active then (st = .ramp || st = .reg || st = .stop) && decide (from_ + 8 * d.tp n ≤ d.now)
      else x.state.fills && d.laneUp (s / 16) && decide (max from_ (d.lane (s / 16)).upAt + 48 * d.tp n ≤ d.now)
    if late then (d.failStall s 4).pump else d
def execTelemTimeout (t stall : Nat) (s : State) := run t (active (fTelemTimeout stall)) s

/-! ### Balance jobs (R125, R127, R475) -/

/-- The position of the first job in the order of R23: earliest deadline, then lowest rail. -/
def earliest (l : List (Nat × Nat)) : Option Nat :=
  match l with
  | [] => none
  | (n, t) :: l => match earliest l with
    | none => some n
    | some m => if (l.find? (fun x => x.1 = m)).all (fun x => t ≤ x.2) then some n else some m

/-- The serving unit that has been free longest, the lowest-numbered among equals (R160). -/
def freeUnit (us : List EvalUnit) : Option Nat :=
  earliest ((us.zipIdx.filter fun x => x.1.serving && x.1.running.isNone && !x.1.hung).map fun x => (x.2, x.1.freeAt))

/-- BALANCE_JOB_DISPATCH (R127). -/
def fBalanceJobDispatch (d : Dev) : Dev :=
  let waiting := (d.bals.zipIdx.filterMap fun x => match x.1 with
    | some j => if j.phase = .pending then some (x.2, j.deadline) else none
    | none => none)
  match earliest waiting, freeUnit d.balUnits with
  | some n, some u =>
    let d := { d with bals := modAt d.bals n (Option.map fun j => { j with phase := .running u }) }
    d.onBalUnit u fun x => { x with running := some (n, d.now), dropped := false }
  | _, _ => d
def execBalanceJobDispatch (t : Nat) (s : State) := run t (active fBalanceJobDispatch) s

/-- One stall's trim after a balance job: share and error in 1/16 A, exact until the one truncation (R125). -/
def Dev.newTrim (d : Dev) (n : Nat) (irail : Int) (wsum s : Nat) : Int :=
  let x := d.stall s
  let kb := (d.regs.act.YARD_BALCFG_KB n : Int)
  let den : Int := 2 ^ d.regs.act.YARD_BALCFG_SHIFT n
  let stp : Int := if wsum = 0 then (Config.shareWithoutWeight s - x.cur) * kb / den
    else (irail * x.weight - x.cur * wsum) * kb / (wsum * den)
  let lim : Int := (d.regs.act.YARD_BALCFG_TRIM_MAX n : Int) * 256
  clampI (-lim) lim (x.trim + stp)

/-- The trim group of a pair member: the 5 filled roles in rank order from the group index, wrapping (R395). -/
def Dev.trimGroup (d : Dev) (n : Nat) : List Nat :=
  let order := d.byRank (d.filled n)
  let k := d.pair.trimIndex.getD n 0
  (order.drop k ++ order.take k).take 5

/-- The stalls whose trims a balance job commits: the conducting set, or in a pair member those of it in the trim group
(R125, R395). -/
def Dev.balSet (d : Dev) (n : Nat) : List Nat :=
  if d.inPair then (d.trimGroup n).filter fun s => (d.stall s).shown d.now = .conducting else d.conducting n

/-- The trims that a balance job queued now forms from inputs latched now (R16, R125): the mean that is subtracted is that of the
trims of the conducting set, or in a pair member that of the group's changes (R395). -/
def Dev.formTrims (d : Dev) (n : Nat) : List (Nat × Int) :=
  let set := d.balSet n
  let wsum := ((d.conducting n).map fun s => (d.stall s).weight).sum
  let new := set.map fun s => (s, if (d.stall s).fresh then d.newTrim n (d.rail n).ir wsum s else (d.stall s).trim)
  let total : Int := (new.map fun x => if d.inPair then x.2 - (d.stall x.1).trim else x.2).sum
  let mean : Int := if set.isEmpty then 0 else total / (set.length : Int)
  new.map fun x => (x.1, x.2 - mean)

/-- The trims of a balance job are committed (R125): to the stalls of its set that still conduct and have not entered the set
since the job was queued. -/
def Dev.commitTrims (j : BalJob) (d : Dev) : Dev :=
  d.each j.trims fun x d => d.onStall x.1 fun y =>
    if y.state = .conducting && y.entered ≤ j.since then { y with trim := x.2 } else y

/-- BALANCE_JOB_COMPLETE (R125, R17, R127): the trims are committed if the job's deadline has not passed, and the unit
is free; the lame rule is judged. -/
def fBalanceJobComplete (u : Nat) (d : Dev) : Dev :=
  let x := d.balUnit u
  match x.running with
  | none => d
  | some (n, t0) =>
    let e := d.now - t0
    let d := d.onBalUnit u fun x => { x with running := none, freeAt := d.now, last := e, max := max x.max e }
    if x.dropped then d
    else
      let slow := d.slowJob n e
      let d := d.onBalUnit u (EvalUnit.judge slow)
      let d := match d.bals.getD n none with
        | some j =>
          if j.phase = JobPhase.running u && d.now ≤ j.deadline then
            { d.commitTrims j with bals := d.bals.set n none }
          else d
        | none => d
      if d.meetsLame (d.balUnit u) then d.lameBal u else d
def execBalanceJobComplete (t unit : Nat) (s : State) := run t (active (fBalanceJobComplete unit)) s

/-! ### Wear and spares (R133–R136, R139) -/

/-- The rated current of a stall's stage, from census word 0, in A (R94). -/
def Dev.rated (d : Dev) (s : Nat) : Nat := fld ((d.lane (s / 16)).census.rd (4 * (s % 16))) 15 8

/-- FLUSH in s; 0 acts as 1 (R149). -/
def Dev.flushS (d : Dev) : Nat := atLeast1 d.regs.act.YARD_WEARGCFG_FLUSH

/-- The flush margin A of a stall in wu, rounded up so that the counter stays at or above the stress (R134). -/
def Dev.wearMargin (d : Dev) (s : Nat) : Nat :=
  let r := d.rated s
  if r = 0 then Config.wearWithoutRating s else (d.flushS * 16 * 16384 + (r * r - 1)) / (r * r)

/-- A stall at the end of its life is marked; with a spare its retirement is pending (R136). -/
def Dev.checkWorn (s : Nat) (d : Dev) : Dev :=
  match d.railOf s with
  | none => d
  | some n =>
    let x := d.stall s
    if x.worn || !x.state.fills || d.regs.act.YARD_WEARCFG_EOL n = 0 || d.life s < 1024 then d
    else
      let d := d.onStall s fun x => { x with worn := true }
      let d := d.raise 0x2005 (d.gaStall s) (leBytes 4 (d.reg (aYARD_WEAR s)).toNat ++ leBytes 8 x.counter)
      (d.when (!(d.relievable n).contains s) (Dev.stick (aYARD_COUNT n) 0x40000000)).afterChange n

/-- Stall `s`'s counter takes its stress and the margin, is written, and its weight is formed anew (R134, R136). -/
def Dev.flushStall (s : Nat) (d : Dev) : Dev :=
  let v := (d.stall s).acc / 2 ^ 32 + d.wearMargin s
  let d := (d.onStall s fun x => { x with counter := v }).writeCounter s v
  d.onStall s fun x => { x with weight := d.weightOf s }

/-- Every stall's counter is written (R134). -/
def Dev.flushStalls (d : Dev) : Dev := d.each (List.range 512) Dev.flushStall

/-- Every stall's wear is judged (R136). -/
def Dev.checkStalls (d : Dev) : Dev := d.each (List.range 512) Dev.checkWorn

/-- The wear flush: each stall's counter is written with the margin, and weights are recomputed (R126, R134). -/
def Dev.flushWear (d : Dev) : Dev :=
  let d := { d.flushStalls with hsw.wearFlush := d.now }
  d.when (!d.isStandby) Dev.checkStalls

/-- WEAR_FLUSH (R134). -/
def fWearFlush (d : Dev) : Dev :=
  if d.tb.running && d.hsw.wearFlush + d.flushS * secEu ≤ d.now then d.flushWear else d
def execWearFlush (t : Nat) (s : State) := run t fWearFlush s

/-- SPARE_PROBE (R139): every PROBE_INT ms a SPARE stall receives a presence PROBE. -/
def fSpareProbe (s : Nat) (d : Dev) : Dev :=
  let i := d.regs.act.YARD_SPARECFG_PROBE_INT
  let x := d.stall s
  if i ≠ 0 && x.state = .spare && d.laneUp (s / 16) && x.probes + i * msEu ≤ d.now then
    (d.onStall s fun x => { x with probes := d.now }).askStall s (.probe 0)
  else d
def execSpareProbe (t stall : Nat) (s : State) := run t (active (fSpareProbe stall)) s

end Sys2Proof.Machine
end

