-- ==== Sys2Proof/Machine/Engine.lean ====
section
/-! DEFINITION. The rail-sample boundary (R156) with all that happens at it: the closed sample, the commit or discard of
the law job, accepted writes, the ramp (R189, R55), the pre-position (R202–R204), regions, thresholds, power-good, sheds
and adds, and the jobs it queues; and the commands of the law units (R160–R165). -/

namespace Sys2Proof.Machine

/-! ### The closed sample (R154, R225, R257, R262) -/

/-- Every conversion of the open sample satisfies |c + droopc| ≤ w (R225, R262). -/
def Rail.within (r : Rail) (w : Nat) : Bool :=
  r.n = 0 || (decide (-(w : Int) ≤ r.cmin + r.droopc) && decide (r.cmax + r.droopc ≤ w))

/-- ec of the open sample; 0 for a sample without conversions (R154). -/
def Rail.ec (r : Rail) : Int := if r.n = 0 then 0 else r.sum * 2 ^ 28 / (2000 * (r.n : Int))

/-- The open sample is an undervoltage sample (R257). -/
def Rail.underVolt (r : Rail) (uvf : Nat) : Bool :=
  r.n ≠ 0 && decide (r.sum / (r.n : Int) + r.droopc ≤ -(uvf : Int))

/-- The closed sample is kept (R322), and what it counts toward moves on: INSIDE, the two samples of R52 with the moving
target at its end (log entry 59), the undervoltage run, and PG (R225, R257, R262, R263). -/
def Dev.judgeSample (n : Nat) (d : Dev) : Dev :=
  let m := d.regs.act
  let run : Bool := ((d.rail n).state = .ramp && (d.rail n).searched) || (d.rail n).state = .reg
  let inner (r : Rail) : Bool := r.within (m.XNT_CFG_INNER n)
  let held (r : Rail) : Bool := r.mode = .burst || r.mode = .cut
  let win (r : Rail) : Bool := r.within (m.PROT_PG_PGWIN n)
  d.onRail n fun r =>
    { r with
      csum := r.sum, cn := r.n, cvt := r.vt,
      inside := if r.state = .reg && held r && !r.epSample && inner r then r.inside + 1 else 0,
      inRamp := if r.state = .ramp && run && inner r && decide (r.pos = 256 * r.rdest) then r.inRamp + 1 else 0,
      uvRun := if r.state = .reg && m.PROT_UV_UV_EN n = 1 && r.underVolt (atLeast1 (m.PROT_UV_UVF n)) then r.uvRun + 1 else 0,
      pgRun := if run && win r then r.pgRun + 1 else 0 }

/-- PG rises, or falls with the closed sample (R262, R263). -/
def Dev.movePg (n : Nat) (d : Dev) : Dev :=
  let m := d.regs.act
  d.onRail n fun r =>
    { r with pg := r.state = .reg && decide (r.pgRun ≠ 0) &&
        (r.pg || (decide (r.regAt + m.PROT_PG_PGDLY n * usEu ≤ d.now) && decide (atLeast1 (m.PROT_PG_PGN n) ≤ r.pgRun))) }

/-- A new sample opens: an episode in progress marks it (R225). -/
def Rail.openSample (r : Rail) : Rail :=
  { r with sum := 0, n := 0, cmin := 0, cmax := 0, sat := false, epSample := r.episode.isSome }

/-! ### The job in flight (R52, R156, R163, R168) -/

/-- The rail enters REG (R52, R207). -/
def Dev.enterReg (n : Nat) (d : Dev) : Dev :=
  (d.onRail n fun r => { r with state := .reg, mode := .linear, regAt := d.now, uvRun := 0, inside := 0, following := false }).alertOwner n 4

/-- The hand-over or hand-back that a committed job carried (R52, R225). -/
def Dev.handOver (n : Nat) (d : Dev) : Dev :=
  let r := d.rail n
  if r.state = .ramp then d.enterReg n
  else if r.mode = .burst || r.mode = .cut then
    let d := d.onRail n fun r => { r with mode := if r.off ≠ 0 then .prepos else .linear }
    (d.onYard n fun y => { y with linearSince := d.now }).count (aXNT_HB n)
  else d

/-- The sticky flags of a committed job (R170). -/
def LawResult.flags (x : LawResult) (satErr : Bool) : Nat :=
  2 * x.satArith.toNat + 4 * x.satInt.toNat + 8 * x.satOut.toNat + 16 * satErr.toNat

/-- commit of R156: u, law state and flags become current together. -/
def Dev.commitLaw (n : Nat) (j : LawJob) (x : LawResult) (d : Dev) : Dev :=
  let rebased := decide (j.inp.rebase ≠ .none)
  let d := d.onLaw n fun l =>
    { l with st := x.st, u := x.u, vc := x.vc, x0 := x.x0, droop := x.droop, intHi := x.intHi, intLo := x.intLo,
             outHi := x.outHi, outLo := x.outLo, missRun := 0, missDue := false,
             first := false, job := none, handPend := false, swapped := l.swapped && !rebased,
             rebasePend := l.rebasePend && l.voided }
  let fl := x.flags j.inp.satErr
  let d := ((d.stick (aENG_FLAGS n) fl).count (aENG_EVAL n)).when (fl ≠ 0) (Dev.count (aENG_SATCNT n))
  let d := d.when rebased (Dev.count (aENG_REBASE n))
  d.when j.inp.handBack (Dev.handOver n)

/-- discard of R163; a rebase stays pending (R168), and MISSRUN may reach MISS_MAX (R164). -/
def Dev.discardLaw (n : Nat) (j : LawJob) (d : Dev) : Dev :=
  let most := atLeast1 (d.regs.act.ENG_CFG_MISS_MAX n)
  let d := (d.dropLawJob n).onLaw n fun l =>
    { l with missRun := l.missRun + 1, missDue := decide (most ≤ l.missRun + 1), handPend := l.handPend || j.inp.handBack,
             swapped := l.swapped || decide (j.inp.rebase = .vcprev) }
  let was := fld (d.stat (aENG_FLAGS n)) 0 0
  let d := ((d.stick (aENG_FLAGS n) 1).stick aSYS_STATE 0x800).count (aENG_DMISS n)
  if was = 0 then d.raise 0x2001 (d.gaRail n) (leBytes 4 (satU 8 (d.law n).missRun)) else d

/-- The job queued at the last boundary is committed if it was complete at this one, and discarded otherwise (R17, R156). -/
def Dev.closeJob (n : Nat) (d : Dev) : Dev :=
  match (d.law n).job with
  | none => d
  | some j =>
    match j.phase, j.result with
    | .complete, some x => d.commitLaw n j x
    | _, _ => d.discardLaw n j

/-! ### Writes (R9, R174, R186, R201) -/

/-- The sample-class fields of rail `n`: addresses and masks (R210, R233, R270). -/
def sampleFields (n : Nat) : List (Nat × Nat) :=
  [(aLCP_LIM n, 0xFFF0FFF), (aXNT_CFG n, 0xFF00), (aXNT_WIN n, 0xFFFFFFFF), (aXNT_NCLASS n, 0x777),
   (aPROT_OV n, 0xFFF0FFF), (aPROT_UV n, 0xFFFF), (aPROT_PG n, 0xFFF)]

/-- A destination outside new limits moves to the nearer one (R186). -/
def nearest (lo hi c : Nat) : Nat := if c = 0 then 0 else min hi (max lo c)

/-- Sample-class fields come into force; a change of limits moves the destination (R9, R186). -/
def Dev.takeSample (n : Nat) (d : Dev) : Dev :=
  let old := (d.vmin n, d.vmax n)
  let act := (sampleFields n).foldl (fun m x => m.wr x.1 (blend x.2 (m.rd x.1) (d.regs.hold.rd x.1))) d.regs.act
  let d := { d with regs.act := act }
  if (d.vmin n, d.vmax n) = old then d
  else
    let fix := nearest (d.vmin n) (d.vmax n)
    d.onRail n fun r => { r with dest := fix r.dest, rdest := fix r.rdest }

/-- A hint accepted at least 20 ns before comes into force (R201). -/
def Dev.takeHint (n : Nat) (d : Dev) : Dev :=
  match (d.rail n).hintNext with
  | some (h, ta) => if ta + 1024 ≤ d.now then d.onRail n fun r => { r with hint := h, hintNext := none } else d
  | none => d

/-! ### The ramp generator (R55, R189, R230) -/

/-- inc of R189 at a slew class. -/
def Dev.inc (d : Dev) (n cls : Nat) : Nat := slewq cls * d.rate n / 25

/-- EMAX and EKNEE in the bucket's unit, 1/32,000 µJ (R229). -/
def Dev.emax (d : Dev) : Nat := 320000 * atLeast1 d.regs.act.XNT_RETCFG_EMAX
def Dev.eknee (d : Dev) : Nat := 20000 * atLeast1 d.regs.act.XNT_RETCFG_EMAX * d.regs.act.XNT_RETCFG_KNEE

/-- The downward limit of one sample, where it binds (R230). -/
def Dev.stretch (d : Dev) (inc : Nat) : Nat :=
  if d.regs.act.XNT_RETCFG_EN = 0 then inc
  else if d.ret.ceil then 0
  else if d.ret.e ≤ d.eknee then inc
  else inc * (d.emax - d.ret.e) / (d.emax - d.eknee)

/-- Move pos toward a destination; downward in REG and STOP under the stretch (R189, R230). -/
def Dev.moveTo (n dest inc : Nat) (stretched : Bool) (d : Dev) : Dev :=
  let p := (d.rail n).pos
  if p < 256 * dest then d.onRail n fun r => { r with pos := min (p + inc) (256 * dest) }
  else if 256 * dest < p then
    let s := if stretched then d.stretch inc else inc
    let d := d.when (s < inc) (Dev.count (aXNT_STR n))
    d.onRail n fun r => { r with pos := max (p - min inc s) (256 * dest) }
  else d

/-- The leader's present code and final code, while it ramps, runs or ramps down (R55). -/
def Dev.leaderCode (d : Dev) (n : Nat) : Option (Nat × Nat) :=
  match d.leaderOf n with
  | none => none
  | some l =>
    let r := d.rail l
    if (r.state = .ramp && r.searched) || r.state = .reg || r.state = .stop then some (r.code, r.rdest) else none

/-- D for a final code `f` and a leader's code and final code (R55). -/
def followCode (ratio : Bool) (f : Nat) (x : Nat × Nat) : Nat :=
  if ratio then (if x.2 = 0 then 0 else x.1 * f / x.2) else min x.1 f

/-- The derived code D of R55 for final code `f`, with the latest TRACK conversion. -/
def Dev.derived (d : Dev) (n f track : Nat) : Option Nat :=
  let ratio := decide (d.regs.act.SYS_RAILTRACK_MODE n = 1)
  if d.tracksPin n then
    some (if ratio then min f (track * f / atLeast1 (d.regs.act.SYS_RAILTRACK_TRACK_FS n)) else min track f)
  else (d.leaderCode n).map (followCode ratio f)

/-- A follower in RAMP takes its code from its leader, never below its start code, and leaves tracking on reaching its
final code or when its leader has finished (R55). -/
def Dev.followUp (n track : Nat) (d : Dev) : Dev :=
  let r := d.rail n
  let f := r.rdest
  match d.derived n f track with
  | none => d
  | some x =>
    let code := min f (max x r.startCode)
    let done := match d.leaderOf n with
      | some l => decide ((d.rail l).pos = 256 * (d.rail l).rdest)
      | none => false
    d.onRail n fun r => { r with pos := 256 * code, following := !(decide (code = f) || done) }

/-- Where a follower's leader leaves its target on the way down (R59): with the leader in STOP its derived code; once the
leader is OFF, its STOP_FLOOR if the leader's last code lies at or below that; none once it goes on by itself. -/
def Dev.followDown (d : Dev) (n floor : Nat) : Option Nat :=
  let r := d.rail n
  match d.leaderOf n with
  | none => none
  | some l =>
    let x := followCode (decide (d.regs.act.SYS_RAILTRACK_MODE n = 1)) r.rdest ((d.rail l).code, (d.rail l).rdest)
    if (d.rail l).state = .stop then some (min r.code (max x floor))
    else if (d.rail l).state = .off && decide (x ≤ floor) then some floor
    else none

/-- The ramp of a rail in STOP, and its end at STOP_FLOOR (R58, R59). -/
def Dev.rampDown (n : Nat) (d : Dev) : Dev :=
  let r := d.rail n
  let floor := 4 * d.regs.act.SYS_RAILSTART_STOP_FLOOR n
  let d :=
    if r.pos ≤ 256 * floor then d
    else match (if r.following then d.followDown n floor else none) with
      | some x => d.onRail n fun r => { r with pos := 256 * x }
      | none => (d.onRail n fun r => { r with following := false }).moveTo n floor
          (d.inc n (d.regs.act.SYS_RAILSTART_STOP_SLEW n)) true
  if (d.rail n).pos ≤ 256 * floor then (d.oweStops n).enterOff n else d

/-- A coasting rail enters OFF once every stall's last commanded period has ended (R58). -/
def Dev.coastDown (n : Nat) (d : Dev) : Dev :=
  if (d.bound n).all fun s => (d.stall s).edges.all fun e => e.start + d.tp n ≤ d.now then d.enterOff n else d

/-- The ramp generator's step at a boundary (R189). -/
def Dev.rampStep (n track : Nat) (d : Dev) : Dev :=
  let r := d.rail n
  let up : Bool := (r.state = .ramp && r.searched) || r.state = .reg
  let d := if up && r.cmdAt.any (fun a => a + 1024 ≤ d.now) then
      d.onRail n fun r => { r with rdest := r.dest, rcls := r.cls, cmdAt := none }
    else d
  let r := d.rail n
  match r.state with
  | .stop => if r.coast then d.coastDown n else d.rampDown n
  | _ =>
    if !up then d
    else
      let d :=
        if r.state = .ramp && r.following then d.followUp n track
        else if r.state = .ramp then d.moveTo n r.rdest (d.inc n (d.regs.act.SYS_RAILSTART_SS_SLEW n)) false
        else d.moveTo n r.rdest (d.inc n r.rcls) true
      let r := d.rail n
      if r.pos = 256 * r.rdest && r.cmdAt.isNone then d.reach n else d

/-! ### STEP_AHEAD at a boundary (R202–R204) -/

/-- The announced step in A. -/
def Dev.stepAmps (d : Dev) (n : Nat) (w : Warn) : Nat := w.cls * d.regs.act.LCP_STEPCFG_UNIT n

/-- offt of R202, from the committed ifilt. -/
def Dev.offTarget (d : Dev) (n : Nat) (w : Warn) : Int :=
  let m := d.regs.act
  let slope := m.ENG_LL_SLOPE n
  let ia := ((d.law n).st.ifilt / 2 ^ 15).toNat
  let di := d.stepAmps n w
  let pmax := m.LCP_STEPCFG_PMAX n
  if w.dir = 0 then (min (min (di * slope / 50000) (ia * slope / 50000)) pmax : Nat)
  else -((min (min (di * slope / 50000) ((m.LCP_STEPCFG2_IBAND n - ia) * slope / 50000)) pmax : Nat) : Int)

/-- Arrival in the announced direction by the rail current (R204). -/
def Dev.stepArrived (d : Dev) (n : Nat) (w : Warn) : Bool :=
  let rise : Int := if w.dir = 0 then (d.rail n).ir - w.ir0 else w.ir0 - (d.rail n).ir
  decide (8 * (d.stepAmps n w : Int) ≤ rise)

/-- The warning's part of a boundary: arrival, or MODE PREPOS and the offset target (R202, R204). -/
def Dev.warnStep (n : Nat) (d : Dev) : Dev :=
  match (d.rail n).warn with
  | none => d
  | some w =>
    if d.stepArrived n w then d.endWarn n true
    else if !w.started && w.ta + 1024 ≤ d.now && ((d.rail n).mode = .linear || (d.rail n).mode = .prepos) then
      let t := d.offTarget n w
      d.onRail n fun r => { r with warn := some { w with started := true }, offt := t, tight := true, mode := .prepos }
    else d

/-- The offset moves toward its target, inside the limits; with none left PREPOS ends (R203, R204). -/
def Dev.offStep (n : Nat) (d : Dev) : Dev :=
  let stp : Int := ((max 1 (slewq (d.regs.act.LCP_STEPCFG_PSLEW n) * d.rate n / 6400) : Nat) : Int)
  let lo : Int := (d.vmin n : Nat)
  let hi : Int := (d.vmax n : Nat)
  d.onRail n fun r =>
    let code : Int := (r.code : Nat)
    let held := r.mode = .burst || r.mode = .cut
    let off := if held then r.off else r.off + clampI (-stp) stp (r.offt - r.off)
    let off := if code < lo || hi < code then 0 else min (hi - code) (max (lo - code) off)
    let done := r.warn.isNone && off = 0 && !held
    { r with off := off, tight := r.tight && !done, mode := if done && r.mode = .prepos then .linear else r.mode }

/-! ### Thresholds (R214, R215) -/

/-- Both thresholds and droopc at a boundary. -/
def Dev.setThresholds (n : Nat) (d : Dev) : Dev :=
  let m := d.regs.act
  let droopc := (d.law n).droop * 2000 / 2 ^ 28
  d.onRail n fun r =>
    let live : Bool := (r.state = .ramp && r.searched) || r.state = .reg || r.state = .stop
    let wov : Int := ((if r.tight then m.XNT_WIN_OVWT n else m.XNT_WIN_OVW n : Nat) : Int)
    let wuv : Int := ((if r.tight then m.XNT_WIN_UVWT n else m.XNT_WIN_UVW n : Nat) : Int)
    let vt : Int := if live then (r.code : Nat) + r.off else 0
    let dc := if live then droopc else 0
    { r with vt := vt.toNat, droopc := dc, ovthr := (clampI 0 4095 (vt - dc + wov)).toNat,
             uvthr := (clampI 0 4095 (vt - dc - wuv)).toNat }

/-! ### Sheds and adds (R128, R129) -/

/-- ADD, at any boundary: I / m above IADD raises m; the stalls added conduct from the first firing window whose frames have not
begun to leave. -/
def Dev.addStalls (n : Nat) (d : Dev) : Dev :=
  let c := d.regs.act
  let m := (d.yard n).m
  let i := (d.rail n).ir.toNat
  let iadd := c.YARD_SHEDCFG_IADD n
  let half := 2 * (c.YARD_SHEDCFG_ISHED n + iadd)
  let filled := (d.filled n).length
  if 4 * iadd * m < i then
    let want := if half = 0 then filled else max (m + atLeast1 (c.YARD_SHEDCFG_STEP n)) ((i + half - 1) / half)
    let k := min filled want
    if k = m then d
    else ((d.setM n k (d.freshWindow n)).count (aYARD_ADDCNT n)).onYard n fun y => { y with lastShed := d.now }
  else d

/-- SHED: STEP' stalls leave the conducting set when every condition of R128 and R201 holds. -/
def Dev.shedStalls (n : Nat) (d : Dev) : Dev :=
  let c := d.regs.act
  let r := d.rail n
  let y := d.yard n
  let i := r.ir
  let low := decide (i < 4 * (c.YARD_SHEDCFG_ISHED n : Int) * y.m)
  let dwell := if low then y.dwell + 1 else 0
  let d := d.onYard n fun y => { y with dwell := dwell }
  let k := min (atLeast1 (c.YARD_SHEDCFG_STEP n)) (y.m - c.YARD_CAP_MINCOND n)
  if c.YARD_SHEDCFG_SHED_EN n = 1 && r.state = .reg && r.mode = .linear && decide (c.YARD_CAP_MINCOND n < y.m) &&
      decide (atLeast1 (c.YARD_SHEDTIME_DWELL n) ≤ dwell) &&
      decide (i < 4 * (c.YARD_SHEDCFG_IADD n : Int) * ((y.m - k : Nat) : Int)) &&
      decide (y.lastShed + c.YARD_SHEDTIME_INTERVAL n * usEu ≤ d.now) && r.warn.isNone &&
      decide (c.YARD_SHEDCFG_ISHED n < c.YARD_SHEDCFG_IADD n) && (c.LCP_HINT_SHEDMASK n).testBit r.hint then
    ((d.setM n (y.m - k) (d.freshWindow n)).count (aYARD_SHEDCNT n)).onYard n fun y => { y with lastShed := d.now, dwell := 0 }
  else d

/-! ### Queueing (R125, R156, R166) -/

/-- ustar of the first job after entry to RAMP (R50, R166). -/
def Dev.preloadOf (d : Dev) (n tp : Nat) : Nat :=
  let code := (d.rail n).startCode
  if d.vin = 0 then Config.preloadWithoutBus code else code * tp * 128 / d.vin

/-- Whether the job queued now carries the hand-over or the hand-back (R52, R168, R225). -/
def Dev.handDue (d : Dev) (n : Nat) : Bool :=
  let r := d.rail n
  let l := d.law n
  (l.handPend && !l.voided && (r.state = .ramp || r.mode = .burst || r.mode = .cut)) ||
  (r.state = .ramp && !r.following && r.cmdAt.isNone && r.pos = 256 * r.rdest && decide (2 ≤ r.inRamp)) ||
  (r.state = .reg && (r.mode = .burst || r.mode = .cut) && r.episode.isNone && decide (2 ≤ r.inside))

/-- The period of the layout that governs the window that begins at `w` (R154, R179): that of a boundary decided, or of the
candidate that is not yet decided, if nothing defers it so far. -/
def Dev.windowTp (d : Dev) (n w : Nat) : Nat :=
  let r := d.rail n
  match (d.yard n).boundary, d.candidate n with
  | none, some b =>
    if b ≤ w && r.mode ≠ .burst && r.mode ≠ .cut then
      (d.afterBoundary n ((d.yard n).pend.filter fun c => c.since + d.p n + d.lead ≤ b)).tp n
    else d.tp n
  | _, _ => (d.viewAt n w).tp n

/-- The law job of a boundary: its inputs are latched and it waits for a unit, due at the next boundary (R156). A region change
while the first job after entry to RAMP is outstanding does not advance ENG_REGCHG (DESIGN CHOICE: log entry 82). -/
def Dev.queueLaw (n : Nat) (ec : Int) (satErr entering : Bool) (d : Dev) : Dev :=
  let r := d.rail n
  let l := d.law n
  let region := d.selectRegion n entering
  let tp := d.windowTp n (d.now + d.p n + d.lead)
  let hand := !l.first && d.handDue n
  let rebase : Rebase :=
    if l.first then .ustar (d.preloadOf n tp)
    else if hand then .ustar (d.ustar n d.now)
    else if region ≠ l.region || l.swapped then .vcprev
    else .none
  let vt : Int := (((r.code : Nat) : Int) + r.off) * 2 ^ 28 / 2000
  let inp : LawInputs :=
    { bank := d.bank n region, ec := ec, vt := vt, ir := r.ir, vin := d.vin, rvin := if d.sys.vinStale then rvOf d.vinNom else rvOf d.vin,
      rvnom := rvOf d.vinNom, tp := tp, igain := (d.regs.act.ENG_IGAIN_GAIN n : Nat), kdr := ((l.kdrM : Nat), l.kdrS),
      first := l.first, rebase := rebase, held := r.mode = .burst || r.mode = .cut, region := region, handBack := hand,
      satErr := satErr }
  let d := d.when (decide (region ≠ l.region) && !l.first) (Dev.count (aENG_REGCHG n))
  d.onLaw n fun l =>
    { l with region := region, job := some ⟨inp, d.now + d.p n, .pending, none⟩, voided := l.voided && !hand,
             rebasePend := l.rebasePend || decide (rebase ≠ .none) }

/-- The balance job of a boundary, with what it computes from the inputs latched now; one still unfinished at its deadline is
discarded (R125, R16, R17, R177). With BAL_EN at 0 every trim is 0. -/
def Dev.queueBalance (n : Nat) (d : Dev) : Dev :=
  let d := d.when (d.bals.getD n none).isSome fun d => (d.count (aYARD_BALMISS n)).dropBalJob n
  let set := d.balSet n
  let on := d.regs.act.YARD_BALCFG_BAL_EN n = 1
  let trims := if on then d.formTrims n else []
  let d := if on then d.each set fun s d => d.onStall s fun x => { x with fresh := false }
    else d.each (d.bound n) fun s d => d.onStall s fun x => { x with trim := 0 }
  { d with bals := d.bals.set n (some ⟨d.now, d.now + d.p n, .pending, trims⟩) }

/-! ### The pair (R394, R395) -/

/-- The RC of rail `n` at this boundary (R394); its boundary count is the number of periods in timebase time. -/
def Dev.rcOf (d : Dev) (n : Nat) : RcMsg :=
  let r := d.rail n
  let l := d.law n
  { rail := n, boundary := d.now / d.p n % 65536, epoch := (d.yard n).epoch % 4096, state := r.state.code,
    mode := if r.state = .reg then r.mode.code else 0, region := l.region, pg := r.pg, trimIndex := d.pair.trimIndex.getD n 0,
    u := l.u, vc := l.vc, s := l.st.s, ifilt := l.st.ifilt, x1 := l.st.x1, x2 := l.st.x2, y1 := l.st.y1, y2 := l.st.y2,
    pos := r.pos, dest := r.dest, off := r.off, cls := r.cls, warn := r.warn.isSome, dir := r.warn.elim 0 (·.dir),
    warnCls := r.warn.elim 0 (·.cls), offt := r.offt, trims := (d.trimGroup n).map fun s => (d.stall s).trim,
    flags := (d.reg (aENG_FLAGS n)).toNat, rebasePend := l.rebasePend, missRun := l.missRun, inside := r.inside,
    episode := r.episodeCode }

/-- When a message sent now is due at the partner (R387); none for one that uses slots that carry nothing else. -/
def Dev.msgDue (d : Dev) : PairMsg → Option Nat
  | .rc m => some (d.now + d.p m.rail + 5120)
  | .dc _ => some (d.now + 56320)
  | _ => none

/-- A message takes its place among those sent: by due time, and behind every one that is due when it is not (R387). -/
def Dev.placeMsg (d : Dev) (m : PairMsg) (ms : List PairMsg) : List PairMsg :=
  match d.msgDue m with
  | none => ms ++ [m]
  | some t =>
    let sooner (x : PairMsg) : Bool := (d.msgDue x).any fun u => u ≤ t
    ms.filter sooner ++ m :: ms.filter fun x => !sooner x

/-- A message sent on the pair link (R387). -/
def Dev.sendPair (m : PairMsg) (d : Dev) : Dev := { d with pair.sent := d.placeMsg m d.pair.sent }

/-- At each boundary a primary sends the RC of a rail in RAMP or REG, and the trim group moves on (R387, R395). -/
def Dev.commitRail (n : Nat) (d : Dev) : Dev :=
  if !d.inPair then d
  else
    let st := (d.rail n).state
    let d := if (st = .ramp || st = .reg) && d.sys.state = .run then
        (d.sendPair (.rc (d.rcOf n))).count aPAIR_RCCNT
      else d
    let k := (d.filled n).length
    { d with pair.trimIndex := modAt d.pair.trimIndex n fun i => if k = 0 then 0 else (i + 5) % k }

/-! ### The boundary -/

/-- A standby's part of a boundary: its own rail current; the sample closes, the comparators follow the mirrored target, and a new
sample opens (R214, R322, R392). -/
def Dev.standbySample (n : Nat) (d : Dev) : Dev :=
  let d := d.onRail n fun r => { r with ir := d.railCurrent n, csum := r.sum, cn := r.n, cvt := r.vt }
  (d.setThresholds n).onRail n Rail.openSample

/-- RAIL_SAMPLE_BOUNDARY (R156), with `track` the latest TRACK conversion (R55). -/
def fRailSampleBoundary (n track : Nat) (d : Dev) : Dev :=
  if !d.tb.running || d.now % d.p n ≠ 0 || 8 ≤ n then d
  else if d.isStandby then d.catchOutput.standbySample n
  else
    let d := d.catchOutput
    let r0 := d.rail n
    let entering := (d.law n).first && (d.law n).job.isNone
    let d := d.judgeSample n
    let d := d.onRail n fun r => { r with ir := d.railCurrent n }
    let d := d.closeJob n
    let d := (d.applyGroups n).takeSample n
    let d := (d.takeHint n).rampStep n track
    let d := if (d.rail n).state = .reg then (d.warnStep n).offStep n else d
    let d := (d.movePg n).setThresholds n
    let st := (d.rail n).state
    let law : Bool := (st = .ramp && (d.rail n).searched) || st = .reg
    let d := (d.when law (Dev.shedStalls n)).addStalls n
    let d := if law then (d.queueLaw n r0.ec r0.sat entering).queueBalance n
      else if st = .ramp then d.queueBalance n else d
    ((d.commitRail n).onRail n Rail.openSample).pump
def execRailSampleBoundary (t n track : Nat) (s : State) := run t (fRailSampleBoundary n track) s

/-! ### Law units (R160–R165, R177) -/

/-- LAW_JOB_DISPATCH (R160). -/
def fLawJobDispatch (d : Dev) : Dev :=
  let waiting := d.laws.zipIdx.filterMap fun x => match x.1.job with
    | some j => if j.phase = .pending then some (x.2, j.deadline) else none
    | none => none
  match earliest waiting, freeUnit d.lawUnits with
  | some n, some u =>
    let star := match (d.law n).job with
      | some j => match j.inp.rebase with
        | .ustar _ => true
        | _ => false
      | none => false
    let d := d.onLaw n fun l => { l with job := l.job.map fun j => { j with phase := .running u } }
    (d.onLawUnit u fun x => { x with running := some (n, d.now), ustar := star, dropped := false }).count (aENG_UJOBS u)
  | _, _ => d
def execLawJobDispatch (t : Nat) (s : State) := run t (active fLawJobDispatch) s

/-- The verdict on a job's time (R177); ustar jobs are left out. -/
def Dev.judgeLaw (u n e : Nat) (star : Bool) (d : Dev) : Dev :=
  if star then d
  else
    let slow := d.slowJob n e
    let d := d.onLawUnit u (EvalUnit.judge slow)
    if d.meetsLame (d.lawUnit u) then d.lameLaw u else d

/-- LAW_JOB_COMPLETE (R161): the unit is free, and a result in time waits in the latch. -/
def fLawJobComplete (u : Nat) (d : Dev) : Dev :=
  let x := d.lawUnit u
  match x.running with
  | none => d
  | some (n, t0) =>
    let e := d.now - t0
    let d := d.onLawUnit u fun x => { x with running := none, freeAt := d.now, last := e, max := max x.max e }
    if x.dropped then d
    else
      let done (l : Law) (j : LawJob) : LawJob :=
        if j.phase = JobPhase.running u && d.now ≤ j.deadline then
          { j with phase := .complete, result := some (lawEval l.st j.inp) }
        else j
      (d.onLaw n fun l => { l with job := l.job.map (done l) }).judgeLaw u n e x.ustar
def execLawJobComplete (t unit : Nat) (s : State) := run t (active (fLawJobComplete unit)) s

/-- LAW_UNIT_HUNG (R165): 8 µs after dispatch. -/
def fLawUnitHung (u : Nat) (d : Dev) : Dev :=
  let x := d.lawUnit u
  match x.running with
  | none => d
  | some (_, t0) =>
    if x.hung || decide (d.now < t0 + 8 * usEu) then d
    else ((d.onLawUnit u fun x => { x with hung := true }).raiseDev 0x2006 [BitVec.ofNat 8 u]).lameLaw u
def execLawUnitHung (t unit : Nat) (s : State) := run t (active (fLawUnitHung unit)) s

end Sys2Proof.Machine
end

