-- ==== Sys2Proof/Machine/RailStart.lean ====
section
/-! DEFINITION. A rail's own start (02_starting_and_stopping.md): the end of PROBE, the window search, slot delays, and the
way out of HICCUP; and the start-class fields that a start makes active (R39). -/

namespace Sys2Proof.Machine

/-! ### Start-class fields (R39, R434) -/

/-- Every start-class field: its register's address and the mask of its start-class bits. -/
def startFields : List (Nat × Nat) :=
  (regTable.filter fun r => r.start ≠ 0).flatMap fun r => r.addrs.map fun a => (a, r.start)

/-- The start-class fields of rail `n`. -/
def railStartFields (n : Nat) : List (Nat × Nat) :=
  [(aSYS_RAILSTART n, 0xFFFF0FFF), (aSYS_RAILTRACK n, 0xFFF3F), (aYARD_CFG n, 1), (aENG_CFG n, 0xFFF), (aLCP_RAILCFG n, 0xFFF0F)]

/-- Whether a start-class shadow differs from its active value. -/
def Dev.startDiffers (d : Dev) : Bool :=
  startFields.any fun x => blend x.2 (d.regs.act.rd x.1) (d.regs.hold.rd x.1) ≠ d.regs.act.rd x.1

/-- A new IN_DLY in force under lock: timebase time steps forward, by less than one SYNC_IN period, to where SYNC_IN's edges
delayed by it fall on multiples of MULT (R73, R115). No rail switches then (DESIGN CHOICE: log entry 84). -/
def Dev.takeDly (old : Nat) (d : Dev) : Dev :=
  if !d.tb.running || !d.tb.lock then d
  else
    let k : Int := (16 * ((old : Int) - d.regs.act.TB_SYNCIO_IN_DLY)) % ((16 * atLeast1 d.tb.mult : Nat) : Int)
    { d with tb.offset := d.tb.offset + k, tb.slewBase := d.tb.slewBase + k }

/-- The shadows of some start-class fields become active (R39). -/
def Dev.takeStart (fs : List (Nat × Nat)) (d : Dev) : Dev :=
  let act := fs.foldl (fun m x => m.wr x.1 (blend x.2 (m.rd x.1) (d.regs.hold.rd x.1))) d.regs.act
  let d := Dev.takeDly d.regs.act.TB_SYNCIO_IN_DLY { d with regs.act := act }
  { d with sys.pendingStart := d.sys.pendingStart && d.startDiffers }

/-! ### PROBE to RAMP (R27, R44, R56, R158) -/

/-- Entry to RAMP: the law starts afresh, the first job is marked, and the ages of TELEM start anew (R22, R158, R192,
R250). A rail that leaves OFF while its leader is already in REG ramps untracked at its own SS_SLEW: R56 states that of HICCUP alone
(DESIGN CHOICE: log entry 74). -/
def Dev.enterRamp (n : Nat) (d : Dev) : Dev :=
  let follow := (d.tracksPin n || (d.leaderOf n).any fun l => (d.rail l).state = .probe || (d.rail l).state = .ramp) &&
    !(d.rail n).untracked
  let fix (c : Cmd) : Cmd := if c.status = .held then { c with status := .ramping } else c
  let d := d.onRail n fun r =>
    { r with state := .ramp, mode := .linear, searched := false, coast := false, cmd := fix r.cmd,
             rdest := r.dest, rcls := r.cls, cmdAt := none, following := follow, ovRun := 0, uvRun := 0, ocRun := 0, otRun := 0,
             inRamp := 0, inside := 0, pgRun := 0, off := 0, offt := 0, tight := false }
  let d := d.onLaw n fun l =>
    { l with st := { l.st with x1 := 0, x2 := 0, y1 := 0, y2 := 0, outhi := false, outlo := false }, first := true,
             job := none, missDue := false, rebasePend := false, voided := false, handPend := false, swapped := false }
  let d := d.onYard n fun y => { y with linearSince := d.now, dwell := 0 }
  d.each (d.activeSet n) fun s d => d.onStall s fun x => { x with entered := d.now }

/-- The stalls of a yard still owe no switch-node answer (R44). -/
def Dev.probesDone (d : Dev) (n : Nat) : Bool :=
  (d.bound n).all fun s => (d.lane (s / 16)).asks.all fun a => a.pos ≠ s % 16 || a.kind ≠ .probe 1

/-- The leader that holds a follower's start, if it has one (R56, R60). -/
def Dev.leaderLost (d : Dev) (n : Nat) : Bool :=
  !(d.rail n).untracked && (d.leaderOf n).any fun l => (d.rail l).state = .hiccup || (d.rail l).state = .latched

/-- RAIL_PROBE (R27, R44): every answer has come or its stall has failed, and no follower is still in PROBE (R56). With too
few roles filled the rail goes to LATCHED (R141). A disable that came in PROBE acts now (R58), as does an input that is not good. -/
def fRailProbe (n : Nat) (d : Dev) : Dev :=
  if (d.rail n).state ≠ .probe || !d.probesDone n then d
  else if d.tooFew n then (d.checkShort n).pump
  else if (d.followersOf n).any (fun f => (d.rail f).state = .probe) then d
  else
    let d := d.enterRamp n
    let d := if !d.wantsOn n then d.stopRail n 1 false
      else if d.leaderLost n then d.beginStop n 2 false
      else if !d.inputGood then d.turnOffFor n [10]
      else d
    d.pump
def execRailProbe (t n : Nat) (s : State) := run t (active (fRailProbe n)) s

/-! ### The window search (R49, R51, R214) -/

/-- The search over conversions in order: the window's centre in mV, the run and sum of unsaturated conversions, and how
many the window has taken. `none` while it goes on, `some none` past the top window, else the measured code. -/
def searchWindows : List Int → Nat → Nat → Int → Nat → Option (Option Nat)
  | [], _, _, _, _ => none
  | c :: cs, centre, k, sum, i =>
    if c = 255 then (if centre = 1920 then some none else searchWindows cs (centre + 256) 0 0 0)
    else if c = -256 then
      if centre = 128 then some (some 0)
      else if i + 1 = 12 then some (some (2 * (centre - 128)))
      else searchWindows cs centre 0 0 (i + 1)
    else if k + 1 = 8 then some (some ((16 * (centre : Int) + (sum + c)) / 8).toNat)
    else if i + 1 = 12 then some (some (2 * (centre - 128)))
    else searchWindows cs centre (k + 1) (sum + c) (i + 1)

/-- The end of the search at a measured code (R49, R51, R189, R214). -/
def Dev.foundCode (n code : Nat) (d : Dev) : Dev :=
  let m := d.regs.act
  d.onRail n fun r =>
    let pos := if r.rdest ≤ code then 256 * r.rdest else 256 * code
    { r with searched := true, startCode := code, pos := pos, vt := pos / 256, droopc := 0,
             ovthr := min 4095 (code + m.XNT_WIN_OVW n), uvthr := code - m.XNT_WIN_UVW n,
             sum := 0, n := 0, cmin := 0, cmax := 0, sat := false }

/-- WINDOW_SEARCH (R49). -/
def fWindowSearch (n : Nat) (convs : List Int) (d : Dev) : Dev :=
  let r := d.rail n
  if r.state ≠ .ramp || r.searched then d
  else match searchWindows convs 128 0 0 0 with
    | none => d
    | some none => (d.turnOffFor n [4]).pump
    | some (some code) => d.foundCode n code
def execWindowSearch (t n : Nat) (convs : List Int) (s : State) := run t (active (fWindowSearch n convs)) s

/-! ### Slots (R54, R59) -/

/-- SEQUENCE_SLOT_DELAY (R54). -/
def fSequenceSlotDelay (n : Nat) (d : Dev) : Dev :=
  match (d.rail n).seqDue with
  | some t => if t ≤ d.now then (d.onRail n fun r => { r with seqDue := none }).pump else d
  | none => d
def execSequenceSlotDelay (t n : Nat) (s : State) := run t (active (fSequenceSlotDelay n)) s

/-- STOP_SLOT_DELAY (R59); a rail that is wanted again by then goes on. -/
def fStopSlotDelay (n : Nat) (d : Dev) : Dev :=
  match (d.rail n).stopDue with
  | some t =>
    if d.now < t then d
    else
      let d := d.onRail n fun r => { r with stopDue := none }
      if d.wantsOn n then d else (d.stopRail n 1 (d.rail n).coast).pump
  | none => d
def execStopSlotDelay (t n : Nat) (s : State) := run t (active (fStopSlotDelay n)) s

/-! ### Out of HICCUP (R27, R57, R252, R253) -/

/-- The hottest latest TEMP of a set of stalls. -/
def Dev.hottest (d : Dev) (set : List Nat) : Nat := (set.map fun s => (d.stall s).temp).foldl max 0

/-- Every release condition of R252 holds. -/
def Dev.released (d : Dev) (n : Nat) : Bool :=
  let r := d.rail n
  let m := d.regs.act
  d.inputGood &&
  (r.cause ≠ 6 || decide ((d.hottest (d.filled n) : Int) < (m.PROT_OT_RAILOT n : Int) - m.PROT_OT_OTREL n)) &&
  (r.cause ≠ 11 || !(d.prot.comps.getD (0x10 + r.extGpc) {}).level)

/-- A rail warm start begins: the rail's start-class fields become active, and whether it is untracked is judged (R32, R39,
R57). -/
def Dev.beginWarmRail (n : Nat) (d : Dev) : Dev := (d.takeStart (railStartFields n)).judgeTrack n

/-- A rail out of HICCUP enters PROBE, or OFF when it is not wanted (R27, R253). -/
def Dev.warmRail (n : Nat) (d : Dev) : Dev := if d.wantsOn n then d.enterProbe n else d.enterOff n

/-- HICCUP_TIME_EXPIRY (R27, R57, R252): OFF when the rail is not wanted; else a rail warm start, which waits in HICCUP until
the rail is released. -/
def fHiccupTimeExpiry (n : Nat) (d : Dev) : Dev :=
  let r := d.rail n
  if r.state ≠ .hiccup || r.hicOver || d.now < r.hicEnd then d
  else if !d.wantsOn n then (d.enterOff n).pump
  else
    let d := d.beginWarmRail n
    if d.released n then (d.warmRail n).pump else d.onRail n fun r => { r with hicOver := true }
def execHiccupTimeExpiry (t n : Nat) (s : State) := run t (active (fHiccupTimeExpiry n)) s

/-- RAIL_WARM_START (R252): a waiting rail finds every condition met. -/
def fRailWarmStart (n : Nat) (d : Dev) : Dev :=
  let r := d.rail n
  if r.state = .hiccup && r.hicOver && d.released n then (d.warmRail n).pump else d
def execRailWarmStart (t n : Nat) (s : State) := run t (active (fRailWarmStart n)) s

end Sys2Proof.Machine
end

