-- ==== Sys2Proof/Machine/Lcp.lean ====
section
/-! DEFINITION. The load command ports (06_voltage_commands.md): requests, their checks and responses, STEP_AHEAD and its
miss; and the wake from IDLE that a command can bring (R64). -/

namespace Sys2Proof.Machine

/-! ### Waking (R64, R68, R69) -/

/-- Whether wake source `bit` is enabled; EXTRACT#, bit 6, always is (R68). -/
def Dev.wakeOn (d : Dev) (bit : Nat) : Bool := bit = 6 || (fld (d.regs.act.rd aSYS_IDLECFG) 21 16).testBit bit

/-- Every PARKED lane begins to retrain, in parallel: phase 1 of R104 (R64). -/
def Dev.retrainParked (d : Dev) : Dev :=
  d.each (List.range 32) fun l d => d.onLane l fun x =>
    if x.state = .parked then { x with phase := 1, attempt := 1, attemptAt := d.now, holds := [] } else x

/-- A wake event: in IDLE an enabled source is recorded, and the first one begins the return to RUN (R64). -/
def Dev.wake (bit : Nat) (d : Dev) : Dev :=
  if d.sys.state = .idle && d.wakeOn bit then
    let d := d.stick aSYS_WAKE (2 ^ bit)
    let d := d.when d.sys.wakeAt.isNone Dev.retrainParked
    { d with sys.wakeCount := d.sys.wakeCount + 1, sys.wakeAt := some (d.sys.wakeAt.getD d.now) }
  else d

/-! ### Fields written by the device itself -/

/-- Bits [hi:lo] of a register in force, and of the host's copy, take a value at once. -/
def Dev.setLive (a hi lo v : Nat) (d : Dev) : Dev :=
  { d with regs.act := d.regs.act.wr a (setFld (d.regs.act.rd a) hi lo v),
           regs.hold := d.regs.hold.wr a (setFld (d.regs.hold.rd a) hi lo v) }

/-! ### Requests and responses (R195–R198) -/

/-- Only one member of a pair drives LDIO: in START the one whose role is the primary's and whose partner does not hold authority
(R200). -/
def Dev.drivesLdio (d : Dev) : Bool :=
  !d.inPair || (d.pair.settled && d.pair.primary && !(d.pair.partner.hello.any fun h => h.authority))

/-- Ports act on requests: not in a cold start before step 3 completes, in HALT, in STANDBY, or in the start of a member that is not
to be the primary (R195, R200). -/
def Dev.lcpServed (d : Dev) : Bool :=
  match d.sys.state with
  | .run => true
  | .idle => true
  | .start => (d.sys.kind ≠ 0 || 3 < d.sys.step) && d.drivesLdio
  | _ => false

/-- The bytes of a number, most significant first. -/
def msBytes (n v : Nat) : List Nat := (List.range n).map fun i => (v >>> (8 * (n - 1 - i))) % 256

/-- The 48 bits of a request (R196): `arg` is bits [36:8]. -/
def reqWord (op n seq arg : Nat) : Nat :=
  let w := (op % 16) * 2 ^ 36 + (n % 8) * 2 ^ 33 + (seq % 16) * 2 ^ 29 + arg % 2 ^ 29
  w * 256 + crc8 (msBytes 5 w)

/-- The 32 bits of a response (R196). -/
def respWord (status seq data : Nat) : Nat :=
  let w := (status % 16) * 2 ^ 20 + (seq % 16) * 2 ^ 16 + data % 2 ^ 16
  w * 256 + crc8 (msBytes 3 w)

def Dev.port (d : Dev) (k : Nat) : Port := d.ports.getD k {}
def Dev.onPort (k : Nat) (f : Port → Port) (d : Dev) : Dev := { d with ports := modAt d.ports k f }

/-- Drive a response (R196). -/
def Dev.respond (k seq status data : Nat) (d : Dev) : Dev :=
  d.onPort k fun p => { p with response := some (respWord status seq data) }

/-- Serve an intact request: REPEAT for one of the four stored kinds, then its checks, then its action (R198). `act` gives
DATA and the device after it. -/
def Dev.serve (k op n seq arg : Nat) (stored : Bool) (check : Dev → Nat) (act : Dev → Nat × Dev) (d : Dev) : Dev :=
  if !d.lcpServed || 4 ≤ k then d
  else
    let d := d.count (aLCP_REQCNT k)
    let raw := reqWord op n seq arg
    if stored && (d.port k).last = raw then (d.count (aLCP_REPEAT k)).respond k seq 1 (d.port k).lastData
    else
      let st := check d
      if st ≠ 0 then (d.count (aLCP_REJCNT k)).respond k seq st 0
      else
        let r := act d
        let d := (r.2.respond k seq 0 r.1).when (1 ≤ op && op ≤ 3) (Dev.delta (.cmd k raw))
        if stored then d.onPort k fun p => { p with last := raw, lastData := r.1 } else d

/-- The port is in use (R209). -/
def Dev.portEn (d : Dev) (k : Nat) : Bool := d.regs.act.LCP_PORTCFG_EN k = 1

/-- NOT_OWNER for a request that names a rail (R187, R198). -/
def Dev.ownCheck (d : Dev) (k n : Nat) : Nat := if d.portEn k && d.owner n = some k then 0 else 4

/-! ### The opcodes (R197) -/

/-- NOP. -/
def fNop (k n seq arg : Nat) (d : Dev) : Dev :=
  d.serve k 0 n seq arg false (fun d => if d.portEn k then 0 else 4) fun d => (d.sys.state.code, d)
def execNop (t port n seq arg : Nat) (s : State) := run t (fNop port n seq arg) s

/-- The action of an accepted SETV (R193, R427); a non-zero target wakes the device. -/
def Dev.actSetv (k n seq code cls : Nat) (notify : Bool) (d : Dev) : Dev :=
  let d := d.setDest n code cls seq k notify
  let d := if code ≠ 0 && d.regs.act.LCP_RAILCFG_LCP_ENABLE n = 1 then d.setLive (aSYS_RAILEN n) 15 8 0x80 else d
  (d.when (code ≠ 0) (Dev.wake 1)).pump

/-- SETV (R193): range is checked after ownership (R198). -/
def fSetv (k n seq code cls : Nat) (notify : Bool) (d : Dev) : Dev :=
  let arg := (code % 4096) * 2 ^ 17 + (cls % 16) * 2 ^ 13 + notify.toNat * 2 ^ 12
  d.serve k 1 n seq arg true
    (fun d => if d.ownCheck k n ≠ 0 then 4 else if d.inRange n (code % 4096) then 0 else 5)
    fun d => ((d.rail n).code, d.actSetv k n (seq % 16) (code % 4096) (cls % 16) notify)
def execSetv (t port n seq code cls : Nat) (notify : Bool) (s : State) := run t (fSetv port n seq code cls notify) s

/-- PSTATE (R201). -/
def fPstate (k n seq hint : Nat) (d : Dev) : Dev :=
  d.serve k 2 n seq ((hint % 8) * 2 ^ 26) true (fun d => d.ownCheck k n) fun d =>
    ((d.rail n).hint, d.onRail n fun r => { r with hintNext := some (hint % 8, d.now) })
def execPstate (t port n seq hint : Nat) (s : State) := run t (fPstate port n seq hint) s

/-- The action of an accepted STEP_AHEAD (R202, R205). -/
def Dev.actStep (n lead dir cls : Nat) (d : Dev) : Dev :=
  if cls = 0 then d.endWarn n false
  else
    let d := (d.count (aLCP_STEPCNT n)).recall n
    let d := d.onRail n fun r => { r with warn := some ⟨d.now, dir, cls, d.now + (lead + 1) * usEu, r.ir, false⟩ }
    match (d.rail n).mode with
    | .burst => d.endWarn n (dir = 0)
    | .cut => d.endWarn n (dir = 1)
    | _ => d

/-- STEP_AHEAD (R202, R205). -/
def fStepAhead (k n seq lead dir cls : Nat) (d : Dev) : Dev :=
  let arg := (lead % 64) * 2 ^ 23 + (dir % 2) * 2 ^ 22 + (cls % 16) * 2 ^ 18
  d.serve k 3 n seq arg true
    (fun d => if d.ownCheck k n ≠ 0 then 4 else if cls % 16 ≠ 0 && (d.rail n).state ≠ .reg then 6 else 0)
    fun d => (0, d.actStep n (lead % 64) (dir % 2) (cls % 16))
def execStepAhead (t port n seq lead dir cls : Nat) (s : State) := run t (fStepAhead port n seq lead dir cls) s

/-- The items of R199. -/
def Dev.queryItem (d : Dev) (k n item : Nat) : Nat :=
  let r := d.rail n
  match item with
  | 0 => r.cmd.seq * 2 ^ 12 + r.cmd.status.code * 2 ^ 9 + r.prev.seq * 2 ^ 5 + r.prev.status.code * 2 ^ 2
  | 1 => r.dest
  | 2 => r.code
  | 3 => r.state.code + (if r.state = .reg then r.mode.code else 0) * 2 ^ 4 + r.hint * 2 ^ 7 + r.pg.toNat * 2 ^ 10
  | 4 => min 0xFFFF (r.ir / 16).toNat
  | 5 => (d.stat (aLCP_ALERT k)).toNat % 32
  | _ => toBits 8 r.off + r.warn.isSome.toNat * 2 ^ 8

/-- QUERY (R199): items 7 to 15 are BAD_REQ; item 5 ignores RAIL and READMASK (R198). -/
def fQuery (k n seq item : Nat) (d : Dev) : Dev :=
  let i := item % 16
  d.serve k 4 n seq (i * 2 ^ 25) false
    (fun d => if 7 ≤ i then 3 else if d.portEn k && (i = 5 || (d.regs.act.LCP_PORTCFG_READMASK k).testBit n) then 0 else 4)
    fun d => (d.queryItem k n i, d)
def execQuery (t port n seq item : Nat) (s : State) := run t (fQuery port n seq item) s

/-- CLRALERT (R207): DATA is the causes before the clear. -/
def fClralert (k n seq mask : Nat) (d : Dev) : Dev :=
  d.serve k 5 n seq ((mask % 32) * 2 ^ 24) true (fun d => if d.portEn k then 0 else 4) fun d =>
    let a := aLCP_ALERT k
    ((d.stat a).toNat % 32, d.setStat a (d.stat a &&& ~~~(BitVec.ofNat 32 (mask % 32))))
def execClralert (t port n seq mask : Nat) (s : State) := run t (fClralert port n seq mask) s

/-! ### Requests that fail, and partial ones -/

/-- The ARG bits that must be 0, by opcode (R197). -/
def mustBeZero (op : Nat) : Nat :=
  match op with
  | 1 => 0x000FFF00
  | 2 => 0x3FFFFFF00
  | 3 => 0x3FFFF00
  | 4 => 0x1FFFFFF00
  | 5 => 0xFFFFFF00
  | _ => 0

/-- Status of a raw request that checks 0x2 and 0x3 of R198 turn away; 0 for one that passes them. -/
def rawStatus (raw : Nat) : Nat :=
  let w := raw / 256 % 2 ^ 40
  let op := raw / 2 ^ 44 % 16
  if crc8 (msBytes 5 w) ≠ raw % 256 then 2
  else if 6 ≤ op || raw &&& mustBeZero op ≠ 0 || (op = 4 && 7 ≤ raw / 2 ^ 33 % 16) then 3 else 0

/-- BAD_REQ (R198): CRC advances LCP_CRCERRk, BAD_REQ advances LCP_REJCNTk. -/
def fBadReq (k raw : Nat) (d : Dev) : Dev :=
  let st := rawStatus raw
  if !d.lcpServed || 4 ≤ k || st = 0 then d
  else ((d.count (aLCP_REQCNT k)).count (if st = 2 then aLCP_CRCERR k else aLCP_REJCNT k)).respond k (raw / 2 ^ 37 % 16) st 0
def execBadReq (t port raw : Nat) (s : State) := run t (fBadReq port raw) s

/-- LCP_ABORT (R195): the partial request is discarded and LDIO stays undriven. -/
def fLcpAbort (k : Nat) (d : Dev) : Dev :=
  if d.lcpServed && k < 4 then (d.count (aLCP_ABORT k)).onPort k fun p => { p with response := none } else d
def execLcpAbort (t port : Nat) (s : State) := run t (fLcpAbort port) s

/-! ### A step that does not come (R204) -/

/-- STEP_AHEAD_MISS: no arrival by the first boundary at or after ts + GRACE. -/
def fStepAheadMiss (n : Nat) (d : Dev) : Dev :=
  match (d.rail n).warn with
  | none => d
  | some w =>
    if (d.rail n).state = .reg && d.now % d.p n = 0 && w.ts + d.regs.act.LCP_STEPCFG_GRACE n * usEu ≤ d.now then
      (d.endWarn n false).alertOwner n 2
    else d
def execStepAheadMiss (t n : Nat) (s : State) := run t (active (fStepAheadMiss n)) s

end Sys2Proof.Machine
end

