-- ==== Sys2Proof/Machine/Xnt.lean ====
section
/-! DEFINITION. The transient path (07_transients_and_returned_energy.md): error conversions, episodes and their frames, and
the returned-energy bucket. -/

namespace Sys2Proof.Machine

def Dev.onComp (i : Nat) (f : Comparator → Comparator) (d : Dev) : Dev := { d with prot.comps := modAt d.prot.comps i f }

/-! ### The error converter (R211–R213, R255, R265) -/

/-- The word of the waveform ring at a conversion (R265). -/
def Dev.waveWord (d : Dev) (n : Nat) (c : Int) : Nat :=
  toBits 9 c + (d.comp n).level.toNat * 2 ^ 9 + (d.comp (8 + n)).level.toNat * 2 ^ 10 + (d.rail n).episodeCode * 2 ^ 11

/-- The waveform ring takes a word while it records: 3,200 words, newest first (R265). -/
def Dev.recordWave (n w : Nat) (d : Dev) : Dev :=
  let on := match d.prot.ring with
    | .armed => true
    | .closing t => decide (d.now < t)
    | .frozen => false
  if on then { d with prot.waves := modAt d.prot.waves n fun l => (w :: l).take 3200 } else d

/-- A conversion meets the overvoltage condition (R255). -/
def Dev.overVolt (d : Dev) (n : Nat) (c : Int) : Bool :=
  let m := d.regs.act
  decide ((atLeast1 (m.PROT_OV_OVF n) : Nat) ≤ c) ||
  (m.PROT_OV_OVABS n ≠ 0 && decide ((m.PROT_OV_OVABS n : Int) ≤ ((d.rail n).vt : Nat) + c))

/-- A conversion enters the open sample; saturated ones set their flags (R213, R225). -/
def Dev.accumulate (n : Nat) (c : Int) (d : Dev) : Dev :=
  let sat := c = -256 || c = 255
  let d := if sat then (d.stick (aXNT_STAT n) (if c = 255 then 0x20000 else 0x10000)).count (aXNT_SAT n) else d
  d.onRail n fun r =>
    { r with sum := r.sum + c, n := r.n + 1, cmin := if r.n = 0 then c else min r.cmin c,
             cmax := if r.n = 0 then c else max r.cmax c, sat := r.sat || sat }

/-- ERROR_CONVERSION (R211): every 20 ns, off in IDLE (R63). Conversions of the window search serve only the search. -/
def fErrorConversion (n : Nat) (code : Int) (d : Dev) : Dev :=
  if !d.tb.running || d.now % 1024 ≠ 0 || d.sys.state = .idle then d
  else
    let c := clampI (-256) 255 code
    let d := (d.onRail n fun r => { r with conv := c }).recordWave n (d.waveWord n c)
    let r := d.rail n
    let searching := r.state = .ramp && !r.searched
    let d := if searching then d else d.accumulate n c
    let live : Bool := (r.state = .ramp && r.searched) || r.state = .reg || r.state = .stop
    d.onRail n fun r => { r with ovRun := if live && d.overVolt n c then r.ovRun + 1 else 0 }
def execErrorConversion (t n : Nat) (code : Int) (s : State) := run t (fErrorConversion n code) s

/-! ### Episode frames (R132, R217–R221) -/

/-- The SEGOK values of the stalls of a set on one lane, from the lowest position's on (R218). -/
def Dev.segoks (d : Dev) (l : Nat) (set : List Nat) : List Nat :=
  ((set.filter fun s => s / 16 = l).map fun s => (d.stall s).segok).eraseDups

/-- The BURST frames of an episode: for each lane one for each SEGOK (R218). -/
def Dev.burstFrames (d : Dev) (n : Nat) (set : List Nat) : List (Nat × Body) :=
  let dur := atLeast1 (d.regs.act.XNT_BURST_DUR n)
  ((lanesOf set).filter d.laneUp).flatMap fun l =>
    (d.segoks l set).map fun k => (l, burstBody (posMask l (set.filter fun s => (d.stall s).segok = k)) dur k)

/-- Send the BURST frames of an episode's set; each stall's burst is remembered from the slot of its own frame (R476). Answers the
instant of the latest slot. -/
def Dev.sendBurst (n : Nat) (set : List Nat) (d : Dev) : Nat × Dev :=
  let fs := d.burstFrames n set
  let dur := atLeast1 (d.regs.act.XNT_BURST_DUR n)
  let d := d.each fs fun f d =>
    let d := (d.sendFor n 0 f.1 d.now f.2).count (aXNT_BFR n)
    let b : BurstSent := ⟨512 * d.slotOf f.1 f.2, dur, none⟩
    d.each (set.filter fun s => s / 16 = f.1 && (bfld f.2 54 39).testBit (s % 16)) fun s d =>
      d.onStall s fun x => { x with bursts := b :: x.bursts.filter fun e => d.now ≤ e.start + edgesKept }
  (d.frameInstant fs, d)

/-- Send the CUT frames of an episode's set (R219). Answers the instant of the latest slot. -/
def Dev.sendEpCut (n : Nat) (set : List Nat) (d : Dev) : Nat × Dev :=
  let c := d.cutClass n
  let fs := d.cutFrames (lanesOf set) set (atLeast1 (d.regs.act.XNT_CUT_DUR n)) c.1 c.2
  let d := d.sendCuts n set fs
  (d.frameInstant fs, d)

/-- The duration of an episode's frames, in eu. -/
def Dev.epDur (d : Dev) (n : Nat) (cut : Bool) : Nat :=
  16 * atLeast1 (if cut then d.regs.act.XNT_CUT_DUR n else d.regs.act.XNT_BURST_DUR n)

/-- Send the frames of an episode over its set: its first ones or a renewal (R217, R220). -/
def Dev.sendEpisode (n : Nat) (cut : Bool) (set : List Nat) (d : Dev) : Dev :=
  let still := set.filter (d.burstSet n).contains
  let r := if cut then d.sendEpCut n still else d.sendBurst n still
  let dur := d.epDur n cut
  r.2.onRail n fun x => { x with episode := some ⟨cut, r.1, dur, set⟩, nframes := x.nframes + 1 }

/-! ### Episodes (R216–R221, R225, R232) -/

/-- The dwell of comparator `i` is met and its edge has not yet been used. -/
def Dev.dwellMet (d : Dev) (i : Nat) : Bool :=
  let c := d.comp i
  c.level && !c.acted && decide (c.since + 1024 ≤ d.now)

/-- Whether an undershoot, or an overshoot, of rail `n` is acted on (R216). -/
def Dev.underActs (d : Dev) (n : Nat) : Bool := (d.rail n).state = .reg && d.regs.act.XNT_CFG_UV_EN n = 1
def Dev.overActs (d : Dev) (n : Nat) : Bool :=
  let r := d.rail n
  d.regs.act.XNT_CFG_OV_EN n = 1 &&
    (r.state = .reg || (r.state = .ramp && r.searched) || (r.state = .stop && !r.coast))

/-- An episode's start voids a hand-back in flight or pending (R225). -/
def Dev.voidHandBack (n : Nat) (d : Dev) : Dev :=
  let carries := (d.law n).handPend || (d.law n).job.any fun j => j.inp.handBack
  let strip (j : LawJob) : LawJob := { j with inp := { j.inp with handBack := false } }
  if carries then d.onLaw n fun l => { l with job := l.job.map strip, voided := true, handPend := false } else d

/-- What an episode does in REG beside its frames (R131, R204, R217, R225). -/
def Dev.episodeInReg (n : Nat) (cut : Bool) (d : Dev) : Dev :=
  let r := d.rail n
  let u := d.uNow n
  let d := (d.voidHandBack n).recall n
  let d := match r.warn with
    | some w => d.endWarn n ((w.dir = 0) != cut)
    | none => d
  d.onRail n fun x => { x with mode := if cut then .cut else .burst, uhold := u, inside := 0 }

/-- An episode starts (R217); one of the other kind ends without an end frame (R232). -/
def Dev.startEpisode (n : Nat) (cut : Bool) (d : Dev) : Dev :=
  let d := if (d.rail n).state = .reg then d.episodeInReg n cut else d
  let d := d.onRail n fun x => { x with nframes := 0, epSample := true }
  (d.count (if cut then aXNT_CEP n else aXNT_BEP n)).sendEpisode n cut (d.burstSet n)

/-- EPISODE_START (R216, R217): CUT wins when both dwells are met at once (R23, R232); a dwell met again within an episode of its
own kind starts none, because a short low interval did not end that one (R221). -/
def fEpisodeStart (n : Nat) (d : Dev) : Dev :=
  let lo := d.dwellMet n
  let hi := d.dwellMet (8 + n)
  let on (k : Bool) : Bool := (d.rail n).episode.any fun e => e.cut = k
  let cut := hi && d.overActs n && !on true
  let burst := lo && d.underActs n && !on false
  let use (c : Comparator) : Comparator := { c with acted := true }
  let d := (d.when lo (Dev.onComp n use)).when hi (Dev.onComp (8 + n) use)
  let d := if cut && burst then
      (d.stick (aXNT_STAT n) 0x40000).raise 0x1009 (d.gaRail n)
        (leBytes 4 (d.reg (0x90028 + 0x80 * n)).toNat ++ leBytes 4 (d.reg (0x9001C + 0x80 * n)).toNat)
    else d
  if cut then d.startEpisode n true else if burst then d.startEpisode n false else d
def execEpisodeStart (t n : Nat) (s : State) := run t (active (fEpisodeStart n)) s

/-- An episode's comparator is acted on in the state the rail is in now (R216). -/
def Dev.epActs (d : Dev) (n : Nat) (e : Episode) : Bool := if e.cut then d.overActs n else d.underActs n

/-- EPISODE_RENEWAL (R220): at ti + DUR the frames are renewed while the comparator is high, up to MAXN. An episode whose comparator
is no longer acted on ends there without a frame (R216; DEDUCED: log entry 114). -/
def fEpisodeRenewal (n : Nat) (d : Dev) : Dev :=
  match (d.rail n).episode with
  | none => d
  | some e =>
    let maxn := atLeast1 (if e.cut then d.regs.act.XNT_CUT_MAXN n else d.regs.act.XNT_BURST_MAXN n)
    if d.now < e.ti + e.dur || !(d.comp (if e.cut then 8 + n else n)).level then d
    else if !d.epActs n e then d.onRail n fun r => { r with episode := none }
    else if (d.rail n).nframes < maxn then d.sendEpisode n e.cut e.set
    else
      let d := (d.onRail n fun r => { r with episode := none }).stick (aXNT_STAT n) 0x80000
      d.raise 0x2002 (d.gaRail n) (leBytes 4 (d.reg (aXNT_STAT n)).toNat)
def execEpisodeRenewal (t n : Nat) (s : State) := run t (active (fEpisodeRenewal n)) s

/-- EPISODE_END (R221): the comparator has been low for 20 ns; end frames leave, where it is acted on (R216). -/
def fEpisodeEnd (n : Nat) (d : Dev) : Dev :=
  match (d.rail n).episode with
  | none => d
  | some e =>
    let c := d.comp (if e.cut then 8 + n else n)
    if c.level || d.now < c.since + 1024 then d
    else (d.when (d.epActs n e) (Dev.sendCut n e.set 0 false 0)).onRail n fun r => { r with episode := none }
def execEpisodeEnd (t n : Nat) (s : State) := run t (active (fEpisodeEnd n)) s

/-! ### Returned energy (R228, R229) -/

/-- Net power of the rails in RAMP, REG or STOP, or under CROWBAR at the code they were turned off at, over 1 µs, in 1/32,000 µJ
(R228, R246). -/
def Dev.pnet (d : Dev) : Int :=
  ((List.range 8).map fun n =>
    let r := d.rail n
    if r.state = .ramp || r.state = .reg || r.state = .stop then ((r.vt : Nat) : Int) * d.railCurrent n
    else if r.crowbar.isSome then ((r.code : Nat) : Int) * d.railCurrent n
    else 0).sum

/-- The CUT that a CUT episode is sent when the ceiling comes into force: the episode's latest frames are these now (R220, R229). -/
def Dev.ceilingCut (n : Nat) (d : Dev) : Dev :=
  match (d.rail n).episode with
  | some e =>
    if !e.cut then d
    else
      let set := e.set.filter (d.burstSet n).contains
      let fs := d.cutFrames (lanesOf set) set (e.dur / 16) false 0
      let d := d.sendCuts n set fs
      let ti := d.frameInstant fs
      d.onRail n fun r => { r with episode := some { e with ti := ti } }
  | none => d

/-- The ceiling comes into force or ends (R229). -/
def Dev.moveCeiling (d : Dev) : Dev :=
  if d.regs.act.XNT_RETCFG_EN = 0 then { d with ret.ceil := false }
  else if d.ret.ceil then (if d.ret.e < d.eknee then { d with ret.ceil := false } else d)
  else if d.ret.e < d.emax then d
  else
    let d := { d with ret.ceil := true }
    let d := (d.stick aXNT_RETSTAT 2).count aXNT_CEILCNT
    let d := d.raiseDev 0x2003 (leBytes 4 d.ret.acc)
    d.each (List.range 8) Dev.ceilingCut

/-- The rail currents of the present µs enter the rings, and the records that still gather them (R266). -/
def Dev.ringCurrents (d : Dev) : Dev :=
  let irs := (List.range 8).map d.railCurrent
  let d := d.each (List.range 8) fun n d => d.onRail n fun r => { r with irRing := (irs.getD n 0 :: r.irRing).take 32 }
  let add (p : List Int × Int) : List Int := if p.1.length < 64 then p.1 ++ [p.2] else p.1
  { d with prot.pending := d.prot.pending.map fun r => { r with rails := (r.rails.zip irs).map add } }

/-- RETURNED_ENERGY_UPDATE (R228): every 1 µs. -/
def fReturnedEnergyUpdate (d : Dev) : Dev :=
  if !d.tb.running || d.now % usEu ≠ 0 then d
  else
    let p := d.pnet
    let drain : Int := 32000 * (d.regs.act.XNT_RETCFG2_DRAIN : Nat)
    let d := if p < 0 then
        { d with ret.e := d.ret.e + (-p).toNat, ret.total := d.ret.total + (-p).toNat }
      else { d with ret.e := ((d.ret.e : Int) - (p + drain)).toNat }
    d.moveCeiling.ringCurrents
def execReturnedEnergyUpdate (t : Nat) (s : State) := run t (active fReturnedEnergyUpdate) s

end Sys2Proof.Machine
end

