-- ==== Sys2Proof/Machine/Prot.lean ====
section
/-! DEFINITION. Protection (08_protection_and_comparators.md): comparator edges and capture, the causes that turn a rail off,
CROWBAR renewals, and the last-fault records up to the loft. -/

namespace Sys2Proof.Machine

/-! ### Comparator edges (R237–R242) -/

/-- A capture entry (R239). -/
def capEntry (src : Nat) (level lost : Bool) (time : Nat) : BitVec 64 :=
  BitVec.ofNat 64 (src % 64 * 2 ^ 58 + level.toNat * 2 ^ 57 + lost.toNat * 2 ^ 56 + time % 2 ^ 56)

/-- An edge reaches the capture queue (R239, R240). -/
def Dev.captureEdge (src : Nat) (level : Bool) (d : Dev) : Dev :=
  if !(d.regs.act.PROT_CAPEN_MASK).testBit src then d
  else if d.prot.capture.length < 64 then
    { d with prot.capture := d.prot.capture ++ [capEntry src level d.prot.capLost d.now], prot.capLost := false }
  else
    let d := (d.count aPROT_CAPLOST).stick aPROT_CAPSTAT 0x100
    { d with prot.capLost := true }

/-- The rail comparators are off in IDLE (R63). -/
def Dev.compOff (d : Dev) (src : Nat) : Bool := d.sys.state = .idle && decide (src < 16)

/-- COMPARATOR_EDGE (R237): capture, PROT_IRQ, the edge counter, and a wake (R64). Before the timebase runs none of them acts
(R20). The severe comparator's active edge turns a closed gate off (R14, R285), that of a member that is not the input owner too (R385). -/
def fComparatorEdge (src : Nat) (level : Bool) (d : Dev) : Dev :=
  let d := d.when (src = 26 && level && !(d.comp 26).level && (d.hsw.state = .ramp || d.hsw.state = .on) && d.hsw.pendTrip = 0)
    fun d => { d with hsw.severe := true }
  let d := d.when (src = 26 && level && !(d.comp 26).level && d.inPair && !d.pair.owner) fun d => { d with hsw.sunk := true }
  if 27 ≤ src || d.compOff src || (d.comp src).level = level then d
  else if !d.tb.running then d.onComp src fun _ => { level := level, since := 0, acted := false }
  else
    let d := d.onComp src fun _ => { level := level, since := d.now, acted := false }
    let d := (d.captureEdge src level).count (aPROT_EDGECNT src)
    let d := d.when level (Dev.stick aPROT_IRQ (2 ^ src))
    let d := d.when (decide (16 ≤ src) && decide (src < 24)) (Dev.wake 3)
    let d := d.when (level && src = 24) (Dev.statusInput 0x40)
    let d := d.when (level && src = 25) (Dev.statusInput 0x20)
    d.when (src = 24 || src = 25) (Dev.wake 4)
def execComparatorEdge (t src : Nat) (level : Bool) (s : State) := run t (fComparatorEdge src level) s

/-- A read of PROT_CAPL: DATA is the oldest entry's low word, the high word is latched, and the entry is removed
(R241, R318). -/
def Dev.readCapl (d : Dev) : Word × Dev :=
  let e : BitVec 64 := match d.prot.capture with
    | e :: _ => e
    | [] => 0xFFFFFFFF00000000
  let hi := BitVec.ofNat 32 (e.toNat / 2 ^ 32)
  (BitVec.ofNat 32 e.toNat,
   { d with prot.capture := d.prot.capture.tail,
            regs := { d.regs with latch := d.regs.latch.wr aPROT_CAPH hi, fresh := aPROT_CAPH :: d.regs.fresh.erase aPROT_CAPH } })

/-! ### The causes (R245–R247) -/

/-- Turn rail `n` off for every cause found now, and let what waits for it go on (R244, R247). -/
def Dev.actCauses (n : Nat) (d : Dev) : Dev := (d.turnOffNow n).pump

/-- LAW_DEADLINE_TURN_OFF (R164): a miss has brought MISSRUN to MISS_MAX. -/
def fLawDeadlineTurnOff (n : Nat) (d : Dev) : Dev := if d.runs n && d.missMet n then d.actCauses n else d
def execLawDeadlineTurnOff (t n : Nat) (s : State) := run t (active (fLawDeadlineTurnOff n)) s

/-- The LIM of a stall's newest valid TELEM received before the counting instant (R250). -/
def Dev.limOf (d : Dev) (s : Nat) : Bool :=
  let x := d.stall s
  if x.telemAt = some d.now then x.limPrev else x.lim

/-- LIMITED_INTERVAL_COUNT (R250, R259): at each multiple of Tp, in RAMP and REG; in HICCUP HOT alone stays current. -/
def fLimitedIntervalCount (n : Nat) (d : Dev) : Dev :=
  let m := d.regs.act
  if !d.tb.running || d.now % d.tp n ≠ 0 then d
  else
    let set := d.activeSet n
    let hot := d.hottest set
    if d.runs n then
      let k := (set.filter d.limOf).length
      let limited := !set.isEmpty && decide (atLeast1 (m.PROT_OC_SHARE n) * set.length ≤ k * 256)
      let d := d.onRail n fun r =>
        { r with ocRun := if limited then r.ocRun + 1 else 0, hot := hot,
                 otRun := if m.PROT_OT_RAILOT n ≤ hot then r.otRun + 1 else 0 }
      d.when (limited && !d.isStandby) (Dev.count (aPROT_LIMP n))
    else if (d.rail n).state = .hiccup then d.onRail n fun r => { r with hot := hot }
    else d
def execLimitedIntervalCount (t n : Nat) (s : State) := run t (fLimitedIntervalCount n) s

/-- OVERCURRENT_TURN_OFF (R250). -/
def fOvercurrentTurnOff (n : Nat) (d : Dev) : Dev := if d.runs n && d.ocMet n then d.actCauses n else d
def execOvercurrentTurnOff (t n : Nat) (s : State) := run t (active (fOvercurrentTurnOff n)) s

/-- RAIL_OVER_TEMPERATURE (R259). -/
def fRailOverTemperature (n : Nat) (d : Dev) : Dev := if d.runs n && d.otMet n then d.actCauses n else d
def execRailOverTemperature (t n : Nat) (s : State) := run t (active (fRailOverTemperature n)) s

/-- OVERVOLTAGE (R255): in RAMP after the search, REG and STOP. -/
def fOvervoltage (n : Nat) (d : Dev) : Dev :=
  let r := d.rail n
  if ((r.state = .ramp && r.searched) || r.state = .reg || r.state = .stop) && d.ovMet n then d.actCauses n else d
def execOvervoltage (t n : Nat) (s : State) := run t (active (fOvervoltage n)) s

/-- UNDERVOLTAGE (R257). -/
def fUndervoltage (n : Nat) (d : Dev) : Dev := if d.uvMet n then d.actCauses n else d
def execUndervoltage (t n : Nat) (s : State) := run t (active (fUndervoltage n)) s

/-- GPC_PERSISTENCE (R261): every rail of RAILMASK in RAMP or REG is turned off with cause EXT. -/
def fGpcPersistence (k : Nat) (d : Dev) : Dev :=
  let a := d.regs.act.PROT_GPC_ACTION k
  if (a = 1 || a = 2) && d.gpcMet k then
    d.each ((maskList 8 (d.regs.act.PROT_GPC_RAILMASK k)).filter d.runs) fun n d => if d.runs n then d.actCauses n else d
  else d
def execGpcPersistence (t k : Nat) (s : State) := run t (active (fGpcPersistence k)) s

/-! ### CROWBAR (R246) -/

/-- CROWBAR_RENEWAL: at ti + DUR the next CUT, or after the last the HARD frame. -/
def fCrowbarRenewal (n : Nat) (d : Dev) : Dev :=
  match (d.rail n).crowbar with
  | none => d
  | some c =>
    if d.now < c.ti + 16 * c.dur then d
    else if c.sent < atLeast1 (d.regs.act.PROT_OV_NCUT n) then
      d.crowbarFrame n (c.sent + 1) c.inReg
    else (d.hardStop n).onRail n fun r => { r with crowbar := none }
def execCrowbarRenewal (t n : Nat) (s : State) := run t (active (fCrowbarRenewal n)) s

/-! ### Last-fault records (R265–R268) -/

/-- RING_FREEZE (R265): 32 µs after tf. -/
def fRingFreeze (d : Dev) : Dev :=
  match d.prot.ring with
  | .closing t => if t ≤ d.now then { d with prot.ring := .frozen } else d
  | _ => d
def execRingFreeze (t : Nat) (s : State) := run t fRingFreeze s

/-- Byte `i` of a record's values given as (offset, size, value). -/
def valueByte (vs : List (Nat × Nat × Nat)) (i : Nat) : Byte :=
  match vs.find? (fun v => v.1 ≤ i && i < v.1 + v.2.1) with
  | some v => BitVec.ofNat 8 (v.2.2 >>> (8 * (i - v.1)))
  | none => 0

/-- Bytes of a list of numbers of `w` bytes each, cut or filled with zeros to `k` numbers. -/
def packNums (w k : Nat) (l : List Nat) : List Byte := ((l ++ List.replicate k 0).take k).flatMap (leBytes w)

/-- Bytes 0x0000–0x05FF of a record from its values; bytes 0x0600–0x15FF are the stalls' (R266). -/
def LfRec.head (r : LfRec) : List Byte :=
  let vs := r.words.filter fun v => v.1 < 0x600
  (List.range 0x600).map (valueByte vs)

/-- The 64 KB of a record; SEQ first (R266). `waves` is the ring, newest first. -/
def LfRec.bytes (r : LfRec) (waves : List (List Nat)) : List Byte :=
  let stalls := (r.words.filter fun v => 0x600 ≤ v.1).map (·.2.2)
  let rails := r.rails.flatMap fun l => packNums 4 64 (l.map (toBits 32))
  let ins := r.inputs.flatMap fun x => leBytes 2 x.1 ++ leBytes 2 (toBits 16 x.2.1) ++ leBytes 2 x.2.2 ++ [0, 0]
  let wave := if r.wave then waves.flatMap fun l => packNums 2 3200 l.reverse else List.replicate 51200 0
  let body := (r.head ++ packNums 8 512 stalls ++ rails ++ (ins ++ List.replicate 128 0).take 128 ++
    List.replicate 5504 0 ++ wave ++ List.replicate 1020 0).drop 4
  leBytes 4 r.seq ++ body ++ leBytes 4 (crc32 body)

/-- The loft address of a record's slot (R267). -/
def lfAddr (slot : Nat) : Nat := 0x2100000 + 0x10000 * slot

/-- Body, CRC, then SEQ of a 64 KB record at an address (R267, R378). -/
def recordSteps (a : Nat) (bs : List Byte) : List (Nat × List Byte) :=
  chunks (a + 4) ((bs.drop 4).take 0xFFF8) 17 ++ [(a + 0xFFFC, bs.drop 0xFFFC), (a, bs.take 4)]

/-- The record at the front is done with: the ring re-arms if the record holds its waveform (R265). -/
def Dev.popRecord (d : Dev) : Dev :=
  let wave := (d.prot.pending.head?).any (·.wave)
  let d := { d with prot.pending := d.prot.pending.tail, prot.writing := false }
  if wave then { d with prot.ring := .armed } else d

/-- Whether the record at the front is whole: its waveform frozen, and its currents and input samples gathered. -/
def Dev.recordReady (d : Dev) (r : LfRec) : Bool :=
  (!r.wave || d.prot.ring = .frozen) && (!d.tb.running || decide (r.tf + 64 * usEu ≤ d.now))

/-- A record's SEQ becomes `q`: the record itself, its reference when it holds the waveform, and the references of later ones
(R266, R267). -/
def LfRec.reSeq (old q : Nat) (r : LfRec) : LfRec :=
  let fix (v : Nat × Nat × Nat) : Nat × Nat × Nat := if v.1 = 0x24 && v.2.2 = old then (0x24, 4, q) else v
  { r with words := r.words.map fix, seq := if r.seq = old then q else r.seq }

/-- The oldest record takes the SEQ that follows the highest valid one (R267). -/
def Dev.settleSeq (d : Dev) : Dev :=
  let old := d.prot.pending.head?.elim 0 (·.seq)
  let q := lfHigh d.prot.lfSlots + 1
  if old = q then d
  else { d with prot.pending := d.prot.pending.map (LfRec.reSeq old q), prot.waveSeq := if d.prot.waveSeq = old then q else d.prot.waveSeq }

/-- A number of `n` bytes at offset `a` of some bytes. -/
def numAt (b : List Byte) (a n : Nat) : Nat := leNat ((b.drop a).take n)

/-- SEQ of a 64 KB record at an address, if its CRC checks (R266, R267, R378). -/
def Loft.record64 (l : Loft) (m : Memory) (a : Nat) : Option Nat :=
  let b := l.read m a 0x10000
  if (l.failsIn a 0x10000).isEmpty && crc32 ((b.drop 4).take 0xFFF8) = numAt b 0xFFFC 4 then some (numAt b 0 4) else none

/-- The last-fault slots and the newest record are read (R267, R272, R336). -/
def Dev.scanSlots (m : Memory) (d : Dev) : Dev :=
  let slots := (List.range 16).map fun k => d.loft.record64 m (lfAddr k)
  let high := slots.foldl (fun x s => max x (s.getD 0)) 0
  let d := d.noteRead (lfAddr 0) 0x100000
  { d with prot.lfSlots := slots, prot.scanned := true, prot.lfSeq := high,
           prot.slot := if high = 0 then 0 else (slots.findIdx? (· = some high)).getD 0 }

/-- LAST_FAULT_RECORD_WRITE (R267): the oldest record's write is handed to the loft, after the slots have been read if no start has
yet; without a port it waits, and under block protection no record is written. -/
def fLastFaultRecordWrite (m : Memory) (d : Dev) : Dev :=
  match d.prot.pending with
  | [] => d
  | r :: _ =>
    if d.prot.writing || !d.recordReady r || (!d.prot.scanned && !d.loft.portOk) then d
    else
      let d := (d.when (!d.prot.scanned) (Dev.scanSlots m)).settleSeq
      let r := d.prot.pending.headD r
      let slot := lfChoose d.prot.lfSlots
      if d.loft.bp = 3 then (d.raiseDev 0x2013 [BitVec.ofNat 8 slot]).popRecord
      else
        let d := d.loftJob { prio := 0, tag := .lastFault, req := .plain, steps := recordSteps (lfAddr slot) (r.bytes d.prot.waves), begun := false }
        { d with prot.writing := true }
def execLastFaultRecordWrite (t : Nat) (s : State) := runRead t fLastFaultRecordWrite s

end Sys2Proof.Machine
end

