-- ==== Sys2Proof/Machine/LaneOps.lean ====
section
/-! DEFINITION. Lane training and its end (R102–R104, R107, R109), the return of a lane's stalls (R140), and the shared
parts of a start: leaving RUN, the steps that complete of themselves, and HALT (R25, R32–R39, R389). -/

namespace Sys2Proof.Machine

/-! ### Training (R104, R107) -/

/-- Training attempts; 0 acts as 1 (R117). -/
def Dev.trainTries (d : Dev) : Nat := atLeast1 d.regs.act.LANE_GCFG_TRAIN_TRIES

/-- An attempt of the whole sequence begins at phase 1; frames that wait are withdrawn. -/
def Dev.beginAttempt (l k : Nat) (d : Dev) : Dev :=
  (d.dropTx l fun _ => true).onLane l fun x =>
    { x with phase := 1, attempt := k, attemptAt := d.now, asks := [], holds := [], claims := 0 }

/-- A lane enters TRAINING (R107); the stages keep the authority they hold (R100). TRIES counts from 0 again already here, before the
lane has trained (DESIGN CHOICE: log entry 106). -/
def Dev.trainLane (l : Nat) (d : Dev) : Dev :=
  (d.onLane l fun x => { x with state := .training, lame := false, tries := 0 }).beginAttempt l 1

/-- A lane that is DOWN retrains, or is RETIRED once RETRAIN_MAX retrainings have failed (R107). -/
def Dev.retrainLane (l : Nat) (d : Dev) : Dev :=
  if d.regs.act.LANE_GCFG_RETRAIN_MAX ≤ (d.lane l).tries then d.retireLane l none
  else (d.onLane l fun x => { x with tries := x.tries + 1 }).beginAttempt l 1

/-- The yards after stalls of a lane have failed: R141, and the vacancies (R138). -/
def Dev.afterLoss (d : Dev) : Dev := ((d.each (List.range 8) Dev.checkShort).each (List.range 8) Dev.afterChange).pump

/-- A lane enters DOWN from UP or PARKED (R107, R109, R110): queued EDGE frames are discarded, one CUT leaves, also where
RETRAIN_MAX 0 retires the lane at once, the lame retirement and every return that was pending on it or taken by a boundary decided
are void, its stalls have failed (in STANDBY they are the primary's, R400), and retraining begins. TRIES starts at 0 here, so that a
wake retraining that failed does not count as a retraining (DESIGN CHOICE: log entry 78). -/
def Dev.downLane (l : Nat) (d : Dev) : Dev :=
  let edges := ((d.lane l).tx.filter fun g => decide (d.now ≤ 512 * g.slot) && g.isEdge).length
  let d := d.when (edges ≠ 0) (Dev.count (aLANE_EDGEDROP l) edges)
  let d := d.dropTx l fun _ => true
  let d := d.onLane l fun x => { x with state := .down, lame := false, cause := 1, tries := 0 }
  let d := (d.raise 0x1004 (d.gaLane l) [1]).count (aLANE_DOWNCNT l)
  let stays (c : Change) : Bool := !((c.kind = .lane && c.id = l) || (c.kind = .giveBack && c.id / 16 = l))
  let d := d.each (List.range 8) fun n d =>
    d.onYard n fun y => { y with pend := y.pend.filter stays, taking := y.taking.filter stays }
  let d := d.when (decide (d.sys.state ≠ DevState.standby)) (Dev.failLaneStalls l (List.range 8))
  ((d.retrainLane l).when (!d.isStandby) (Dev.send l (cutBody 0xFFFF 0 false 0))).afterLoss

/-- An attempt fails: the next one begins, or the training has failed (R104, R107). -/
def Dev.failAttempt (l : Nat) (d : Dev) : Dev :=
  let x := d.lane l
  if x.attempt < d.trainTries then d.beginAttempt l (x.attempt + 1)
  else match x.state with
    | .training => (d.retireLane l (some 2)).afterLoss
    | .down => d.retrainLane l
    | .parked => d.downLane l
    | _ => d

/-- The ID_CHK of a position's census answer checks (R94). -/
def Lane.idOk (x : Lane) (p : Nat) : Bool :=
  let w (k : Nat) : Nat := (x.census.rd (4 * p + k)).toNat
  let bytes := (List.range 3).flatMap fun k => (List.range 4).map fun i => (w k >>> (8 * i)) % 256
  (List.range 4).all (fun k => x.censusOk.testBit (4 * p + k)) && crc8 bytes = w 3 % 256

/-- Whether the image populates a position of a lane. -/
def Dev.popBit (d : Dev) (l p : Nat) : Bool := (d.regs.act.LANE_CFG_POP l).testBit p

/-- The positions of POP that answered the census. -/
def Dev.answering (d : Dev) (l : Nat) : List Nat :=
  (List.range 16).filter fun p => d.popBit l p && (d.lane l).present.testBit p

/-- Phase 3: every position of POP is asked for words 0 to 3. -/
def Dev.askCensus (l : Nat) (d : Dev) : Dev :=
  let d := d.onLane l fun x =>
    { x with phase := 3, present := 0, census := [], censusOk := 0, badId := 0, unanswered := 0, unacked := 0 }
  d.each ((List.range 16).filter (d.popBit l)) fun p d => d.each (List.range 4) fun w d => d.ask l p (.census w)

/-- TERM of a claim: 1 on a single device, else one more than the greater held TERM, and after a claim that no position followed
0x100 more than that claim's (R102, R390). -/
def Dev.claimTerm (d : Dev) (l : Nat) : Nat :=
  if !d.inPair then 1
  else if (d.lane l).claims = 0 then (max d.pair.term (d.pair.partner.hello.elim 0 (·.term)) + 1) % 65536
  else ((d.lane l).term + 0x100) % 65536

/-- Phase 4: AUTH CLAIM. -/
def Dev.sendClaim (l : Nat) (d : Dev) : Dev :=
  let term := d.claimTerm l
  (d.onLane l fun x => { x with phase := 4, term := term }).send l (claimBody term d.dom.id)

/-- The OFFSET written to each answering position of a lane, as JOIN carries it (R393); COMP is 0 from here on (R402). -/
def Dev.noteOffsets (l : Nat) (d : Dev) : Dev :=
  let own : RMap := if d.inPair then (d.answering l).map fun p => (16 * l + p, BitVec.ofInt 32 (d.offset l p + 1)) else []
  { d with pair.offsets := own ++ d.pair.offsets.filter fun o => o.1 / 16 ≠ l }

/-- Phase 5: every parameter goes to each answering position. -/
def Dev.sendParams (l : Nat) (d : Dev) : Dev :=
  let d := d.onLane l fun x => { x with phase := 5, unacked := 0, held := x.held || !d.inPair }
  let d := d.noteOffsets l
  d.each (d.answering l) fun p d =>
    d.each (List.range 13) fun k d => d.ask l p (.cfg k (d.cfgValue (16 * l + p) k))

/-- The end of phase 5: with no acknowledgement at all, where no position answers too, a member claims again, up to 3 times; a
claim that succeeds sets the held TERM, which no other lane's claim lowers (R390). -/
def Dev.endParams (l : Nat) (d : Dev) : Dev :=
  let x := d.lane l
  let ps := d.answering l
  let none_ := ps.all fun p => x.unacked.testBit p
  if d.inPair && none_ && x.claims < 3 then (d.onLane l fun x => { x with claims := x.claims + 1 }).sendClaim l
  else
    let d := d.onLane l fun x => { x with phase := 6, held := x.held || !none_ }
    if d.inPair && !none_ then { d with pair.term := max d.pair.term (d.lane l).term } else d

/-- The stalls of a lane that has returned to UP are probed and offered back (R140): every one that failed with the lane, cause 5, and
answers with a good identity and acknowledged. One that failed for another cause stays FAILED (R260), and one RETIRED for wear does
not return. -/
def Dev.offerBack (l : Nat) (d : Dev) : Dev :=
  let x := d.lane l
  d.each ((d.answering l).filter fun p => x.idOk p && !x.unacked.testBit p) fun p d =>
    let s := 16 * l + p
    let st := d.stall s
    if (d.railOf s).isSome && st.state = .failed && st.cause = 5 then
      (d.onStall s fun y => { y with returning := 1 }).askStall s (.probe 0)
    else d

/-- The lane is UP (R107): LANE_UP from TRAINING; from DOWN its stalls are offered back. CAUSE stays what the last leaving of UP or
TRAINING that has a code left in it (DESIGN CHOICE: log entry 106). -/
def Dev.laneTrained (l : Nat) (d : Dev) : Dev :=
  let was := (d.lane l).state
  let d := d.onLane l fun x => { x with state := .up, upAt := d.now, phase := 0, attempt := 0, tries := 0, holds := [], claims := 0 }
  if was = .training then d.raise 0x3002 (d.gaLane l) (leBytes 4 (satU 16 (d.lane l).rt))
  else if was = .parked || d.isStandby then d else d.offerBack l

/-- RT from 16 timestamped returns, if each lies within 2 coarse steps of their mean (R104). -/
def meanRt (marks : List Nat) : Option Nat :=
  let s := marks.sum
  if marks.length = 16 && marks.all (fun m => decide (16 * m ≤ s + 512) && decide (s ≤ 16 * m + 512)) then some (s / 16) else none

/-! ### A start (R25, R32–R39) -/

/-- What step 1 waits for (R35), and the end of the bleed that an extraction commanded (R302). -/
def Dev.step1Ok (d : Dev) : Bool :=
  d.pins.supplies && d.pins.vaux && !d.pins.resetLow && !d.pins.extractLow && d.pins.above && !d.hsw.extBleed

/-- A step begins: its limits are timed from now (R37). -/
def Dev.toStep (k : Nat) (d : Dev) : Dev := { d with sys.step := k, sys.stepAt := d.tb.wall, sys.tail := false }

/-- Whether this start retrains a lane: every lane at a cold start or under WARM_RETRAIN_ALL, else one that is RETIRED,
DOWN or, out of IDLE, PARKED (R32, R42). -/
def Dev.retrains (d : Dev) (l : Nat) : Bool :=
  let st := (d.lane l).state
  d.sys.kind = 0 || d.regs.act.SYS_STARTCFG_WARM_RETRAIN_ALL = 1 || st = .retired || st = .disabled || st = .parked

/-- Step 6 begins: the lanes in use train in parallel (R104, R107); one that is DOWN goes on retraining. A lane out of use
keeps its state, which no event of R107's table changes (log entry 88). -/
def Dev.enterStep6 (d : Dev) : Dev :=
  (d.toStep 6).each (List.range 32) fun l d =>
    if d.regs.act.LANE_CFG_EN l = 0 then d.onLane l fun x => { x with trained := decide (d.sys.kind = 0) }
    else if d.retrains l then (d.trainLane l).onLane l fun x => { x with trained := true }
    else d.onLane l fun x => { x with trained := decide (x.state = .down) }

/-- A pair member's role in a start that keeps its image: standby when the partner holds authority or, both being in
START, by strap; else as it was (R389, R403). A standby whose image differs sets MISMATCH. -/
def Dev.warmRole (d : Dev) : Dev :=
  if !d.inPair then d
  else
    let prim := match d.pair.partner.hello with
      | none => d.pair.primary
      | some h => if h.authority then false else if h.state = 0 then decide (d.pins.role = 1) else d.pair.primary
    let diff := d.pair.partner.hello.any fun h => decide (h.seq ≠ d.sys.imageSeq) || decide (h.bodyCrc ≠ d.sys.imageCrc)
    { d with pair.primary := prim, pair.settled := true, pair.mismatch := !prim && diff }

/-- A link that is down begins to train (R386, R407). -/
def Link.train (x : Link) : Link := if x.state = 0 then { x with state := 1 } else x

/-- Step 2 completes (R37): the pair link trains from here; a cold start goes to step 3, a warm one to step 6. -/
def Dev.endStep2 (d : Dev) : Dev :=
  let d := if d.inPair then { d with pair.link := d.pair.link.train } else d
  if d.sys.kind = 0 then d.toStep 3 else d.warmRole.fieldSession.enterStep6

/-- Step 1 completes when all it waits for holds: at a cold start the loft port answers, and the protection word is read
(R340, R356), and the domain ports train; under lock step 2 completes at once (R35, R73). -/
def Dev.tryStep1 (d : Dev) : Dev :=
  if d.sys.state = .start && d.sys.step = 1 && d.step1Ok then
    let d := { d with dom.dup := d.dom.dup.train, dom.ddn0 := d.dom.ddn0.train, dom.ddn1 := d.dom.ddn1.train }
    let d := (d.toStep 2).when (d.sys.kind = 0) fun d =>
      { d with loft.portOk := true, loft.bp := d.loft.bpWord, evt.unusable := !d.evt.latches.isEmpty }
    if d.tb.running && d.tb.lock then d.endStep2 else d
  else d

/-- A standby leaves STANDBY: the states its rails took from commits are forgotten, and the commands in force wait for the next ramp
(R208). -/
def Dev.dropMirror (d : Dev) : Dev :=
  d.each (List.range 8) fun n d =>
    let d := d.onRail n fun r => { r with state := .off, mode := .linear, pg := false }
    if (d.rail n).dest = 0 then d.reach n else d.holdCmd n

/-- A device warm start begins at step 1: every rail is off, held start-class values become active, and what SYS_STARTLOG
says of the last start's steps returns to 0, as do the hints and the returned-energy bucket (R25, R27, R39, R66, R201, R228,
R244). -/
def Dev.warmStart (kind : Nat) (d : Dev) : Dev :=
  let d := d.closeSession 3
  let d := if d.isStandby then d.dropMirror else d.stopAll
  let d := d.takeStart startFields
  let d := d.setStat aSYS_STARTLOG (d.stat aSYS_STARTLOG &&& 0xF000000F)
  let d := { d with sys.state := .start, sys.kind := kind, sys.wakeAt := none, sys.idleSince := none, meas.seq := none, mgmt.page := 0,
                    ret.e := 0, rails := d.rails.map fun (r : Rail) => { r with hint := 0, hintNext := none } }
  (d.toStep 1).tryStep1

/-- A start is sent back to step 1 and waits there, as the same kind of start (R25). -/
def Dev.backToStep1 (d : Dev) : Dev := ((d.closeSession 3).toStep 1).tryStep1

/-- A step fails and the device enters HALT (R25, R66, R264). -/
def Dev.enterHalt (step : Nat) (d : Dev) : Dev :=
  let d := d.setStatFld aSYS_STARTLOG 31 28 step
  let d := { d with sys.state := .halt }
  (d.makeRecord none (0xF0 + step) 4 0).raiseDev 0x1002 [BitVec.ofNat 8 step]

/-- The device leaves RUN for a supervisor fall or an extraction: START at step 1, or HALT as it is (R25). -/
def Dev.leaveForInput (d : Dev) : Dev :=
  match d.sys.state with
  | .run => d.warmStart 3
  | .standby => d.warmStart 3
  | .idle => d.warmStart 3
  | .start => d.backToStep1
  | .halt => d

end Sys2Proof.Machine
end

