-- ==== Sys2Proof/Machine/Lanes.lean ====
section
/-! DEFINITION. The lanes' commands (03_timebase_and_lanes.md): frames received and sent, answers owed, training, loss of
lock, and the wake of the parked lanes. -/

namespace Sys2Proof.Machine

/-! ### Upstream frames (R83, R84, R105) -/

/-- A frame of a type from a position arrives: a failing CRC is counted and the frame dropped; a valid one is counted, and
`f` acts on one of the type from positions 0 to 15. One that names a position of 16 to 30 is counted as valid too (DESIGN CHOICE:
log entry 105). -/
def Dev.upstream (l type : Nat) (b : Body) (f : Nat → Dev → Dev) (d : Dev) : Dev :=
  let st := (d.lane l).state
  if 32 ≤ l || st = .disabled || st = .retired || (st = .parked && (d.lane l).phase = 0) then d
  else if !bodyOk b then d.count (aLANE_CRCERR l)
  else
    let d := d.count (aLANE_RXFR l)
    if bfld b 63 60 = type && bfld b 59 55 < 16 then f (bfld b 59 55) d else d

/-- The wear that one TELEM adds, in 2⁻³² wu (R133). A stage rated 0 A has no stated stress: a free value. -/
def Dev.wearOf (d : Dev) (s tp : Nat) (cur : Int) (temp : Nat) : Nat :=
  let r := d.rated s
  let e := (clampI (-4) 4 (((temp : Int) - d.regs.act.YARD_WEARGCFG_TREF) / 10) + 4).toNat
  if r = 0 then Config.wearWithoutRating s
  else cur.natAbs * cur.natAbs * 2 ^ e * tp * 2 ^ 32 / (16 * 256 * r * r * secEu)

/-- OTW goes from 0 to 1 (R258). -/
def Dev.overTempWarn (s temp : Nat) (d : Dev) : Dev :=
  let d := d.raise 0x2004 (d.gaStall s) [BitVec.ofNat 8 temp]
  match d.railOf s with
  | some n => (d.statusOtw n).stick (aPROT_STAT n) 0x4000000
  | none => d

/-- A TELEM's fields become the stall's latest (R92, R22); in the active set it adds wear (R133). -/
def Dev.takeTelem (s : Nat) (b : Body) (d : Dev) : Dev :=
  let cur := signed 12 (bfld b 54 43)
  let temp := bfld b 42 35
  let warned := bfld b 24 24 = 1 && !(d.stall s).otw
  let bit (k : Nat) : Bool := bfld b k k = 1
  let worn := match d.railOf s with
    | some n => if ((d.stall s).shown d.now).active then d.wearOf s (d.tp n) cur temp else 0
    | none => 0
  let d := d.onStall s fun x =>
    { x with telemAt := some d.now, cur := cur, temp := temp, ptag := bfld b 34 27, limPrev := x.lim, lim := bit 26,
             nlim := bit 25, otw := bit 24, flt := bit 23, late := bit 22, crcDrop := bit 21, fresh := true,
             acc := x.acc + worn }
  d.when warned (Dev.overTempWarn s temp)

/-- TELEM_RECEIVE (R92). -/
def fTelemReceive (l : Nat) (b : Body) (d : Dev) : Dev := d.upstream l 8 b fun p d => d.takeTelem (16 * l + p) b
def execTelemReceive (t lane : Nat) (body : Body) (s : State) := run t (fTelemReceive lane body) s

/-! ### Answers (R93, R94, R474) -/

/-- A STATUS of a kind from a position. -/
def Dev.statusFrame (l kind : Nat) (b : Body) (f : Nat → Dev → Dev) (d : Dev) : Dev :=
  d.upstream l 9 b fun p d => if bfld b 54 51 = kind then f p d else d

/-- The first request outstanding at a position that satisfies `m` and whose window has not passed by instant `t`: a later
answer is ignored (R474). -/
def Lane.owed (x : Lane) (t p : Nat) (m : AskKind → Bool) : Option Ask :=
  x.asks.find? fun a => a.pos = p && m a.kind && decide (t ≤ a.due)

/-- A request is answered. -/
def Dev.settleAsk (l : Nat) (a : Ask) (d : Dev) : Dev := d.onLane l fun x => { x with asks := x.asks.erase a }

/-- A stall whose lane returned has passed both probes: it returns at the next boundary (R140). -/
def Dev.returnStall (s : Nat) (d : Dev) : Dev :=
  match d.railOf s with
  | some n => ((d.onStall s fun x => { x with returning := 3 }).pendChange n .giveBack s).afterChange n
  | none => d

/-- The switch-node voltage shows a shorted high side: 10 mV × VSW above HS_FRAC / 256 of the intermediate bus (R44). -/
def Dev.hsShort (d : Dev) (vsw : Nat) : Bool := decide (d.regs.act.SYS_STARTCFG_HS_FRAC * d.hsw.vibSent < 10 * vsw * 256)

/-- A probe is answered without a fault flag (R43, R44, R139, R140): a spare that passes is available, so that a vacancy may become a
pending change (R138). -/
def Dev.probePassed (s kind vsw : Nat) (d : Dev) : Dev :=
  let x := d.stall s
  if kind = 0 then
    if x.returning = 1 then (d.onStall s fun x => { x with returning := 2 }).askStall s (.probe 1)
    else
      let d := d.onStall s fun x => { x with probeOk := true }
      match d.railOf s with
      | some n => d.afterChange n
      | none => d
  else if d.hsShort vsw then
    if x.returning ≠ 0 then d.onStall s fun x => { x with returning := 0 } else (d.failStall s 3).pump
  else if x.returning = 2 then d.returnStall s
  else d

/-- A request that is a PROBE. -/
def AskKind.isProbe : AskKind → Bool
  | .probe _ => true
  | _ => false

/-- A request that a CFG_ACK answers: a STAGECFG of its parameter whose VALUE its VCHK matches (R93). -/
def AskKind.acked (b : Body) : AskKind → Bool
  | .cfg q v => q = bfld b 42 35 && vchk v = bfld b 34 27
  | _ => false

/-- PROBE_ANSWER (R93): one that carries a fault flag leaves the attempt to end with its window (R43). -/
def fProbeAnswer (l : Nat) (b : Body) (d : Dev) : Dev :=
  d.statusFrame l 0 b fun p d =>
    match (d.lane l).owed d.now p AskKind.isProbe with
    | some a =>
      if bfld b 50 43 ≠ 0 then d
      else
        let kind := match a.kind with
          | .probe k => k
          | _ => 0
        (d.settleAsk l a).probePassed (16 * l + p) kind (bfld b 42 31)
    | none => d
def execProbeAnswer (t lane : Nat) (body : Body) (s : State) := run t (fProbeAnswer lane body) s

/-- CFG_ACK (R93, R474): an acknowledgement with a matching VCHK answers its request; an authority check's clears the
lane's count of missed ones (R403). -/
def fCfgAck (l : Nat) (b : Body) (d : Dev) : Dev :=
  d.statusFrame l 1 b fun p d =>
    match (d.lane l).owed d.now p (AskKind.acked b) with
    | some a =>
      let d := d.settleAsk l a
      if a.tries = 0 then { d with pair.checkMiss := d.pair.checkMiss.set l 0 } else d
    | none => d
def execCfgAck (t lane : Nat) (body : Body) (s : State) := run t (fCfgAck lane body) s

/-- CFG_NAK (R93, R474): the request stays owed, and is sent again at the end of its window. -/
def fCfgNak (l : Nat) (b : Body) (d : Dev) : Dev := d.statusFrame l 2 b fun _ d => d
def execCfgNak (t lane : Nat) (body : Body) (s : State) := run t (fCfgNak lane body) s

/-- CENSUS_ANSWER (R94, R104): a word asked for, or one from a position outside POP while the census runs, is recorded. -/
def fCensusAnswer (l : Nat) (b : Body) (d : Dev) : Dev :=
  d.upstream l 10 b fun p d =>
    let w := bfld b 53 52
    let record (x : Lane) : Lane :=
      { x with census := x.census.wr (4 * p + w) (BitVec.ofNat 32 (bfld b 51 20)),
               censusOk := x.censusOk ||| 2 ^ (4 * p + w), present := x.present ||| 2 ^ p }
    if bfld b 54 54 ≠ 1 then d
    else match (d.lane l).owed d.now p (fun k => k = .census w) with
      | some a => (d.settleAsk l a).onLane l record
      | none => if (d.lane l).phase = 3 && !d.popBit l p then d.onLane l record else d
def execCensusAnswer (t lane : Nat) (body : Body) (s : State) := run t (fCensusAnswer lane body) s

/-! ### Answer windows (R43, R44, R139, R140, R474, R403) -/

/-- Probe attempts; 0 acts as 1 (R65). -/
def Dev.probeTries (d : Dev) : Nat := atLeast1 d.regs.act.SYS_STARTCFG_PROBE_TRIES

/-- A probe went unanswered, or its answer failed, in every attempt. -/
def Dev.probeLost (s kind : Nat) (d : Dev) : Dev :=
  let x := d.stall s
  if x.returning ≠ 0 then d.onStall s fun x => { x with returning := 0 }
  else
    let starting := d.sys.state = .start && d.sys.step = 7
    let probing := (d.railOf s).any fun n => (d.rail n).state = .probe
    if (kind = 0 && (starting || x.state = .spare || x.state = .incoming)) || (kind = 1 && probing) then (d.failStall s 2).pump else d

/-- Over half of the UP lanes have left two consecutive authority checks without a CFG_ACK (R403). -/
def Dev.checksLost (d : Dev) : Bool :=
  let up := d.upLanes
  decide (up.length < 2 * (up.filter fun l => decide (2 ≤ d.pair.checkMiss.getD l 0)).length)

/-- A member in RUN has lost authority: LOSTAUTH, and a device warm start that follows a takeover (R25, R403). A protection turn-off of
this instant acts first (R23). -/
def Dev.loseAuthority (d : Dev) : Dev :=
  let d := d.stick aPAIR_STAT 0x800
  let d := d.each (List.range 32) fun l d => d.onLane l fun x => { x with held := false }
  let d := (d.each (List.range 8) Dev.protectFirst).stopAll
  { d with pair.primary := false, pair.authority := false, pair.checkMiss := List.replicate 32 0 }.warmStart 2

/-- One request's window has ended without its answer. The 3 requests of R104 are counted for each CENSUS word of a position,
as are the 3 attempts for each parameter (DESIGN CHOICE: log entry 77). A spare is unavailable from the first attempt of a probe that
fails on (DESIGN CHOICE: log entry 107). -/
def Dev.windowOver (l : Nat) (a : Ask) (d : Dev) : Dev :=
  let s := 16 * l + a.pos
  let d := d.settleAsk l a
  match a.kind with
  | .probe k =>
    let d := d.when ((d.stall s).state = .spare && k = 0) (Dev.onStall s fun x => { x with probeOk := false })
    if a.tries < d.probeTries then d.askAgain l a.pos a.kind (a.tries + 1) else d.probeLost s k
  | .cfg _ _ =>
    if a.tries = 0 then
      let d := { d with pair.checkMiss := modAt d.pair.checkMiss l (· + 1) }.count aPAIR_ACHKFAIL
      if d.sys.state = .run && d.inPair && d.checksLost then d.loseAuthority else d
    else if a.tries < 3 then d.askAgain l a.pos a.kind (a.tries + 1)
    else if (d.lane l).phase = 5 then d.onLane l fun x => { x with unacked := x.unacked ||| 2 ^ a.pos }
    else (d.failStall s 6).pump
  | .census _ =>
    if a.tries < 3 then d.askAgain l a.pos a.kind (a.tries + 1)
    else d.onLane l fun x => { x with unanswered := x.unanswered ||| 2 ^ a.pos }

/-- ANSWER_WINDOW_EXPIRY (R474): every request at a position whose window has ended. -/
def fAnswerWindowExpiry (l p : Nat) (d : Dev) : Dev :=
  d.each ((d.lane l).asks.filter fun a => a.pos = p && decide (a.due ≤ d.now)) fun a d =>
    if (d.lane l).asks.contains a then d.windowOver l a else d
def execAnswerWindowExpiry (t lane pos : Nat) (s : State) := run t (fAnswerWindowExpiry lane pos) s

/-! ### Stage faults (R124, R260) -/

/-- The cause with which the newly set fault bits fail a stall, if they do (R260). -/
def Dev.faultCause (d : Dev) (f : Nat) : Option Nat :=
  if f.testBit 7 then some 3
  else if f.testBit 6 || f.testBit 5 || (f.testBit 4 && d.inputGood) || f.testBit 3 then some 6
  else if f.testBit 1 then some 1
  else if f.testBit 0 && d.regs.act.PROT_GCFG_OTHER_FAIL = 1 then some 6
  else none

/-- A FAULT_CHANGE of a stall: segments are cleared, the stall may fail, and STAGE_FAULT names the state after it. -/
def Dev.takeFaults (s faults seg : Nat) (d : Dev) : Dev :=
  let x := d.stall s
  let new := faults &&& (255 - x.faults % 256)
  let cut := if faults.testBit 2 then x.segok &&& seg else 0
  let d := d.onStall s fun x => { x with faults := faults, segok := x.segok &&& (15 - cut) }
  let d := if cut = 0 then d else d.onStall s fun x => { x with weight := d.weightOf s }
  if new = 0 && cut = 0 then d
  else
    let d := match d.faultCause new with
      | some c => d.failStall s c
      | none => if faults.testBit 2 && segCount (d.stall s).segok < 2 then d.failStall s 7 else d
    (d.raise 0x1003 (d.gaStall s) [BitVec.ofNat 8 faults, BitVec.ofNat 8 ((d.stall s).shown d.now).code]).pump

/-- FAULT_CHANGE (R260); a standby notes the flags, and its stalls' states come from the primary (R392, R397). -/
def fFaultChange (l : Nat) (b : Body) (d : Dev) : Dev :=
  d.statusFrame l 3 b fun p d =>
    if d.isStandby then d.onStall (16 * l + p) fun x => { x with faults := bfld b 50 43 }
    else d.takeFaults (16 * l + p) (bfld b 50 43) (bfld b 42 39)
def execFaultChange (t lane : Nat) (body : Body) (s : State) := run t (fFaultChange lane body) s

/-! ### HOLD and what returns (R98, R105, R107, R108) -/

/-- The lane sends HOLD: UP, or in phase 6 of training, which a DOWN lane that retrains reaches too (R98, R104; DESIGN CHOICE:
log entry 76). -/
def Lane.holds? (x : Lane) : Bool := x.state = .up || x.phase = 6

/-- HOLD_SEND (R98): at each lane time that is a multiple of 51,200 eu. -/
def fHoldSend (l : Nat) (d : Dev) : Dev :=
  if d.tb.running && (d.lane l).holds? && d.now % 2 ^ 32 % 51200 = 0 then d.send l (holdBody (512 * fitSlot 4 (slotAt d.now)))
  else d
def execHoldSend (t lane : Nat) (s : State) := run t (fHoldSend lane) s

/-- The lane meets the lame rule: it is marked, and its retirement waits for a boundary of each yard with a stall on it;
with no such yard it is retired at once (R107, R108). -/
def Dev.lameLane (l : Nat) (d : Dev) : Dev :=
  let ns := (List.range 8).filter fun n => (d.bound n).any fun s =>
    s / 16 = l && decide ((d.stall s).state ≠ .failed) && decide ((d.stall s).state ≠ .retired)
  let d := d.onLane l fun x => { x with lame := true }
  if ns.isEmpty then d.retireLane l (some 3)
  else ((d.each ns fun n d => d.pendChange n .lane l).each ns Dev.afterChange).afterLoss

/-- A returned HOLD's verdict joins the last 256; 16 failures are the lame rule (R108). -/
def Dev.noteHold (l : Nat) (ok : Bool) (d : Dev) : Dev :=
  let d := d.onLane l fun x => { x with holds := (ok :: x.holds).take 256 }
  let x := d.lane l
  if x.state = .up && !x.lame && decide (16 ≤ (x.holds.filter (!·)).length) then d.lameLane l else d

/-- RETURNED_FRAME_CHECK (R105): the frame returned in a slot, and for a HOLD how far from RT it came back, in eu. -/
def fReturnedFrameCheck (l slot : Nat) (b : Body) (dev : Int) (d : Dev) : Dev :=
  match (d.lane l).tx.find? (fun g => g.slot = slot) with
  | none => d
  | some g =>
    let ok := bodyOk b && decide (b = g.body)
    let d := d.when (!ok) (Dev.count (aLANE_RETERR l))
    if g.rank = 4 then d.noteHold l (bodyOk b && decide (dev.natAbs ≤ 32)) else d
def execReturnedFrameCheck (t lane slot : Nat) (body : Body) (dev : Int) (s : State) :=
  run t (fReturnedFrameCheck lane slot body dev) s

/-- LOSS_OF_LOCK (R105, R109): an UP lane goes DOWN. -/
def fLossOfLock (l : Nat) (d : Dev) : Dev := if (d.lane l).state = .up then d.downLane l else d
def execLossOfLock (t lane : Nat) (s : State) := run t (fLossOfLock lane) s

/-! ### Training (R104) -/

/-- Phase 6 of a lane completes: it is UP, a PARKED one where its retraining took at most 10 µs from the wake, else DOWN (R107). -/
def Dev.endTraining (l : Nat) (d : Dev) : Dev :=
  if (d.lane l).state = .parked && d.sys.wakeAt.any (fun w => w + 10 * usEu < d.now) then d.downLane l else d.laneTrained l

/-- The present phase of a lane completes. A PARKED lane that a wake retrains goes from phase 2 straight to phase 6 (R64). -/
def Dev.nextPhase (l : Nat) (marks : List Nat) (d : Dev) : Dev :=
  let x := d.lane l
  match x.phase with
  | 1 => d.onLane l fun x => { x with phase := 2, markAt := slotAt d.now }
  | 2 => match meanRt marks with
    | some rt =>
      let d := d.onLane l fun x => { x with rt := rt }
      if x.state = .parked then d.onLane l fun x => { x with phase := 6 } else d.askCensus l
    | none => d.failAttempt l
  | 3 =>
    if !x.asks.isEmpty then d
    else
      let bad := bitsOf 16 fun p => x.present.testBit p && d.popBit l p && !x.idOk p
      let d := d.onLane l fun x => { x with badId := bad }
      if d.isStandby then d.onLane l fun x => { x with phase := 6 } else d.sendClaim l
  | 4 => d.sendParams l
  | 5 => if x.asks.isEmpty then d.endParams l else d
  | 6 => d.endTraining l
  | _ => d

/-- LANE_TRAINING_PHASE (R104); in phase 2 `marks` are the 16 round trips. -/
def fLaneTrainingPhase (l : Nat) (marks : List Nat) (d : Dev) : Dev := d.nextPhase l marks
def execLaneTrainingPhase (t lane : Nat) (marks : List Nat) (s : State) := run t (fLaneTrainingPhase lane marks) s

/-- TRAINING_ATTEMPT_TIMEOUT (R104): 500 µs. -/
def fTrainingAttemptTimeout (l : Nat) (d : Dev) : Dev :=
  let x := d.lane l
  if x.phase ≠ 0 && decide (x.attemptAt + 500 * usEu ≤ d.now) then d.failAttempt l else d
def execTrainingAttemptTimeout (t lane : Nat) (s : State) := run t (fTrainingAttemptTimeout lane) s

/-! ### Waking (R64, R107) -/

/-- The lanes that are PARKED. -/
def Dev.parkedLanes (d : Dev) : List Nat := (List.range 32).filter fun l => (d.lane l).state = .parked

/-- WAKE_RETRAIN_COMPLETE (R64, R107): the PARKED lanes of `okMask` that are in phase 6 complete it; the device enters RUN once no lane
is PARKED any more, or 10 µs after the wake, where each lane that is still PARKED goes DOWN. -/
def fWakeRetrainComplete (okMask : Nat) (d : Dev) : Dev :=
  match d.sys.wakeAt with
  | none => d
  | some w =>
    if d.sys.state ≠ .idle then d
    else
    let d := d.each (d.parkedLanes.filter fun l => okMask.testBit l && (d.lane l).phase = 6) Dev.endTraining
    let parked := d.parkedLanes
    if !parked.isEmpty && decide (d.now ≤ w + 10 * usEu) then d
    else
      let d := { d with sys.state := .run, sys.wakeAt := none, sys.idleSince := none }
      (d.each parked Dev.downLane).pump
def execWakeRetrainComplete (t okMask : Nat) (s : State) := run t (fWakeRetrainComplete okMask) s

end Sys2Proof.Machine
end

