-- ==== Sys2Proof/Machine/Input.lean ====
section
/-! DEFINITION. The input path (09_input_path.md): gate states, the ramp, the fault timer, trips and retries, the input
record, extraction and the bleeder, ticks, and step 8 of a start (R45). -/

namespace Sys2Proof.Machine

/-! ### Quantities -/

def Dev.onHsw (f : Hsw → Hsw) (d : Dev) : Dev := { d with hsw := f d.hsw }

/-- The integer square root by halves: `k` bits still to try. -/
def isqrtFrom : Nat → Nat → Nat → Nat
  | 0, _, r => r
  | k + 1, n, r => if (r + 2 ^ k) * (r + 2 ^ k) ≤ n then isqrtFrom k n (r + 2 ^ k) else isqrtFrom k n r

def isqrt (n : Nat) : Nat := isqrtFrom 32 n 0

/-- A raw code converted by a path's coefficients (R296). -/
def Coef.value (c : Coef) (raw : Int) : Int := (raw * 256 + c.offset) * c.gain / (2 ^ (8 + c.shift) : Nat)

def Hsw.cal (h : Hsw) (path : Nat) (raw : Int) : Int := (h.coef.getD path {}).value raw

/-- RSHUNT in 0.1 µΩ; 0 acts as 1 (R303). -/
def Dev.rshunt (d : Dev) : Nat := atLeast1 d.regs.act.HSW_CFG_RSHUNT

/-- Shunt current in mA: a certificate's coefficients give it; the factory's give µV, divided by RSHUNT (R296). -/
def Dev.shuntMa (d : Dev) (raw : Int) : Int :=
  let x := d.hsw.cal 1 raw
  if d.hsw.calValid.testBit 1 then x else x * 10000 / (d.rshunt : Int)

/-- The retry period in eu; TIME 0 acts as 1 (R303). -/
def Dev.retryPeriod (d : Dev) : Nat := atLeast1 d.regs.act.HSW_RETRY_TIME * msEu

/-- VSTOP in mV (R293); without any capacitance a free value. -/
def Dev.stopLevel (d : Dev) : Nat :=
  let e := atLeast1 d.regs.act.HSW_BLEED_ESAFE
  let c := max d.regs.act.HSW_BLEED_CBULK d.hsw.cmeas
  if c = 0 then Config.stopWithoutBulk e else isqrt (2000000000 * e / c)

/-- VSTOP is computed anew (R293). -/
def Dev.setStop (d : Dev) : Dev := d.onHsw fun h => { h with vstop := d.stopLevel }

/-! ### The input record (R289–R291) -/

/-- The payload of the input record. -/
def Dev.inputPayload (d : Dev) (r : Nat) : List Byte :=
  [BitVec.ofNat 8 r, BitVec.ofNat 8 d.hsw.retries, BitVec.ofNat 8 d.hsw.cause, 0] ++ leBytes 4 d.loft.pcycle ++
  leBytes 6 d.opTime ++ [0, 0]

/-- Ask for a write of the record at the priority of a fault-class event (R290). -/
def Dev.writeInput (r : Nat) (d : Dev) : Dev := (d.onHsw fun h => { h with recDone := false }).writeRec2 1 .input (d.inputPayload r)

/-- REC and RETRIES of the record's winner, if it has one (R289). -/
def Loft.inputRecord (l : Loft) (m : Memory) : Option (Nat × Nat) :=
  (l.winnerOf m .input).1.map fun w => (leNat (w.2.take 1), leNat ((w.2.drop 1).take 1))

/-! ### Rails and the input (R46, R245, R385) -/

/-- The input owner drives the gate; in a pair the other member only senses (R385). -/
def Dev.drivesGate (d : Dev) : Bool := !d.inPair || d.pair.owner

/-- What follows when the input may have ceased to be good or become good: rails stop with cause INPUT, others may leave
OFF, and a member that is not the owner follows with IBC_EN (R46, R245, R385). -/
def Dev.checkInput (d : Dev) : Dev :=
  let d := d.when (!d.drivesGate) fun d => d.onHsw fun h => { h with ibcEn := d.inputGood }
  if d.isStandby then d
  else
    let d := d.when (!d.inputGood) fun d => d.each (List.range 8) fun n d =>
      let st := (d.rail n).state
      if st = .ramp || st = .reg || st = .stop then d.turnOffFor n [10] else d
    d.pump

/-! ### Gate states (R278–R287) -/

/-- The path enters ARM and asks for the record ARMED (R279, R290). -/
def Dev.arm (d : Dev) : Dev :=
  if !d.drivesGate then d else (d.onHsw fun h => { h with state := .arm, ilim := false, plim := false }).writeInput 1

/-- Whole µs by the high-voltage die's own oscillator in `us` µs: never fewer, and at most a quarter more, so that what it
times ends at most 20 % early (R15). -/
def ownUs (us : Nat) : Nat := us * (1000 + Config.ownOscillator % 251) / 1000

/-- `k` µs of the fault timer, in pJ, with a cooling rate (R283). -/
def Hsw.runTimer (k cool : Nat) (h : Hsw) : Hsw :=
  if h.ilim || h.plim then { h with efet := ((h.efet : Int) + k * (h.hvVds * h.hvI)).toNat }
  else { h with efet := h.efet - k * (1000000 * cool) }

/-- The fault timer up to wall instant `w` by the high-voltage die's own oscillator, while ticks are lost (R15, R283). -/
def Hsw.runOwn (w : Nat) (h : Hsw) : Hsw :=
  if !h.tickLost then h
  else { h.runTimer (ownUs ((w - h.ownAt) / usEu)) h.sent.cool with ownAt := h.ownAt + (w - h.ownAt) / usEu * usEu }

/-- The gate turns off: the fault timer has run up to now, no limit acts, and IBC_EN falls 2 ms later unless a record write ends
first (R280). -/
def Dev.gateOff (d : Dev) : Dev :=
  let d := d.onHsw (Hsw.runOwn d.tb.wall)
  d.onHsw fun h => { h with ilim := false, plim := false, limSince := false, severe := false, offAt := d.now, vdsLowAt := none,
                            ramp := [], ibcFall := if h.ibcEn then some (d.now + 2 * msEu) else none }

/-- WAIT for a full retry period from `from_` (R287, R291). -/
def Dev.enterWait (from_ : Nat) (d : Dev) : Dev := (d.onHsw fun h => { h with state := .wait, waitEnd := from_ + d.retryPeriod }).writeInput 2

/-- LATCHED, and its record (R287, R290). -/
def Dev.latchPath (d : Dev) : Dev := (d.onHsw fun h => { h with state := .latched }).writeInput 3

/-- An extraction has taken the path to OFF, with HSW_BLEED.EN at 0 (R279). -/
def Dev.extractedOff (d : Dev) : Bool := d.pins.extractLow && d.hsw.state = .off && d.hsw.offCmd.isNone

/-- A trip leads to WAIT or LATCHED by `enter` (R287). One that is recorded late, when ticks return, finds the path in a bleed that
began since, which then goes on to the state the trip led to, or turned off by an extraction, which it leaves (R14, R279,
R302; DEDUCED: log entry 102). -/
def Dev.afterTrip (enter : Dev → Dev) (d : Dev) : Dev :=
  if d.hsw.state = .bleed then
    let e := enter d
    e.onHsw fun h => { h with state := .bleed, resume := h.state, waitLeft := h.waitEnd - d.now }
  else if d.extractedOff then d
  else enter d

/-- The data of HSW_TRIP and HSW_LATCHED. -/
def Dev.tripData (d : Dev) : List Byte :=
  leBytes 1 d.hsw.cause ++ leBytes 1 d.hsw.retries ++ [0, 0] ++ leBytes 4 (d.reg aHSW_EFET).toNat ++ leBytes 4 (d.reg aMEAS_IBUS).toNat

/-- HSW_TRIP (R287; log entry 58). -/
def Dev.raiseTrip (d : Dev) : Dev := d.raiseDev 0x1006 d.tripData

/-- A trip with causes 1 to 3, found at the instant the gate turned off (R287). -/
def Dev.retryTrip (d : Dev) : Dev :=
  let h := d.hsw
  if h.retries < d.regs.act.HSW_RETRY_RETRY_MAX then
    let d := (d.onHsw fun h => { h with retries := h.retries + 1 }).afterTrip (Dev.enterWait h.offAt)
    d.raiseTrip
  else
    let d := d.afterTrip Dev.latchPath
    d.raiseDev 0x1007 d.tripData

/-- The input path trips (R283–R287): 1 TIMER, 2 SEVERE, 3 RAMP_TIMEOUT, 4 BUS_OV. The gate is off already. -/
def Dev.trip (cause : Nat) (d : Dev) : Dev :=
  let d := (d.onHsw fun h => { h with cause := cause }).count aHSW_TRIPCNT
  let d := d.when (cause = 2) (Dev.count aHSW_SEVCNT)
  let d := d.statusInput (if cause = 4 then 0x80 else if cause = 3 then 0 else 0x04)
  let d := if cause = 4 then (d.onHsw fun h => { h with state := .off, ovTripped := true }).raiseTrip else d.retryTrip
  d.checkInput

/-- The gate turns off and the trip is recorded, or waits for ticks to return (R14, R15, R302): the causes 1 and 2, which
the high-voltage die finds alone. -/
def Dev.tripNow (cause : Nat) (d : Dev) : Dev :=
  let d := d.gateOff
  if d.hsw.tickLost then d.onHsw fun h => { h with pendTrip := cause } else d.trip cause

/-- The controlled ramp or the run state, in which a trip can come. -/
def Hsw.closed (h : Hsw) : Bool := (h.state = .ramp || h.state = .on) && h.pendTrip = 0

/-- The mean shunt current between 25 % and 75 % of the ramp's rise, divided by SLEW, in 10 µF; none where a limit acted
(R281). -/
def Dev.measuredBulk (d : Dev) : Option Nat :=
  let l := d.hsw.ramp
  let v0 : Int := (l.getLast?).elim 0 (·.v)
  let rise := d.hsw.hvV - v0
  let mid := l.filter fun x => decide (4 * v0 + rise ≤ 4 * x.v) && decide (4 * x.v ≤ 4 * v0 + 3 * rise)
  if mid.isEmpty || mid.any (·.limit) then none
  else some ((mid.map (·.i)).sum / ((mid.length : Int) * atLeast1 d.regs.act.HSW_CFG_SLEW)).toNat

/-- Step 8 completes (R45). -/
def Dev.endStep8 (d : Dev) : Dev := if d.sys.state = .start && d.sys.step = 8 then d.toStep 9 else d

/-- Entry to ON (R279–R281, R290, R293): the capacitance is measured, IBC_EN rises, the record becomes ON. -/
def Dev.enterOn (d : Dev) : Dev :=
  let c := d.measuredBulk
  let d := d.onHsw fun h => { h with state := .on, onAt := d.now, ibcEn := true, ibcFall := none, ramp := [], cmeas := c.getD h.cmeas }
  let d := if c.any fun c => decide (d.regs.act.HSW_BLEED_CBULK < c) then
      (d.stick aHSW_STATUS 0x100000).raiseDev 0x200C (leBytes 4 (d.reg aHSW_CMEAS).toNat)
    else d
  let d := d.setStop.writeInput 0
  d.endStep8.checkInput

/-- Entry to BLEED from a state, by an extraction or not: WAIT keeps the time it had left (R279, R294). A high-voltage die that
does not run drives no bleed (R456). -/
def Dev.enterBleed (ext : Bool) (d : Dev) : Dev :=
  if !d.pins.vbusHv then d
  else
  let h := d.hsw
  let keep := if h.state = .wait || h.state = .latched then h.state else .off
  let d := d.onHsw fun h => { h with
    state := .bleed, resume := keep, waitLeft := h.waitEnd - d.now, bleedV := h.vstop, ilim := false, plim := false, extBleed := ext,
    step8Due := false,
    bleedEnd := d.hvClock + atLeast1 d.regs.act.HSW_BLEED_TSAFE * 10 * msEu, ibcEn := false, ibcFall := none }
  d.count aHSW_BLEEDCNT

/-! ### Step 8 (R45, R291) -/

/-- A device that has no ramp to make: a member that is not the owner waits for the input to be good (R391). -/
def Dev.step8Waits (d : Dev) : Dev := if d.inputGood then d.endStep8 else d

/-- What step 8 does with the gate off: by the record at a cold start, by the state held on the die at a warm one
(R291). It waits for a bleed in progress to end (R279), and for a ramp that a reset of the control die met to go on (R302). -/
def Dev.step8Ramp (m : Memory) (d : Dev) : Dev :=
  let persist := d.regs.act.HSW_RETRY_LATCH_PERSIST = 1
  let pending (k : Nat) (d : Dev) : Dev :=
    ((d.stick aSYS_STARTLOG 0x10).onHsw fun h => { h with retries := k }).enterWait d.now
  if d.hsw.state = .bleed then d.onHsw fun h => { h with step8Due := true }
  else if d.hsw.state = .ramp then d
  else if d.sys.kind = 0 then
    match d.loft.inputRecord m with
    | some (1, _) => pending 0 d
    | some (2, k) => pending k d
    | some (3, _) => if persist then d.latchPath else pending 0 d
    | _ => d.arm
  else match d.hsw.state with
    | .wait => pending d.hsw.retries d
    | .latched => if persist then d else pending 0 d
    | .off => d.arm
    | _ => d

/-- Whether what the high-voltage die found while ticks were lost may be recorded now: at a cold start from step 8 on, when
the image and the input record have been read (log entry 63). -/
def Dev.mayReport (d : Dev) : Bool := !(d.sys.state = .start && d.sys.kind = 0 && decide (d.sys.step < 8))

/-- What the high-voltage die found while ticks were lost is recorded: a trip, or the gate fully on (R14, R302). -/
def Dev.hvReport (d : Dev) : Dev :=
  let h := d.hsw
  if !d.mayReport then d
  else
    let d := d.onHsw fun h => { h with pendTrip := 0, pendOn := false }
    if h.pendTrip ≠ 0 then d.trip h.pendTrip else if h.pendOn then d.enterOn else d

/-- Step 8 begins (R45): a closed fuse is adopted, at a warm start without a mark. A trip that the high-voltage die found
during the reset is recorded first (R14; log entry 63). -/
def Dev.enterStep8 (m : Memory) (d : Dev) : Dev :=
  let d := d.toStep 8
  if !d.drivesGate then d.step8Waits
  else if d.hsw.pendTrip ≠ 0 then (if d.hsw.tickLost then d else (d.onHsw fun h => { h with offAt := d.now }).hvReport)
  else if d.hsw.state = .on || d.hsw.pendOn then
    let d := d.when (d.sys.kind = 0) (Dev.stick aSYS_STARTLOG 0x20)
    if d.hsw.state = .on then (d.onHsw fun h => { h with ibcEn := true, ibcFall := none }).endStep8 else d.hvReport
  else d.step8Ramp m

/-- The bleed ends (R279): WAIT goes on with the time it had left. A start that waited for it goes on: step 1 after an
extraction (R302), or a step 8 that began in it (R291). -/
def Dev.endBleed (m : Memory) (d : Dev) : Dev :=
  let due := d.hsw.step8Due
  let d := d.onHsw fun h => { h with state := h.resume, waitEnd := d.now + h.waitLeft, extBleed := false, step8Due := false }
  let d := d.tryStep1
  if due && d.sys.state = .start && d.sys.step = 8 && d.drivesGate then d.step8Ramp m else d

/-- Whether the device may ramp the gate now: RUN, STANDBY or IDLE, or in step 8 (R34, R45, R302). -/
def Dev.mayRamp (d : Dev) : Bool :=
  d.drivesGate && (match d.sys.state with
    | .run | .standby | .idle => true
    | .start => d.sys.step = 8
    | .halt => false)

/-! ### Ticks (R15, R22, R282, R283, R295) -/

/-- What the control die has for the high-voltage die, once a cold start has loaded the image and the certificates (R10, R14,
R38, R40). -/
def Dev.limitsKnown (d : Dev) : Bool := !(d.sys.state = .start && d.sys.kind = 0 && decide (d.sys.step ≤ 4))

/-- The limits, budgets and coefficients as the control die holds them now. -/
def Dev.limits (d : Dev) : HvSent :=
  { budget := atLeast1 d.regs.act.HSW_BUDGET_EBUDGET, cool := d.regs.act.HSW_BUDGET_COOL, istart := d.regs.act.HSW_LIM_ISTART,
    irun := d.regs.act.HSW_LIM_IRUN, plim := atLeast1 d.regs.act.HSW_LIM2_PLIM, slew := atLeast1 d.regs.act.HSW_CFG_SLEW,
    rshunt := d.rshunt, coef := d.hsw.coef, cal1 := d.hsw.calValid.testBit 1 }

/-- They are sent to the high-voltage die (R14), at a tick or a metering sample (DESIGN CHOICE: log entry 103). -/
def Dev.sendLimits (d : Dev) : Dev := if d.limitsKnown && !d.hsw.tickLost then d.onHsw fun h => { h with sent := d.limits } else d

/-- Which term of R282 governs, by what the high-voltage die was sent: the current limit while IX ≤ PLIM / vds. -/
def Hsw.currentGoverns (h : Hsw) : Bool :=
  decide ((if h.state = .ramp then h.sent.istart else h.sent.irun) * h.hvVds ≤ 10 * h.sent.plim * h.sent.rshunt)

/-- The high-voltage die's conversion of a voltage path's code, by the coefficients it was sent (R14, R296). -/
def Hsw.hvCal (h : Hsw) (path : Nat) (raw : Int) : Int := (h.sent.coef.getD path {}).value raw

/-- The high-voltage die's shunt current in mA (R14, R296). -/
def Hsw.hvMa (h : Hsw) (raw : Int) : Int :=
  let x := h.hvCal 1 raw
  if h.sent.cal1 then x else x * 10000 / (atLeast1 h.sent.rshunt : Int)

/-- The drop monitor's reading of `raw` at wall instant `w`, and since when it has read 6 codes or less in RAMP (R281). -/
def Hsw.readDrop (w raw : Nat) (h : Hsw) : Hsw :=
  { h with hvDrop := raw % 1024, hvVds := h.hvCal 3 (raw % 1024 : Nat),
           vdsLowAt := if h.state = .ramp && raw % 1024 ≤ 6 then some (h.vdsLowAt.getD w) else none }

/-- The limit's bits; each time a limit begins to act is counted (R282, R304). -/
def Dev.setLimit (acting : Bool) (d : Dev) : Dev :=
  let was := d.hsw.ilim || d.hsw.plim
  let act := acting && d.hsw.closed
  let cur := d.hsw.currentGoverns
  let d := d.onHsw fun h => { h with ilim := act && cur, plim := act && !cur, limSince := h.limSince || act }
  d.when (act && !was && d.tb.running) (Dev.count aHSW_LIMCNT)

/-- The intermediate bus overvoltage flag and its event (R295). -/
def Dev.watchIbov (d : Dev) : Dev :=
  let high := decide (100 * d.regs.act.HSW_IBCFG_IBOV < d.hsw.vibSent)
  let rose := high && !d.hsw.ibovNow
  let d := (d.onHsw fun h => { h with ibovNow := high }).when high (Dev.stick aHSW_STATUS 0x40000)
  d.when rose fun d => d.raiseDev 0x200D (leBytes 4 (d.reg aMEAS_VIB).toNat)

/-- The ramp has not reached ON within TMAX of its entry (R284). -/
def Dev.rampOverdue (d : Dev) : Bool :=
  d.hsw.state = .ramp && d.hsw.closed && decide (d.hsw.rampAt + atLeast1 d.regs.act.HSW_CFG_TMAX * 10 * msEu ≤ d.now)

/-- The bus overvoltage comparator, source 0x18, has been active for OVTIME µs without a break, and trips (R286). -/
def Dev.busOvDue (d : Dev) : Bool :=
  let c := d.prot.comps.getD 24 {}
  d.regs.act.HSW_BUSCMP_OV_OFF = 1 && d.hsw.closed && c.level &&
    decide (c.since + atLeast1 d.regs.act.HSW_BUSCMP_OVTIME * usEu ≤ d.now)

/-- What the control die decides about the input path with ticks running (R14, R284, R286): it turns the gate off itself, so
while ticks are lost the decision waits for them. -/
def Dev.decideGate (d : Dev) : Dev :=
  if d.hsw.tickLost || !d.mayReport then d
  else if d.rampOverdue then d.gateOff.trip 3
  else if d.busOvDue then d.gateOff.trip 4
  else d

/-- The record ARMED is written: the ramp begins, from the latest bus reading (R279, R281). -/
def Dev.startRamp (d : Dev) : Dev :=
  d.onHsw fun h => { h with state := .ramp, rampAt := d.now, ref := (10 * h.hvV).toNat, vdsLowAt := none, limSince := false,
                            severe := false, recDone := false, sunk := false, ramp := [⟨h.hvV, h.hvI, false⟩] }

/-- The record that a path in ARM waits for has been written (R279, R290). -/
def Hsw.armWritten (h : Hsw) : Bool := h.recDone && h.state = .arm && h.recEnded = 1

/-- An extraction turns the gate off by the control die's command; a trip not yet reported has turned it off already and stays
to be recorded (R14, R292). -/
def Dev.extractOff (d : Dev) : Dev :=
  let d := if d.hsw.pendTrip = 0 then d.gateOff else d
  d.onHsw fun h => { h with pendOn := false, extCmd := false, state := .off, offCmd := some d.now }

/-- Ticks return (R15): HV_TICK_LOST tells how long they were lost, what the high-voltage die found is recorded, what the control
die commanded meanwhile is carried out, and it decides again. -/
def Dev.ticksReturn (d : Dev) : Dev :=
  let d := d.catchOutput
  let d := d.raiseDev 0x200A (leBytes 4 ((d.tb.wall - d.hsw.lastTick) / usEu))
  let d := d.onHsw fun h => { (h.runOwn d.tb.wall).onTicks d.hvClock with tickLost := false, lastTick := d.tb.wall, seen := true }
  let d := d.hvReport
  let d := if d.hsw.extCmd then (if d.hsw.closed then d.extractOff else d.onHsw fun h => { h with extCmd := false, offCmd := some d.now }) else d
  let d := if d.hsw.armWritten then d.startRamp else d
  d.decideGate

/-- HV_TICK (R15): the intermediate bus reading goes up, the drop monitor's comes down with `acting`, whether the loop
holds the current at its limit; the fault timer runs, where the high-voltage die does (R456). -/
def fHvTick (vdsRaw : Nat) (acting : Bool) (d : Dev) : Dev :=
  if !d.tb.running || d.now % usEu ≠ 0 then d
  else
    let lost := d.hsw.tickLost
    let d := if lost then d.ticksReturn else d.hvReport
    let d := d.onHsw fun h =>
      { h with lastTick := d.tb.wall, vibSent := h.vib, vibAt := d.now, vdsRaw := vdsRaw % 1024,
               vds := h.cal 3 (vdsRaw % 1024 : Nat), seen := true }
    let d := { d with sys.vinStale := false }.sendLimits
    let d := d.when d.pins.vbusHv fun d =>
      ((d.onHsw (Hsw.readDrop d.tb.wall vdsRaw)).setLimit acting).when (!lost) fun d => d.onHsw fun h => h.runTimer 1 h.sent.cool
    let d := d.watchIbov.addOutput (d.now / usEu - d.meas.outAt)
    let d := d.checkInput
    if d.sys.state = .start && d.sys.step = 8 && !d.drivesGate then d.step8Waits else d
def execHvTick (t vdsRaw : Nat) (acting : Bool) (s : State) := run t (fHvTick vdsRaw acting) s

/-- HV_TICK_LOSS (R15): 4 µs without a tick. The high-voltage die times on by its own oscillator. -/
def fHvTickLoss (d : Dev) : Dev :=
  if d.tb.running && !d.hsw.tickLost && d.hsw.lastTick + 4 * usEu ≤ d.tb.wall then
    d.onHsw fun h => { Hsw.onOwn d.hvClock h with tickLost := true, ownAt := h.lastTick }
  else d
def execHvTickLoss (t : Nat) (s : State) := run t fHvTickLoss s

/-- HV_TICK_RESUMED (R15). -/
def fHvTickResumed (d : Dev) : Dev := if d.hsw.tickLost then d.ticksReturn else d
def execHvTickResumed (t : Nat) (s : State) := run t fHvTickResumed s

/-- VIN_STALE (R22): 4 µs without an update. -/
def fVinStale (d : Dev) : Dev :=
  if d.tb.running && d.hsw.vibAt + 4 * usEu ≤ d.now then { d with sys.vinStale := true } else d
def execVinStale (t : Nat) (s : State) := run t fVinStale s

/-! ### The record is written (R280, R290) -/

/-- INPUT_RECORD_WRITTEN, once the write has ended, refused or not (R339): ARM goes to RAMP, whose reference is the latest bus reading
(R281), or while ticks are lost waits for them (R15); with the gate off IBC_EN falls. -/
def fInputRecordWritten (d : Dev) : Dev :=
  let h := d.hsw
  if !h.recDone then d
  else
    let ends := (h.state = .arm && h.recEnded = 1) || (h.state = .wait && h.recEnded = 2) || (h.state = .latched && h.recEnded = 3)
    let d := if ends && h.ibcFall.isSome then d.onHsw fun h => { h with ibcEn := false, ibcFall := none } else d
    if !h.armWritten then d.onHsw fun h => { h with recDone := false }
    else if h.tickLost then d
    else d.startRamp
def execInputRecordWritten (t : Nat) (s : State) := run t fInputRecordWritten s

/-- IBC_EN_RELEASE_TIMEOUT (R280): 2 ms after the gate turned off. -/
def fIbcEnReleaseTimeout (d : Dev) : Dev :=
  match d.hsw.ibcFall with
  | some t => if t ≤ d.now then d.onHsw fun h => { h with ibcEn := false, ibcFall := none } else d
  | none => d
def execIbcEnReleaseTimeout (t : Nat) (s : State) := run t fIbcEnReleaseTimeout s

/-! ### ON, trips and retries (R281–R287) -/

/-- The drop has read 6 codes or less for 100 µs (R281). -/
def Dev.fullyOn (d : Dev) : Bool := d.hsw.vdsLowAt.any fun t => decide (t + 100 * usEu ≤ d.tb.wall)

/-- RAMP_FULLY_ON (R281): the gate is driven to full enhancement; without ticks ON is reported when they return (R302). -/
def fRampFullyOn (d : Dev) : Dev :=
  let h := d.hsw
  if h.state = .ramp && h.pendTrip = 0 && d.fullyOn then
    if h.tickLost || !d.mayReport then d.onHsw fun h => { h with pendOn := true } else d.enterOn
  else d
def execRampFullyOn (t : Nat) (s : State) := run t fRampFullyOn s

/-- efet has reached EBUDGET (R283): by ticks, or while they are lost by the high-voltage die's own oscillator against the
budget it was sent (R14, R15). -/
def Dev.timerDue (d : Dev) : Bool :=
  let h := d.hsw.runOwn d.tb.wall
  let budget := if h.tickLost then h.sent.budget else atLeast1 d.regs.act.HSW_BUDGET_EBUDGET
  decide (10000000000 * budget ≤ h.efet) && (!h.tickLost || h.ilim || h.plim)

/-- FAULT_TIMER_TRIP (R283); one that meets the severe comparator is a trip with cause SEVERE (R302). -/
def fFaultTimerTrip (d : Dev) : Dev :=
  if d.hsw.closed && d.timerDue then
    (d.onHsw (Hsw.runOwn d.tb.wall)).tripNow (if d.hsw.severe then 2 else 1)
  else d
def execFaultTimerTrip (t : Nat) (s : State) := run t fFaultTimerTrip s

/-- RAMP_TIMEOUT (R284): the control die's decision, so it waits while ticks are lost (R14, R15). -/
def fRampTimeout (d : Dev) : Dev := if d.rampOverdue then d.decideGate else d
def execRampTimeout (t : Nat) (s : State) := run t fRampTimeout s

/-- SEVERE_CURRENT_TRIP (R285): the comparator 0x1A has become active with the gate on. -/
def fSevereCurrentTrip (d : Dev) : Dev := if d.hsw.closed && d.hsw.severe then d.tripNow 2 else d
def execSevereCurrentTrip (t : Nat) (s : State) := run t fSevereCurrentTrip s

/-- BUS_OV_TRIP (R286): comparator 0x18 active for OVTIME µs without a break; it waits while ticks are lost (R14). -/
def fBusOvTrip (d : Dev) : Dev := if d.busOvDue then d.decideGate else d
def execBusOvTrip (t : Nat) (s : State) := run t fBusOvTrip s

/-- BUS_OV_REARM (R286): the comparator has been inactive for 10 ms. -/
def fBusOvRearm (d : Dev) : Dev :=
  let c := d.comp 24
  let may := d.sys.state = .run || (d.sys.state = .start && d.sys.step = 8)
  if d.hsw.ovTripped && d.hsw.state = .off && may && d.drivesGate && d.pins.above && !c.level &&
      decide (c.since + 10 * msEu ≤ d.now) then
    (d.onHsw fun h => { h with ovTripped := false }).arm
  else d
def execBusOvRearm (t : Nat) (s : State) := run t fBusOvRearm s

/-- RETRY_PERIOD_EXPIRY (R279, R287): with the supervisor below the path is OFF; above it, the next ramp waits while the device
may make none (R302). -/
def fRetryPeriodExpiry (d : Dev) : Dev :=
  if d.hsw.state = .wait && d.hsw.waitEnd ≤ d.now then
    if !d.pins.above then d.onHsw fun h => { h with state := .off } else if d.mayRamp then d.arm else d
  else d
def execRetryPeriodExpiry (t : Nat) (s : State) := run t fRetryPeriodExpiry s

/-- RETRIES_RESET (R287): ON for one retry period. -/
def fRetriesReset (d : Dev) : Dev :=
  if d.hsw.state = .on && d.hsw.onAt + d.retryPeriod ≤ d.now then d.onHsw fun h => { h with retries := 0 } else d
def execRetriesReset (t : Nat) (s : State) := run t fRetriesReset s

/-! ### Extraction and the bleeder (R279, R292, R294) -/

/-- GATE_OFF_CONFIRM (R292): the drop monitor shows the gate off, or 10 µs have passed since the command. -/
def fGateOffConfirm (shown : Bool) (d : Dev) : Dev :=
  match d.hsw.offCmd with
  | none => d
  | some t =>
    if shown || decide (t + 10 * usEu ≤ d.now) then
      let d := d.onHsw fun h => { h with offCmd := none }
      if d.regs.act.HSW_BLEED_EN = 1 && d.drivesGate && d.pins.vbusHv then d.enterBleed true else d.onHsw fun h => { h with state := .off }
    else d
def execGateOffConfirm (t : Nat) (shown : Bool) (s : State) := run t (fGateOffConfirm shown) s

/-- BLEED_STOP (R294): VBUS_SNS reads at or below VSTOP. -/
def fBleedStop (m : Memory) (d : Dev) : Dev := if d.hsw.state = .bleed && d.hsw.hvV ≤ d.hsw.bleedV then d.endBleed m else d
def execBleedStop (t : Nat) (s : State) := runRead t fBleedStop s

/-- BLEED_TIMEOUT (R294): TSAFE has expired; a shorted FET is found by the drop monitor. -/
def fBleedTimeout (m : Memory) (d : Dev) : Dev :=
  let h := d.hsw
  if h.state = .bleed && d.pins.vbusHv && h.bleedEnd ≤ d.hvClock && !decide (h.hvV ≤ h.bleedV) then
    let d := (d.stick aHSW_STATUS 0x80000).raiseDev 0x200E (leBytes 4 (d.reg aMEAS_VBUS).toNat)
    let d := if h.hvDrop ≤ 6 && d.pins.above then
        (d.onHsw fun h => { h with fetShort := true }).raiseDev 0x1008
          (leBytes 4 (d.reg aMEAS_VBUS).toNat ++ leBytes 4 (d.reg aMEAS_VDS).toNat)
      else d
    d.endBleed m
  else d
def execBleedTimeout (t : Nat) (s : State) := runRead t fBleedTimeout s

/-- The effect of HSW_CTRL.CLEAR (R279, R287): in LATCHED only. R34 holds the gate off in the steps of a cold start, in which the
path is not LATCHED before step 8. -/
def Dev.clearLatch (d : Dev) : Dev :=
  if d.hsw.state ≠ .latched then d
  else
    let d := d.onHsw fun h => { h with retries := 0 }
    if d.pins.above then d.arm else d

/-- The effect of HSW_CTRL.BLEED (R279): from OFF, WAIT or LATCHED. -/
def Dev.commandBleed (d : Dev) : Dev :=
  if d.drivesGate && (d.hsw.state = .off || d.hsw.state = .wait || d.hsw.state = .latched) then d.enterBleed false else d

/-- The supervisor's falling crossing as the input path takes it (R14, R279); a trip not yet reported has turned the gate off
already, and stays to be recorded. -/
def Dev.inputFall (d : Dev) : Dev :=
  let off (d : Dev) : Dev := (if d.hsw.pendTrip = 0 then d.gateOff else d).onHsw fun h => { h with state := .off, pendOn := false }
  let d := d.when (!d.drivesGate) fun d => d.onHsw fun h => { h with sunk := true }
  match d.hsw.state with
  | .arm => off d
  | .ramp => off d
  | .on => off d
  | .bleed => d
  | _ => if d.regs.act.HSW_BLEED_ON_UV = 1 && d.drivesGate then d.enterBleed false else d

/-- SUPERVISOR_FALL (R14, R25, R36). -/
def fSupervisorFall (d : Dev) : Dev :=
  if !d.pins.above then d
  else
    let d := ({ d with pins.above := false }).when (decide (d.sys.state = DevState.run)) (Dev.statusInput 0x10)
    d.inputFall.leaveForInput
def execSupervisorFall (t : Nat) (s : State) := run t fSupervisorFall s

/-- SUPERVISOR_RISE (R36): step 1 may complete. -/
def fSupervisorRise (d : Dev) : Dev := if d.pins.vbusHv then { d with pins.above := true }.tryStep1 else d
def execSupervisorRise (t : Nat) (s : State) := run t fSupervisorRise s

/-- EXTRACT_ASSERT (R25, R279, R292): the rails stop, IBC_EN falls, the gate-off command leaves, and the device is in step 1; it
wakes an IDLE device (R64). A closed gate is held while ticks are lost, and the command waits for them (R15). With
HSW_BLEED.EN at 0 the path goes to OFF, a bleed in progress too. -/
def fExtractAssert (d : Dev) : Dev :=
  if d.pins.extractLow then d
  else
    let d := { d with pins.extractLow := true }.wake 6
    let d := d.leaveForInput.onHsw fun h => { h with ibcEn := false, ibcFall := none, extBleed := false }
    match d.hsw.state with
    | .wait => d.onHsw fun h => { h with offCmd := some d.now }
    | .latched => d.onHsw fun h => { h with offCmd := some d.now }
    | .bleed => d.onHsw fun h =>
        if d.regs.act.HSW_BLEED_EN = 1 then { h with offCmd := none, extBleed := true } else { h with offCmd := some d.now }
    | _ => if d.hsw.tickLost && d.hsw.closed then d.onHsw fun h => { h with extCmd := true } else d.extractOff
def execExtractAssert (t : Nat) (s : State) := run t fExtractAssert s

/-- EXTRACT_RELEASE (R35): step 1 may complete. -/
def fExtractRelease (d : Dev) : Dev := { d with pins.extractLow := false }.tryStep1
def execExtractRelease (t : Nat) (s : State) := run t fExtractRelease s

/-- VBUS_HV_BELOW_POWER_ON (R457): the high-voltage die stops, and a bleed ends without BLEED_TIMEOUT; the supervisor is
below until it is operational again (R36). -/
def fVbusHvBelowPowerOn (m : Memory) (d : Dev) : Dev :=
  let d := if d.pins.above then fSupervisorFall d else d
  let d := { d with pins.vbusHv := false }
  let d := if d.hsw.state = .bleed then d.endBleed m else d
  d.onHsw fun h => { h with offCmd := none, extCmd := false, sunk := false }
def execVbusHvBelowPowerOn (t : Nat) (s : State) := runRead t fVbusHvBelowPowerOn s

/-- VBUS_HV_POWER_ON (R36, R456): the supervisor is operational, in the below state. -/
def fVbusHvPowerOn (d : Dev) : Dev := if d.pins.vbusHv then d else { d with pins.vbusHv := true, pins.above := false }
def execVbusHvPowerOn (t : Nat) (s : State) := run t fVbusHvPowerOn s

end Sys2Proof.Machine
end

