-- ==== Sys2Proof/Machine/Measure.lean ====
section
/-! DEFINITION. Measurement (09_input_path.md, R297–R298; 10_measurement.md): metering samples, triggers, the SAR bank and its
path checks, the metering windows, and the central reader's snapshots. -/

namespace Sys2Proof.Machine

def Dev.onMeas (f : Meas → Meas) (d : Dev) : Dev := { d with meas := f d.meas }

/-! ### Input metering (R281, R297, R298, R317) -/

/-- The reference of the ramp after a sample of `v` mV (R281, R282): it stops while a limit acts and resumes from the bus
voltage, also where the limit has begun and ended since the last sample. -/
def Hsw.nextRef (h : Hsw) (slew : Nat) (v : Int) : Nat :=
  if h.ilim || h.plim then h.ref
  else if h.limSince then (10 * v).toNat
  else h.ref + 8 * slew

/-- A sample as the high-voltage die takes it (R14, R281): its own readings, the ramp's reference and the samples of its rise.
While ticks are lost the drop monitor's reading and whether the loop holds the current at its limit come with it (`drop`, `acting`;
DESIGN CHOICE: log entry 103). -/
def Dev.hvSample (vraw : Nat) (iraw : Int) (drop : Nat) (acting : Bool) (d : Dev) : Dev :=
  let d := d.onHsw fun h => { h with hvV := h.hvCal 0 vraw, hvI := h.hvMa iraw }
  let d := d.when d.hsw.tickLost fun d => (d.onHsw (Hsw.readDrop d.tb.wall drop)).setLimit acting
  d.onHsw fun h => if h.state = .ramp then
      { h with ref := h.nextRef (atLeast1 h.sent.slew) h.hvV, ramp := ⟨h.hvV, h.hvI, h.limSince⟩ :: h.ramp, limSince := h.ilim || h.plim }
    else { h with limSince := h.ilim || h.plim }

/-- A window after one more sample (R317). -/
def Window.add (w : Window) (first : Bool) (t : Nat) (v i p : Int) : Window :=
  let w := if first then { w with start := t } else w
  { w with ns := w.ns + 1, vmin := if w.ns = 0 then v else min w.vmin v, vmax := if w.ns = 0 then v else max w.vmax v,
           imax := if w.ns = 0 then i else max w.imax i,
           ein := if 0 ≤ p then w.ein + 8 * p.toNat else w.ein, erev := if 0 ≤ p then w.erev else w.erev + 8 * (-p).toNat }

/-- The newest `k` of a list whose newest comes last. -/
def lastOf {α : Type} (k : Nat) (l : List α) : List α := l.drop (l.length - k)

/-- METERING_SAMPLE (R297). Before the timebase runs the high-voltage die's readings serve its own decisions alone (R14, R20). -/
def fMeteringSample (vraw : Nat) (iraw : Int) (x : DieSample) (d : Dev) : Dev :=
  let vr := vraw % 65536
  let ir := clampI (-32768) 32767 iraw
  let br := x.vib % 4096
  let v := d.hsw.cal 0 (vr : Nat)
  let i := d.shuntMa ir
  let d := d.onHsw (Hsw.runOwn d.tb.wall)
  if !d.pins.vbusHv then d
  else if !d.tb.running then d.hvSample vr ir x.drop x.acting
  else
    let d := d.sendLimits.hvSample vr ir x.drop x.acting
    let p : Int := (v * i) / 1000
    let fwd := if 0 ≤ p then 8 * p.toNat else 0
    let d := d.onHsw fun h =>
      { h with
        vraw := vr, iraw := ir, v := v, i := i, p := p, vib := (h.cal 2 (br : Nat)).toNat,
        ein := h.ein + fwd, erev := h.erev + (if 0 ≤ p then 0 else 8 * (-p).toNat),
        life := (h.life + (h.lifeNj + fwd) / 1000000000) % 2 ^ 48, lifeNj := (h.lifeNj + fwd) % 1000000000 }
    let now := d.now
    let d := d.onMeas fun m => { m with win := m.win.add (!m.sampled) now v i p, sampled := true }
    let raw := (vr, ir, br)
    { d with prot.inputs := lastOf 8 (d.prot.inputs ++ [raw]),
             prot.pending := d.prot.pending.map fun r => { r with inputs := (r.inputs ++ [raw]).take 16 } }
def execMeteringSample (t vraw : Nat) (iraw : Int) (x : DieSample) (s : State) := run t (fMeteringSample vraw iraw x) s

/-- The spread counter of lifetime energy is written (R298). -/
def Dev.flushLife (d : Dev) : Dev := (d.onHsw fun h => { h with lifeFlush := d.now }).writeCounter 512 d.hsw.life

/-- LIFETIME_ENERGY_FLUSH (R298): from step 10 of a cold start on, when the energy has resumed from its counter (R48). -/
def fLifetimeEnergyFlush (d : Dev) : Dev :=
  if d.tb.running && d.evt.released && d.hsw.lifeFlush + atLeast1 d.regs.act.MEAS_INCFG_FLUSH * secEu ≤ d.now then d.flushLife else d
def execLifetimeEnergyFlush (t : Nat) (s : State) := run t fLifetimeEnergyFlush s

/-! ### Triggers (R309, R310, R312, R316, R325) -/

/-- Step `j` of the list of converter `c` as written (R329): input and queue, while EN is 1. -/
def Dev.seqStep (d : Dev) (c j : Nat) : Option (Nat × Nat) :=
  let w := d.regs.act.rd (aMEAS_SEQA0 + 16 * c + 4 * (j / 4))
  let b := 8 * (j % 4)
  let i := fld w (b + 3) b
  if fld w (b + 7) (b + 7) = 0 then none else some (if i = 13 || i = 14 then 15 else i, fld w (b + 5) (b + 4))

/-- The list of converter `c`: it ends at the first step whose EN is 0 (R309). -/
def Dev.seqList (d : Dev) (c : Nat) : List (Nat × Nat) :=
  let steps := (List.range 16).map (d.seqStep c)
  (steps.takeWhile (·.isSome)).filterMap id

/-- The central reader starts on a table of the counts as they stand (R325). -/
def Dev.snapshot (ts label : Nat) (d : Dev) : Dev :=
  if d.meas.snapBusy.isSome then (d.stick aPERF_STAT 0x2).count aPERF_SNAPOVRCNT
  else d.onMeas fun m => { m with snapBusy := some (ts, label, d.regs.cnt) }

/-- A trigger at `te` (R310): ignored while the bank is busy; else accepted, with the label of a domain snapshot or the
next number. The snapshot it starts holds what was stamped before it, so not its own acceptance (R325). -/
def Dev.trigger (te : Nat) (label : Option Nat) (d : Dev) : Dev :=
  if !d.tb.running then d
  else if d.meas.seq.isSome || d.meas.closing.isSome then (d.stick aMEAS_SARSTAT 0x4).count aMEAS_OVRCNT
  else
    let seq := (label.getD (d.meas.tseq + 1)) % 2 ^ 32
    let lists := (List.range 4).map d.seqList
    let lp := d.regs.act.MEAS_SARCFG_LP = 1 || d.sys.state = .idle
    let d := d.catchOutput.when (d.regs.act.PERF_CFG_TRIGSNAP = 1) (Dev.snapshot te seq)
    let d := d.count aMEAS_TRIGCNT
    d.onMeas fun m =>
      { m with tseq := seq, te := te, lpAct := lp,
               seq := if lists.all (·.isEmpty) then none else some ⟨te, seq, lp, lists, [0, 0, 0, 0]⟩,
               closing := some ⟨if m.sampled then m.win else { m.win with start := (Config.windowWithoutSample te 0).toNat }, te, seq⟩,
               win := { start := te }, sampled := true }

/-! ### Results (R307, R311, R314, R315) -/

/-- Whether input `i` of a converter is served by a spare path (R308). -/
def Converter.spared (c : Converter) (i : Nat) : Bool := i < 13 && (c.sp13 = i || c.sp14 = i)

/-- Whether the path of input `i` has failed and no spare serves it or waits to (R308, R314). -/
def Converter.bad (c : Converter) (i : Nat) : Bool :=
  i < 13 && c.failed.testBit i && !c.spared i && !c.pendingFail.any fun p => p = i

/-- A queue entry (R314). -/
def entryOf (c : Converter) (conv input tseq code : Nat) (first lp : Bool) : Word :=
  pk [(0, 12, code), (12, 1, (c.bad input).toNat), (13, 1, (c.spared input).toNat), (14, 1, lp.toNat), (15, 1, first.toNat),
    (16, 8, tseq), (24, 2, conv), (26, 6, 16 * conv + input)]

/-- An entry for queue `k`, or its loss when the queue is full (R315). -/
def Dev.queueEntry (k : Nat) (e : Word) (d : Dev) : Dev :=
  if (d.meas.queues.getD k []).length < 256 then d.onMeas fun m => { m with queues := modAt m.queues k (· ++ [e]) }
  else (d.count (aMEAS_QLOST k)).stick (aMEAS_QSTAT k) 0x200

/-- The conversion time in eu (R311). -/
def Sequence.tc (q : Sequence) : Nat := if q.lp then 4 * usEu else usEu

/-- Whether the next result of converter `c` comes before every other outstanding one: by step, then by converter (R314). -/
def Sequence.isNext (q : Sequence) (c : Nat) : Bool :=
  let j := q.taken.getD c 0
  (List.range 4).all fun x =>
    let k := q.taken.getD x 0
    (q.lists.getD x []).length ≤ k || j < k || (j = k && c ≤ x)

/-- SAR_RESULT (R311): the next result of a converter enters its queue and is counted, or is lost (R315, R331); the sequence
ends with the last. -/
def fSarResult (conv code : Nat) (d : Dev) : Dev :=
  match d.meas.seq with
  | none => d
  | some q =>
    let j := q.taken.getD conv 0
    match (q.lists.getD conv [])[j]? with
    | none => d
    | some (input, queue) =>
      if d.now < q.te + 2048 + (j + 1) * q.tc || !q.isNext conv then d
      else
        let r := min 4095 code
        let e := entryOf (d.meas.conv.getD conv {}) conv input q.tseq r (j = 0) q.lp
        let q := { q with taken := modAt q.taken conv (· + 1) }
        let done := (List.range 4).all fun x => decide ((q.lists.getD x []).length ≤ q.taken.getD x 0)
        let d := (d.when ((d.meas.queues.getD queue []).length < 256) (Dev.count (aMEAS_CONV conv))).queueEntry queue e
        d.onMeas fun m =>
          { m with seq := if done then none else some q,
                   dieTemp := if 16 * conv + input = 26 then r else m.dieTemp,
                   dieTaken := m.dieTaken || 16 * conv + input = 26 }
def execSarResult (t conv code : Nat) (s : State) := run t (fSarResult conv code) s

/-! ### Path checks (R308) -/

/-- The input whose signal path `p` of a converter carries: 15 for a spare not in use. -/
def Converter.serves (c : Converter) (p : Nat) : Nat := if p = 13 then c.sp13 else if p = 14 then c.sp14 else p

/-- The code of 1.000 V through the scaling of an input (R308). -/
def refCode (conv input : Nat) : Nat :=
  if conv = 1 && input = 8 then 1000
  else if (conv = 2 || conv = 3) && 8 ≤ input && input ≤ 11 then 4048
  else 2000

/-- PATH_CHECK (R308): the path in turn is checked; two failed checks in a row fail it. -/
def fPathCheck (conv code : Nat) (d : Dev) : Dev :=
  let int := d.regs.act.MEAS_CHKCFG_INT
  let c := d.meas.conv.getD conv {}
  if 4 ≤ conv || int = 0 || d.meas.seq.isSome || !d.tb.running || d.now < c.lastCheck + int * 10 * usEu then d
  else
    let p := c.nextPath
    let serves := c.serves p
    let e := refCode conv serves
    let tol := d.regs.act.MEAS_CHKCFG_TOL
    let out := decide (code + tol < e) || decide (e + tol < code)
    let fails := out && c.oneFail.testBit p && !c.failed.testBit p
    let one := c.oneFail - c.oneFail % 2 ^ (p + 1) + c.oneFail % 2 ^ p + (if out then 2 ^ p else 0)
    let c := { c with nextPath := (p + 1) % 15, lastCheck := d.now, oneFail := one,
                      failed := if fails then c.failed + 2 ^ p else c.failed,
                      pendingFail := if fails && serves < 13 then c.pendingFail ++ [p] else c.pendingFail }
    let d := d.onMeas fun m => { m with conv := m.conv.set conv c }
    let d := d.when out (Dev.count aMEAS_CHKFAIL)
    let ch := 16 * conv + (if serves < 13 then serves else p)
    d.when fails fun d => d.raiseDev 0x200F (leBytes 1 ch ++ [0] ++ leBytes 2 code)
def execPathCheck (t conv code : Nat) (s : State) := run t (fPathCheck conv code) s

/-- The lowest-numbered working spare path not in use. -/
def Converter.freeSpare (c : Converter) : Option Nat :=
  if c.sp13 = 15 && !c.failed.testBit 13 then some 13
  else if c.sp14 = 15 && !c.failed.testBit 14 then some 14
  else none

/-- Path `p` ceases to serve, and the spare `q`, if there is one, takes over its signal. -/
def Converter.switch (c : Converter) (p input : Nat) (q : Option Nat) : Converter :=
  let c := { c with pendingFail := c.pendingFail.drop 1, sp13 := if p = 13 then 15 else c.sp13,
                    sp14 := if p = 14 then 15 else c.sp14 }
  match q with
  | some 13 => { c with sp13 := input }
  | some _ => { c with sp14 := input }
  | none => c

/-- SPARE_PATH_SWITCH (R308): while no sequence runs. -/
def fSparePathSwitch (conv : Nat) (d : Dev) : Dev :=
  let c := d.meas.conv.getD conv {}
  match c.pendingFail with
  | [] => d
  | p :: _ =>
    if d.meas.seq.isSome then d
    else
      let input := c.serves p
      let q := c.freeSpare
      let d := d.onMeas fun m => { m with conv := m.conv.set conv (c.switch p input q) }
      match q with
      | some q => d.raiseDev 0x3006 (leBytes 1 (16 * conv + input) ++ leBytes 1 q)
      | none => d.raiseDev 0x2010 (leBytes 1 (16 * conv + input))
def execSparePathSwitch (t conv : Nat) (s : State) := run t (fSparePathSwitch conv) s

/-! ### Windows and snapshots (R316, R325) -/

/-- A window as published: without a sample its extremes are free values (R317). -/
def Closing.published (c : Closing) : Closing :=
  if c.win.ns ≠ 0 then c
  else
    let w := c.win
    ⟨{ w with vmin := Config.windowWithoutSample c.te 1, vmax := Config.windowWithoutSample c.te 2,
              imax := Config.windowWithoutSample c.te 3 }, c.te, c.tseq⟩

/-- WINDOW_PUBLISH (R316). -/
def fWindowPublish (d : Dev) : Dev :=
  match d.meas.closing with
  | none => d
  | some c => d.onMeas fun m => { m with pub := c.published, closing := none }
def execWindowPublish (t : Nat) (s : State) := run t fWindowPublish s

/-- PERF_SNAPSHOT_COMPLETE (R325): the table is replaced whole. -/
def fPerfSnapshotComplete (d : Dev) : Dev :=
  match d.meas.snapBusy with
  | none => d
  | some (ts, label, table) =>
    let d := d.onMeas fun m => { m with snapBusy := none, snapSeq := label, snapTime := ts }
    { d with regs.snap := table }
def execPerfSnapshotComplete (t : Nat) (s : State) := run t fPerfSnapshotComplete s

end Sys2Proof.Machine
end

