-- ==== Sys2Proof/Machine/Recorder.lean ====
section
/-! DEFINITION. The event recorder (12_event_recorder.md): records written and lost, the last-words latches, the log and
its window, the clear, and the archive of last-fault records. -/

namespace Sys2Proof.Machine

def Dev.onEvt (f : Recorder → Recorder) (d : Dev) : Dev := { d with evt := f d.evt }

/-! ### Steps in progress (R335, R336, R339, R357) -/

/-- The addresses of the aligned words that `n` bytes from `a` touch. -/
def wordsOf (a n : Nat) : List Nat := (List.range ((a % 8 + n + 7) / 8)).map fun i => a / 8 * 8 + 8 * i

/-- Words programmed whole no longer fail (R336); their physical addresses are given. -/
def Loft.heal (ws : List Nat) (l : Loft) : Loft := { l with failing := l.failing.filter fun w => !ws.contains w }

/-- The end of the protected range under a BP (R339). -/
def protEnd (bp : Nat) : Nat := if bp = 0 then 0 else if bp = 1 then 0x1000000 else if bp = 2 then 0x2000000 else 0x4000000

/-- The step that holds the write buffer: one of the job's own, or one of the remap table's (R337). -/
def Loft.current (l : Loft) : Option (Nat × List Byte) :=
  match l.busy, l.remapping, l.jobs with
  | true, some w, _ => w.steps.head?
  | true, none, j :: _ => j.steps.head?
  | _, _, _ => none

/-- The array and the failing words once the step in progress is programmed: what a read that waits for it meets (R357, R380). -/
def Loft.landed (l : Loft) (m : Memory) : Memory × Loft :=
  match l.current with
  | some (a, bs) =>
    if a < protEnd l.bp then (m, l)
    else ((List.range bs.length).foldl (fun m i => m.wr (l.phys (a + i)) (bs.getD i 0)) m, l.heal ((wordsOf a bs.length).map l.phys))
  | none => (m, l)

/-! ### The log as the device reads it (R368, R369, R371) -/

/-- The record in the slot of a position, if it is a record: its CRC checks and no word fails (R369). -/
def Loft.slotRecord (l : Loft) (m : Memory) (pos : Nat) : Option (List Byte) :=
  let a := logAddr pos
  let b := l.read m a 64
  if (l.failsIn a 64).isEmpty && crc32 (b.take 60) = leNat (b.drop 60) then some b else none

/-- POS of a record's bytes. -/
def recPos (b : List Byte) : Nat := leNat ((b.drop 0x0B).take 3)

/-- CODE of a record's bytes. -/
def recCode (b : List Byte) : Nat := leNat ((b.drop 0x0E).take 2)

/-- The record of position `pos`: its POS must match (R369). -/
def Loft.recordAt (l : Loft) (m : Memory) (pos : Nat) : Option (List Byte) :=
  match l.slotRecord m pos with
  | some b => if recPos b = pos % 2 ^ 24 then some b else none
  | none => none

/-- The scan of R371 from a position: where EVT_HEAD is, and whether the scan passed a LOG_CLEARED record. -/
def Loft.scanHead (l : Loft) (m : Memory) : Nat → Nat → Bool → Nat × Bool
  | 0, p, c => (p, c)
  | fuel + 1, p, c =>
    match l.slotRecord m p with
    | some b =>
      if recPos b = p % 2 ^ 24 then l.scanHead m fuel (p + 1) c
      else if recCode b = 0x7002 && recPos b = (p + logSlots) % 2 ^ 24 then l.scanHead m fuel (p + logSlots + 1) true
      else (p, c)
    | none => (p, c)

/-- The first position of the readable window (R369). -/
def Recorder.first (r : Recorder) : Nat := r.head - logSlots

/-- The valid records of the window (R373 step 2). -/
def Dev.windowCount (m : Memory) (d : Dev) : Nat :=
  ((List.range (d.evt.head - d.evt.first)).filter fun i => (d.loft.recordAt m (d.evt.first + i)).isSome).length

/-- The slots of `n` positions from `p` are read, round the ring (R336, R359, R368). -/
def Dev.noteSlots (p n : Nat) (d : Dev) : Dev :=
  let k := min n (logSlots - p % logSlots)
  (d.noteRead (logAddr p) (64 * k)).when (k < n) fun d => d.noteRead (logAddr 0) (64 * (n - k))

/-! ### A record has been written (R366–R370, R377) -/

/-- The source of the record is freed: the latch is cleared, the entry leaves the queue, or the pending losses return to 0
(R366, R367, R377). -/
def Recorder.free (r : Recorder) : RecSrc → Recorder
  | .latch => { r with latches := r.latches.drop 1, lwWritten := r.lwWritten + 1 }
  | .queue i => { r with queue := r.queue.eraseIdx i }.freed
  | .summary => { r with lost := List.replicate 8 0 }
  | .cleared => r

/-- Once no latch is left to write the loft is usable again, and LOFT_RECOVERED tells of it (R375, R377). -/
def Dev.latchesWritten (d : Dev) : Dev :=
  if d.evt.latches.isEmpty && (d.evt.unusable || d.evt.lwWritten ≠ 0) then
    let data := [BitVec.ofNat 8 d.evt.lwWritten, BitVec.ofNat 8 (min 255 d.evt.lwOver)]
    let d := d.onEvt fun r => { r with lwWritten := 0, lwOver := 0, unusable := false }
    d.raiseDev 0x3009 data
  else d

/-- EVT_HEAD advances by 1; counter 515 follows at each multiple of 256 (R368, R370). -/
def Dev.advanceHead (always : Bool) (d : Dev) : Dev :=
  let h := d.evt.head + 1
  let d := d.onEvt fun r => { r with head := h }
  d.when (always || h % 256 = 0) (Dev.writeCounter 515 h)

/-- The record is not written (R368): a fault-class record moves to the latches, another is discarded and counted lost. -/
def Dev.recordDropped (c : RecCur) (d : Dev) : Dev :=
  match c.src with
  | .latch => d
  | .queue _ =>
    let d := d.onEvt fun r => r.free c.src
    if evClass c.ev.code = 1 then d.toLatch c.ev else d.loseEvent c.ev
  | _ => d.loseEvent c.ev

/-- LOG_WRITE_FAILED (R363). -/
def Dev.raiseWriteFailed (pos : Nat) (d : Dev) : Dev := d.raiseDev 0x100E (leBytes 8 pos ++ leBytes 4 (d.reg aLOFT_STATUS).toNat)

/-- A record that failed for want of a spare (R368): EVT_HEAD passes its slot. -/
def Dev.recordFailed (c : RecCur) (d : Dev) : Dev := ((d.recordDropped c).advanceHead true).raiseWriteFailed c.pos

/-- A record that block protection refused is discarded (R368). -/
def Dev.recordRefused (d : Dev) : Dev := (d.stick aEVT_STATUS 0x8000).count aEVT_PROTLOST

/-- The record's two steps have ended (R368). -/
def Dev.recordEnded (d : Dev) : Dev :=
  match d.evt.cur with
  | none => d
  | some c =>
    if c.src = .cleared then d
    else match c.ended with
      | none => d
      | some .done =>
        let d := (d.onEvt fun r => { r.free c.src with cur := none }).count aEVT_RECCNT
        let d := d.when (c.src = .summary) (Dev.count aEVT_SUMCNT)
        (d.advanceHead false).latchesWritten
      | some .refused =>
        let d := d.onEvt fun r => { r.free c.src with cur := none, lwWritten := r.lwWritten }
        d.recordRefused.latchesWritten
      | some .noSpare => (d.onEvt fun r => { r with cur := none }).recordFailed c
      | some .portFail => d.onEvt fun r => { r with cur := none }

/-- EVENT_RECORD_WRITTEN (R368). -/
def fEventRecordWritten (d : Dev) : Dev := d.recordEnded
def execEventRecordWritten (t : Nat) (s : State) := run t fEventRecordWritten s

/-- LOG_CLEARED is written (R373 step 4): EVT_HEAD passes it and counter 515 is to follow. -/
def Dev.clearWritten (pos : Nat) (d : Dev) : Dev :=
  ((d.count aEVT_RECCNT).onEvt fun r => { r with head := pos + 1, cur := none, cleared := true }).writeCounter 515 (pos + 1)

/-- A record whose two steps were programmed before the port failed is written (R368, R375). -/
def Dev.settleRecord (d : Dev) : Dev :=
  match d.evt.cur with
  | some c => if c.ended ≠ some .done then d else if c.src = .cleared then d.clearWritten c.pos else d.recordEnded
  | none => d

/-! ### The loft fails (R356, R375, R376) -/

/-- The fault-class events of the queue, and the held ones that follow them in, take latches in order (R365, R376). -/
def Dev.queueToLatches (d : Dev) : Dev :=
  let faults := (d.evt.queue.filter fun e => evClass e.code = 1) ++ d.evt.hold
  let d := d.onEvt fun r => { r with queue := r.queue.filter (fun e => evClass e.code ≠ 1), hold := [] }
  d.each faults Dev.toLatch

/-- The loft becomes unusable (R375): LOFT_PORTFAIL takes a latch, the queued fault-class entries follow; a record being
written stays queued or is in a latch, and nothing of it is written later; a clear stops as though cut off with code 3 (R380), or,
with LOG_CLEARED written, has removed what it should: code 0 (DESIGN CHOICE: log entry 117). Step 10 begins afresh. -/
def Dev.loftUnusable (addr : Nat) (d : Dev) : Dev :=
  let d := d.settleRecord
  let d := { d with loft.portOk := false, loft.portRetry := d.now, loft.jobs := d.loft.jobs.filter (fun j => j.tag ≠ LoftTag.event), sys.tail := false }
  let d := d.onEvt fun r =>
    { r with unusable := true, cur := none, clearing := false, cleared := false,
             clearCode := if !r.clearing then r.clearCode else if r.cleared then 0 else 3 }
  (d.raiseDev 0x100B (leBytes 4 (d.reg aLOFT_STATUS).toNat ++ leBytes 4 addr)).queueToLatches

/-! ### Clearing the log (R373, R374) -/

/-- The code of a clear's refusal, 0 for none (R374). -/
def Dev.clearRefusal (d : Dev) : Nat :=
  if d.acc.level < 2 then 1
  else if d.loft.bp = 3 then 2
  else if d.evt.unusable || !d.evt.latches.isEmpty then 3
  else if d.evt.clearing then 4
  else 0

/-- EVT_CTRL.CLEAR (R373, R374). -/
def Dev.startClear (d : Dev) : Dev :=
  let k := d.clearRefusal
  if k ≠ 0 then d.onEvt fun r => { r with clearCode := k }
  else d.onEvt fun r => { r with clearing := true, clearSession := d.acc.session }

/-- The LOG_CLEARED record (R373). -/
def Dev.clearedRec (m : Memory) (d : Dev) : EvRec :=
  d.mkEvent 0x7002 d.gaDev
    (leBytes 4 d.evt.clearSession ++ leBytes 4 (d.windowCount m) ++ leBytes 8 d.evt.first ++ leBytes 8 d.evt.head)

/-- The clear ends with a code and the recorder resumes. -/
def Dev.endClear (code : Nat) (d : Dev) : Dev := d.onEvt fun r => { r with cur := none, clearing := false, cleared := false, clearCode := code }

/-- A value of spread counter `k` is still to be programmed. -/
def Loft.counting (l : Loft) (k : Nat) : Bool :=
  l.jobs.any fun j => match j.req with
    | .counter c _ => c = k
    | _ => false

/-- LOG_CLEAR_COMPLETE (R373): first, with no record in progress, the count is complete and LOG_CLEARED is handed to the
loft; once it is written EVT_HEAD jumps and counter 515 follows; with that programmed the recorder resumes. -/
def fLogClearComplete (m : Memory) (d : Dev) : Dev :=
  if !d.evt.clearing then d
  else if d.evt.cleared then d.when (!d.loft.counting 515) (Dev.endClear 0)
  else match d.evt.cur with
    | none =>
      let e := d.clearedRec m
      let k := d.evt.head + logSlots
      let d := d.noteSlots d.evt.first (d.evt.head - d.evt.first)
      let d := d.onEvt fun r => { r with cur := some ⟨.cleared, e, k, none⟩ }
      { d with loft.jobs := d.loft.jobs ++ [recJob e k] }
    | some c =>
      if c.src ≠ .cleared then d
      else match c.ended with
        | none => d
        | some .done => d.clearWritten c.pos
        | some .refused => d.recordRefused.endClear 2
        | some .noSpare => ((d.recordFailed c).endClear 3)
        | some .portFail => d.endClear 3
def execLogClearComplete (t : Nat) (s : State) := runRead t fLogClearComplete s

/-! ### Reading records (R372, R381) -/

/-- EVT_RPOS. -/
def Dev.rpos (d : Dev) : Nat := (d.regs.act.rd aEVT_RPOSL).toNat + fld (d.regs.act.rd aEVT_RPOSH) 15 0 * 2 ^ 32

/-- Write a live field's register: what is in force and what reads back. -/
def Dev.setLive2 (a : Nat) (v : Word) (d : Dev) : Dev :=
  { d with regs.act := d.regs.act.wr a v, regs.hold := d.regs.hold.wr a v }

/-- The 32-bit words of a record's bytes. -/
def recWords (b : List Byte) : List Word := (List.range 16).map fun i => BitVec.ofNat 32 (leNat ((b.drop (4 * i)).take 4))

/-- A read of EVT_RDATA0 (R372): the record at EVT_RPOS is latched and EVT_RPOS advances by 1. A read that meets the recorder
waits for its step (R380; log entry 92). -/
def Dev.latchRecord (m : Memory) (d : Dev) : Dev :=
  let p := d.rpos
  let inWindow := decide (d.evt.first ≤ p) && decide (p < d.evt.head) && d.loft.portOk
  let x := d.loft.landed m
  let r := if inWindow then x.2.recordAt x.1 p else none
  let d := if inWindow then d.noteFails (x.2.failsIn (logAddr p) 64).length (logAddr p) 64 else d
  let d := d.onEvt fun e =>
    { e with rslot := p % logSlots, rvalid := r.isSome, rwords := (r.map recWords).getD (List.replicate 16 0) }
  let q := (p + 1) % 2 ^ 48
  (d.setLive2 aEVT_RPOSL (BitVec.ofNat 32 q)).setLive2 aEVT_RPOSH (BitVec.ofNat 32 (q / 2 ^ 32))

/-! ### The waveform archive (R378) -/

/-- The loft address of the archive slot of a SEQ (R378). -/
def archAddr (seq : Nat) : Nat := 0x1000000 + 0x10000 * (seq % 256)

/-- ARCHIVE_COPY_WRITE (R378): the copy of the oldest record due is handed to the loft, byte for byte from its slot; without
a port it waits. -/
def fArchiveCopyWrite (m : Memory) (d : Dev) : Dev :=
  match d.prot.archQueue with
  | [] => d
  | seq :: rest =>
    if d.prot.archBusy || !d.loft.portOk then d
    else match d.prot.lfSlots.findIdx? (· = some seq) with
      | none => { d with prot.archQueue := rest }
      | some slot =>
        let bs := d.loft.read m (lfAddr slot) 0x10000
        let d := (d.noteRead (lfAddr slot) 0x10000).loftJob
          { prio := 0, tag := .archive, req := .plain, steps := recordSteps (archAddr seq) bs, begun := false }
        { d with prot.archBusy := true }
def execArchiveCopyWrite (t : Nat) (s : State) := runRead t fArchiveCopyWrite s

end Sys2Proof.Machine
end

