-- ==== Sys2Proof/Machine/Install.lean ====
section
/-! DEFINITION. Image and certificate installs (14_management_and_access.md, R443–R446; 11_the_loft.md, R346–R349): the
stream, the checks, the steps handed to the loft, and what follows when they have ended. -/

namespace Sys2Proof.Machine

/-- The bytes of the words of a stream, in order. -/
def wordBytes (ws : List Word) : List Byte := ws.flatMap fun w => leBytes 4 w.toNat

/-- The longest body in words (R346). -/
def bodyWords : Nat := 65408

/-- A refusal of BEGIN, 0 for none: 0x09 under block protection; 1 marks an install in progress (R443, R444). -/
def Dev.beginRefusal (d : Dev) : Nat :=
  if d.acc.inst.active then 1 else if 1 ≤ d.loft.bp then 9 else 0

/-- SEQ of the image written next: one more than the higher SEQ of the valid copies (R348). -/
def Loft.nextImageSeq (l : Loft) : Nat := max l.imgSeqA l.imgSeqB + 1

/-- The copy ceases to be valid, or holds an image of a SEQ. -/
def Loft.setImageSeq (copyB : Bool) (seq : Nat) (l : Loft) : Loft :=
  if copyB then { l with imgSeqB := seq } else { l with imgSeqA := seq }

/-- BEGIN is accepted (R443 step 1): STARTED is written for the copy not in use. -/
def Dev.beginInstall (dual : Bool) (d : Dev) : Dev :=
  let copyB := !d.sys.imageB
  let seq := d.loft.nextImageSeq
  let session := d.acc.session
  let d := d.writeHist 1 copyB seq 0 session
  let d := { d with loft := { d.loft.setImageSeq copyB 0 with installing := true } }
  d.onInst fun _ => { state := .receiving, dual := dual, copyB := copyB, seq := seq, session := session }

/-- A body step of an install: `bytes` at offset `off` of the body of a copy. -/
def Dev.bodyStep (copyB : Bool) (off : Nat) (bytes : List Byte) (d : Dev) : Dev :=
  d.loftJob { prio := 4, tag := .installBody, req := .plain, steps := [(imageAddr copyB + 512 + off, bytes)], begun := false }

/-- The buffered body words are handed to the loft (R443 step 2). -/
def Dev.flushBody (d : Dev) : Dev :=
  let i := d.acc.inst
  if i.buffer.isEmpty then d
  else
    let d := d.bodyStep i.copyB i.bodyAt (wordBytes i.buffer)
    d.onInst fun i => { i with bodyAt := i.bodyAt + 4 * i.buffer.length, buffer := [] }

/-- One word of the stream (R442, R443, R446): it counts, it may belong to a certificate, and an install that receives
takes it as header or body. Body words beyond the copy are counted and not programmed. -/
def Dev.streamWord (w : Word) (d : Dev) : Dev :=
  let d := d.onInst fun i => { i with words := i.words + 1, shown := i.shown + 1, certWords := (i.certWords ++ [w]).take 25 }
  let i := d.acc.inst
  if i.state ≠ .receiving then d
  else if i.words ≤ 128 then d.onInst fun i => { i with header := i.header ++ [w] }
  else if 128 + bodyWords < i.words then d
  else
    let d := d.onInst fun i => { i with buffer := i.buffer ++ [w], crc := (leBytes 4 w.toNat).foldl crc32Byte i.crc }
    if d.acc.inst.buffer.length = 1024 then d.flushBody else d

/-! ### COMMIT (R443, R444) -/

/-- The header page of the stream as bytes. -/
def Install.headerBytes (i : Install) : List Byte := (wordBytes i.header ++ List.replicate 512 0).take 512

/-- BODY_LEN of the stream. -/
def Install.bodyLen (i : Install) : Nat := numAt i.headerBytes 0x0C 4

/-- The binding names this device or its family and part (R41, R346). -/
def Dev.bindingOk (d : Dev) (header : List Byte) : Bool :=
  numAt header 0x14 2 = 0x5158 && numAt header 0x16 2 = 0x0812 &&
  (numAt header 0x18 8 = 0 || numAt header 0x18 8 = d.fuseSerial)

/-- The first check of R444 that fails; 0 when all pass. -/
def Dev.commitCheck (d : Dev) : Nat :=
  let i := d.acc.inst
  let h := i.headerBytes
  let len := i.bodyLen
  if crc32 ((h.drop 8).take 0x1F4) ≠ numAt h 0x1FC 4 then 3
  else if len % 4 ≠ 0 || 261632 < len || (i.crc ^^^ 0xFFFFFFFF) ≠ numAt h 0x10 4 then 4
  else if i.words ≠ 128 + len / 4 then 6
  else if !d.bindingOk h then 5
  else if 0xFFFFFFFF < i.seq then 10
  else if i.failed then 7
  else 0

/-- The header from 0x008, then SEQ with NSEQ (R348 steps 3 and 4). -/
def finalSteps (copyB : Bool) (header : List Byte) (seq : Nat) : List (Nat × List Byte) :=
  let a := imageAddr copyB
  [(a + 8, header.drop 8), (a, leBytes 4 seq ++ leBytes 4 (0xFFFFFFFF - seq))]

/-- COMMIT (R443 steps 3 to 5). -/
def Dev.commitInstall (d : Dev) : Dev :=
  if d.acc.inst.state ≠ .receiving then d
  else
    let d := d.onInst fun i => { i with bodyCrc := numAt i.headerBytes 0x10 4 }
    let k := d.commitCheck
    if k ≠ 0 then d.rejectInstall k
    else
      let d := d.flushBody
      let i := d.acc.inst
      let steps := finalSteps i.copyB i.headerBytes i.seq
      let d := d.loftJob { prio := 4, tag := .installFinal, req := .plain, steps := steps, begun := false }
      let d := d.writeHist 2 i.copyB i.seq i.bodyCrc i.session
      d.onInst fun i => { i with state := .writing, code := 0 }

/-- The second copy of a DUAL install (R445): STARTED, the body and header read from the loft, SEQ, DONE. Where the port does not
answer the read, a step of it has failed (DEDUCED: log entry 118). -/
def Dev.beginSecond (m : Memory) (d : Dev) : Dev :=
  let i := d.acc.inst
  let from_ := imageAddr i.copyB
  let dst := imageAddr !i.copyB
  let d := d.writeHist 1 (!i.copyB) i.seq i.bodyCrc i.session
  if !d.loft.portOk then d.onInst fun i => { i with second := true, failed := true }
  else
  let body := d.loft.read m (from_ + 512) i.bodyLen
  let header := d.loft.read m from_ 512
  let d := d.noteRead from_ (512 + i.bodyLen)
  let steps := chunks (dst + 512) body 65 ++ finalSteps (!i.copyB) header i.seq
  let d := d.loftJob { prio := 4, tag := .dual, req := .plain, steps := steps, begun := false }
  let d := d.writeHist 2 (!i.copyB) i.seq i.bodyCrc i.session
  let d := { d with loft := d.loft.setImageSeq (!i.copyB) 0 }
  d.onInst fun i => { i with second := true }

/-- IMAGE_INSTALL_COMPLETE (R443, R445): every write of the install has ended. -/
def fImageInstallComplete (m : Memory) (d : Dev) : Dev :=
  let i := d.acc.inst
  if d.loft.jobs.any (·.tag.ofInstall) then d
  else if i.second then
    if i.failed then d.rejectInstall 7
    else
    let d := d.onInst fun i => { i with second := false }
    { d with loft := { d.loft.setImageSeq (!i.copyB) i.seq with installing := false } }
  else if i.state ≠ .writing then d
  else if i.failed then d.rejectInstall 7
  else
    let d := { d with loft := { d.loft.setImageSeq i.copyB i.seq with installing := false } }
    let d := (d.onInst fun i => { i with state := .done }).count aACC_INSTALLS
    let d := d.raiseDev 0x4101 ([BitVec.ofNat 8 i.copyB.toNat, BitVec.ofNat 8 i.dual.toNat, 0, 0] ++ leBytes 4 i.seq ++
      leBytes 4 i.bodyCrc ++ leBytes 4 i.session)
    if i.dual then { (d.beginSecond m) with loft.installing := true } else d
def execImageInstallComplete (t : Nat) (s : State) := runRead t fImageInstallComplete s

/-- ACC_INSTCTL.ABORT (R444). -/
def Dev.abortInstall (d : Dev) : Dev := if d.acc.inst.active then d.rejectInstall 8 else d

/-! ### Certificates (R299, R446) -/

/-- Whether a certificate's payload carries the integrity code of this device (R299). -/
def Dev.certCodeOk (d : Dev) (p : List Byte) : Bool := hmac d.deviceKey (p.take 0x40) = p.drop 0x40

/-- Whether a streamed payload carries it, with a timestamp of 0 (R446): one with another timestamp is refused as one whose code
fails (DEDUCED: log entry 45). -/
def Dev.streamCodeOk (d : Dev) (p : List Byte) : Bool :=
  (p.drop 0x24).take 10 = List.replicate 10 0 && d.certCodeOk p

/-- PATH, format and SHIFT lie in their ranges (R446). -/
def certFieldsOk (p : List Byte) : Bool := numAt p 0 2 ≤ 3 && numAt p 2 2 = 1 && numAt p 0x20 1 ≤ 40

/-- A certificate is refused with a code of R446. -/
def Dev.rejectCert (code : Nat) (d : Dev) : Dev :=
  let d := d.onInst fun i => { i with code := code }
  d.raiseDev 0x4104 ([BitVec.ofNat 8 code, 0, 0, 0] ++ leBytes 4 d.acc.inst.session)

/-- ACC_INSTCTL.CERT (R446): the streamed payload is checked, stamped, sealed anew and handed to the loft. -/
def Dev.installCert (d : Dev) : Dev :=
  let ws := d.acc.inst.certWords
  let p := wordBytes ws
  let session := d.acc.session
  let d := d.onInst fun i => { i with certWords := [], shown := 0, words := if i.active then i.words else 0,
                                      session := if i.active then i.session else session }
  if ws.length ≠ 24 then d.rejectCert 0x12
  else if !d.streamCodeOk p then d.rejectCert 0x10
  else if !certFieldsOk p then d.rejectCert 0x11
  else if 1 ≤ d.loft.bp then d.rejectCert 7
  else
    let b := p.take 0x24 ++ d.stamp ++ (p.drop 0x2E).take 0x12
    d.writeRec2 4 (.cert (numAt p 0 2)) (b ++ hmac d.deviceKey b)

/-- The write of a certificate has ended (R446). -/
def Dev.certWritten (p : Nat) (payload : List Byte) (ok : Bool) (d : Dev) : Dev :=
  if !ok then d.rejectCert 7
  else
    let d := ({ d with hsw.calPending := d.hsw.calPending ||| 2 ^ p }).count aACC_INSTALLS
    d.raiseDev 0x4103 ([BitVec.ofNat 8 p, 0, 0, 0] ++ leBytes 4 (numAt payload 4 4) ++ leBytes 4 d.acc.inst.session)

end Sys2Proof.Machine
end

