-- ==== Sys2Proof/Machine/Loft.lean ====
section
/-! DEFINITION. The loft controller (11_the_loft.md): programming, verification and remapping of steps, what the end of a job
leads to, cuts, port failures, block protection and host access. -/

namespace Sys2Proof.Machine

/-! ### Programming pages (R335–R338) -/

/-- Bytes of the array at a physical address. -/
def physBytes (m : Memory) (a n : Nat) : List Byte := m.rds a n

/-- How programming ended: every page verified, a remap of a page under way, or the step failed for want of a spare. -/
inductive PageEnd where
  | whole
  | remaps
  | fails
deriving DecidableEq, Repr

/-- The lowest-numbered spare that a remap table leaves free (R337). -/
def spareFree (table : List RemapEntry) : Option Nat := (List.range 992).find? fun i => !table.any fun e => e.spare = i && e.use ≠ 0

/-- A remap table's payload (R338). -/
def remapPayload (table : List RemapEntry) : List Byte :=
  (List.range 992).flatMap fun i =>
    match table.find? (fun e => e.spare = i) with
    | some e => leBytes 4 (e.page + e.use * 2 ^ 30)
    | none => [0, 0, 0, 0]

/-- The steps that write a remap table, a two-copy record of its own (R337 item 2, R343); none once its SEQ has ended. -/
def Dev.tableSteps (table : List RemapEntry) (d : Dev) : List (Nat × List Byte) :=
  if 0xFFFFFFFF ≤ (d.loft.winner .remap).elim 0 (·.seq) then [] else d.loft.rec2Steps .remap (remapPayload table)

/-- A write of the remap table that its SEQ no longer allows is logged (R343). -/
def Dev.noteTableEnd (d : Dev) : Dev := (d.stick aLOFT_STATUS 0x2000).raiseDev 0x6004 (leBytes 2 6)

/-- The table read from now on; a spare that serves is logged (R337, R359). -/
def Dev.takeRemap (w : RemapWrite) (d : Dev) : Dev :=
  let d := { d with loft.remap := w.table, loft.remapping := none }
  match w.spare with
  | some i => (d.count aLOFT_REMAPCNT).raiseDev 0x6001 (leBytes 4 w.page ++ leBytes 4 (sparePage0 + i))
  | none => d

/-- No spare serves page `p` (R337). -/
def Dev.noSpare (p : Nat) (d : Dev) : Dev := (d.stick aLOFT_STATUS 0x200).raiseDev 0x6002 (leBytes 4 p)

/-- The remap table is to be written with what the search found: the step waits for it (R337 item 2). A table that can no
longer be written, and one with nothing new, is taken at once. -/
def Dev.beginRemap (w : RemapWrite) (d : Dev) : Dev × PageEnd :=
  let d := d.when w.spare.isNone (Dev.noSpare w.page)
  let steps := if w.table = d.loft.remap then [] else d.tableSteps w.table
  if steps.isEmpty then
    let d := d.when (w.table ≠ d.loft.remap) Dev.noteTableEnd
    (d.takeRemap w, if w.spare.isNone then .fails else .whole)
  else ({ d with loft.remapping := some { w with steps := steps } }, .remaps)

/-- What programming a spare counts, with whether its first read-back fails (R337, R359). -/
def Dev.countSpare (bad1 : Bool) (d : Dev) : Dev :=
  (d.count aLOFT_PGWR (if bad1 then 2 else 1)).when bad1 (Dev.count aLOFT_VERFAILCNT)

/-- A spare that fails as well is marked as used, with no page (R337). -/
def Dev.markSpare (d : Dev) : Dev := (d.countSpare true).stick aLOFT_STATUS 0x100

/-- Spare `i` is tried for page `p` (R337): it takes the page's intended content, or fails too, is marked, and `next` goes on with
the table so marked. With no spare left the search ends. -/
def remapTry (fail1 fail2 : List Nat) (p : Nat) (content : List Byte) (left : Nat × List Byte)
    (next : List RemapEntry → Memory × Dev → Memory × Dev × PageEnd) (table : List RemapEntry) (r : Memory × Dev) :
    Option Nat → Memory × Dev × PageEnd
  | none =>
    let x := r.2.beginRemap ⟨table, p, none, [], left⟩
    (r.1, x.1, x.2)
  | some i =>
    let q := sparePage0 + i
    if fail1.contains q && fail2.contains q then next (⟨i, 0, 2⟩ :: table) (r.1, r.2.markSpare)
    else
      let d := r.2.countSpare (fail1.contains q)
      let x := { d with loft := d.loft.heal (wordsOf (q * 512) 512) }.beginRemap ⟨⟨i, p, 1⟩ :: table, p, some i, [], left⟩
      (r.1.wrs (q * 512) content, x.1, x.2)

/-- A page whose read-back has failed twice (R337): the lowest free spare is tried, and one that fails too is marked and the next is
taken; the table names the spare that serves, if one does. `left` is what is left of the step. -/
def remapPage (fail1 fail2 : List Nat) (p : Nat) (content : List Byte) (left : Nat × List Byte) :
    Nat → List RemapEntry → Memory × Dev → Memory × Dev × PageEnd
  | 0, _, r => (r.1, r.2, .fails)
  | fuel + 1, table, r =>
    remapTry fail1 fail2 p content left (remapPage fail1 fail2 p content left fuel) table r (spareFree table)

/-- The table with the spare that served page `p` marked as failed (R337). -/
def withoutPage (p : Nat) (table : List RemapEntry) : List RemapEntry :=
  table.map fun e => if e.use = 1 && e.page = p then { e with page := 0, use := 2 } else e

/-- One page of a step is programmed and read back; a second failure remaps it (R335, R337), but for a page whose entry the
controller would ignore (R338). `fail1` and `fail2` name the pages that fail the first and the second read-back. -/
def programPage (fail1 fail2 : List Nat) (p a : Nat) (bs : List Byte) (left : Nat × List Byte) (m : Memory) (d : Dev) :
    Memory × Dev × PageEnd :=
  let q := d.loft.pageOf p
  let pa := q * 512 + a % 512
  let bad1 := fail1.contains q
  let d := (d.count aLOFT_PGWR (if bad1 then 2 else 1)).when bad1 (Dev.count aLOFT_VERFAILCNT)
  if bad1 && fail2.contains q then
    let d := d.stick aLOFT_STATUS 0x100
    if remapIgnored p then (m, d.noSpare p, .fails)
    else remapPage fail1 fail2 p (physBytes (m.wrs pa bs) (q * 512) 512) left 993 (withoutPage p d.loft.remap) (m, d)
  else (m.wrs pa bs, { d with loft := d.loft.heal (wordsOf pa bs.length) }, .whole)

/-- The pages of a step, ascending (R335); it stops at the first page that a remap or its failure holds up. -/
def programPages (fail1 fail2 : List Nat) : Nat → Nat → List Byte → Memory → Dev → Memory × Dev × PageEnd
  | 0, _, _, m, d => (m, d, .whole)
  | fuel + 1, a, bs, m, d =>
    if bs.isEmpty then (m, d, .whole)
    else
      let n := 512 - a % 512
      let r := programPage fail1 fail2 (a / 512) a (bs.take n) (a + n, bs.drop n) m d
      if r.2.2 = .whole then programPages fail1 fail2 fuel (a + n) (bs.drop n) r.1 r.2.1 else r

/-! ### The end of a job -/

/-- The winner after a completed write of a two-copy record (R343). -/
def Loft.wonBy (r : Rec2) (l : Loft) : Loft :=
  match l.winner r with
  | some w => l.setWinner r ⟨!w.copyB, w.seq + 1⟩
  | none => l.setWinner r ⟨false, 1⟩

/-- The write of the input record has ended (R280, R290). -/
def Dev.inputWritten (payload : List Byte) (ok : Bool) (d : Dev) : Dev :=
  let rec_ := leNat (payload.take 1)
  { d with hsw.recDone := true, hsw.recEnded := rec_, hsw.recState := if ok then rec_ else d.hsw.recState }

/-- A last-fault record has been written to its slot (R267, R378): its copy is due in the archive. -/
def Dev.lastFaultWritten (d : Dev) : Dev :=
  match d.prot.pending with
  | [] => { d with prot.writing := false }
  | r :: _ =>
    let slot := lfChoose d.prot.lfSlots
    let d := { d with prot.slot := slot, prot.lfSeq := r.seq, prot.lfSlots := d.prot.lfSlots.set slot (some r.seq),
                      prot.archQueue := d.prot.archQueue ++ [r.seq] }
    (d.count aPROT_LFCNT).popRecord

/-- What the end of a last-fault record's write leads to; a cut write is made again (R267, R375). -/
def Dev.lastFaultEnded (e : LoftEnd) (d : Dev) : Dev :=
  match e with
  | .done => d.lastFaultWritten
  | .refused => (d.raiseDev 0x2013 [BitVec.ofNat 8 (lfChoose d.prot.lfSlots)]).popRecord
  | .noSpare => d.popRecord
  | .portFail => { d with prot.writing := false }

/-- What the end of an archive copy leads to (R378, R380). -/
def Dev.archiveEnded (e : LoftEnd) (d : Dev) : Dev :=
  let seq := d.prot.archQueue.headD 0
  let d := { d with prot.archQueue := d.prot.archQueue.drop 1, prot.archBusy := false }
  match e with
  | .done => d.count aEVT_ARCHCNT
  | .refused => d.raiseDev 0x2014 (leBytes 4 seq)
  | _ => d

/-- The code of a host step's end (R358). -/
def hostCode : LoftEnd → Nat
  | .done => 0 | .refused => 2 | .noSpare => 4 | .portFail => 5

/-- A counter that a new stage restarts was not written: neither is the serial table (R353). -/
def Loft.dropSerials (l : Loft) : Loft := { l with jobs := l.jobs.filter (fun j => j.tag ≠ .rec2 .serials || j.begun), changed := [] }

/-- The stage serial table is written, and each stage that changed is logged (R135, R353 item 3); with the table not written the next
census finds the same mismatches. -/
def Dev.serialsEnded (ok : Bool) (d : Dev) : Dev :=
  let cs := d.loft.changed
  let d := { d with loft.changed := [] }
  d.when ok fun d => d.each cs fun c d => d.raise 0x3007 (d.gaStall c.1) (leBytes 8 c.2.1 ++ leBytes 8 c.2.2)

/-- An image-history entry has become valid: the next HSEQ follows it (R349). -/
def Dev.histWritten (d : Dev) : Dev := { d with loft.histNext := d.loft.histNext + 1 }

/-- A step of an install has failed (R444): past COMMIT, nothing more of it is written (R348). -/
def Dev.installFailed (d : Dev) : Dev :=
  if !d.acc.inst.active then d
  else
    let d := d.onInst fun i => { i with failed := true }
    d.when (d.acc.inst.state = .writing || d.acc.inst.second) fun d => { d with loft := d.loft.dropInstall }

/-- What the end of a job leads to. -/
def Dev.jobEnded (j : LoftJob) (e : LoftEnd) (d : Dev) : Dev :=
  let ok := decide (e = .done)
  let payload := match j.req with
    | .rec2 _ p => p
    | _ => []
  match j.tag with
  | .counter => d
  | .serialCounter => d.when (!ok) fun d => { d with loft := d.loft.dropSerials }
  | .rec2 r =>
    let d := if ok then { d with loft := d.loft.wonBy r } else d
    match r with
    | .input => d.inputWritten payload ok
    | .cert p => d.certWritten p payload ok
    | .serials => d.serialsEnded ok
    | .keyArea =>
      let by_ := d.acc.keyBy.headD (0xD2, aACC_CTRL)
      let d := d.onAcc fun x => { x with keyBy := x.keyBy.tail }
      if ok then d else d.refuse 9 by_.1 by_.2
    | _ => d
  | .event => d.onEvt fun r => { r with cur := r.cur.map fun c => { c with ended := some e } }
  | .lastFault => d.lastFaultEnded e
  | .archive => d.archiveEnded e
  | .host => { d with loft.hostBusy := false, loft.hostCode := hostCode e }
  | .history => d.when ok Dev.histWritten
  | .started => if ok then d.histWritten else d.installFailed
  | .finished => if ok then d.histWritten else d.installFailed
  | .installBody => d.when (!ok) Dev.installFailed
  | .installFinal => d.when (!ok) Dev.installFailed
  | .dual => d.when (!ok) Dev.installFailed

/-- The job in progress ends: the buffer is free, and what its writer does follows. -/
def Dev.endJob (e : LoftEnd) (d : Dev) : Dev :=
  match d.loft.jobs with
  | [] => { d with loft.busy := false }
  | j :: js => ({ d with loft.jobs := js, loft.busy := false }).jobEnded j e

/-! ### A step completes (R335, R339) -/

/-- The step at the front of the job in progress is programmed and verified: the next begins, or the job has ended. -/
def Dev.stepEnded (d : Dev) : Dev :=
  let d := d.count aLOFT_STEPS
  match d.loft.jobs with
  | j :: js =>
    match j.steps.tail with
    | [] => d.endJob .done
    | rest => { d with loft.busy := false, loft.jobs := { j with steps := rest } :: js }
  | [] => d

/-- What is left of the step in progress takes its place (R337 item 3). -/
def Dev.resumeStep (left : Nat × List Byte) (d : Dev) : Dev :=
  { d with loft.jobs := match d.loft.jobs with
      | j :: js => { j with steps := left :: j.steps.tail } :: js
      | [] => [] }

/-- The remap table has been written (R337, R343): the step resumes with what is left of it, or has failed. -/
def Dev.remapEnded (w : RemapWrite) (d : Dev) : Dev :=
  let d := { d with loft := d.loft.wonBy .remap }.takeRemap w
  if w.spare.isNone then d.endJob .noSpare else if w.left.2.isEmpty then d.stepEnded else d.resumeStep w.left

/-- A step of the remap table's write completes (R337, R343); a page of it that fails twice cannot be remapped (R338), so the
write and the step it serves have failed, and nothing is remapped. -/
def remapStep (fail1 fail2 : List Nat) (w : RemapWrite) (m : Memory) (d : Dev) : Memory × Dev :=
  match w.steps with
  | [] => (m, d.remapEnded w)
  | (a, bs) :: rest =>
    let r := programPages fail1 fail2 9 a bs m d
    let d := r.2.1
    if r.2.2 ≠ .whole then (r.1, { d with loft.remapping := none }.endJob .noSpare)
    else
      let d := d.count aLOFT_STEPS
      if rest.isEmpty then (r.1, d.remapEnded w) else (r.1, { d with loft.remapping := some { w with steps := rest } })

/-- A step of the job in progress is programmed: refused under block protection, held up by a remap, failed or ended. -/
def programStep (fail1 fail2 : List Nat) (x : Nat × List Byte) (m : Memory) (d : Dev) : Memory × Dev :=
  if x.1 < protEnd d.loft.bp then (m, ((d.count aLOFT_PROTREF).stick aLOFT_STATUS 0x400).endJob .refused)
  else
    let r := programPages fail1 fail2 9 x.1 x.2 m d
    match r.2.2 with
    | .whole => (r.1, r.2.1.stepEnded)
    | .remaps => (r.1, r.2.1)
    | .fails => (r.1, r.2.1.endJob .noSpare)

/-- LOFT_STEP_COMPLETE (R335): the step in progress is programmed and verified, refused under block protection, or failed
for want of a spare; a page remapped puts the steps of the remap table's write before the rest of it (R337). -/
def fLoftStepComplete (fail1 fail2 : List Nat) (m : Memory) (d : Dev) : Memory × Dev :=
  if !d.loft.busy then (m, d)
  else match d.loft.remapping, d.loft.jobs with
    | some w, _ => remapStep fail1 fail2 w m d
    | none, [] => (m, { d with loft.busy := false })
    | none, j :: _ =>
      match j.steps with
      | [] => (m, d.endJob .done)
      | x :: _ => programStep fail1 fail2 x m d
def execLoftStepComplete (t : Nat) (fail1 fail2 : List Nat) (s : State) := runLoft t (fLoftStepComplete fail1 fail2) s

/-! ### Cuts and port failures (R336, R356, R357) -/

/-- The array and the failing words when a step is cut off (R336): the words before the one in progress new, that one new,
old or failing, the later ones old. -/
def cutStep (a : Nat) (bs : List Byte) (m : Memory) (l : Loft) : Memory × Loft :=
  let ws := wordsOf a bs.length
  let k := Config.tornWords l.cuts % (ws.length + 1)
  let kind := Config.tornKind l.cuts
  let whole := if kind = 0 then k + 1 else k
  let upto := 8 * (a / 8 + whole)
  let new := bs.take (upto - a)
  let m := (List.range new.length).foldl (fun m i => m.wr (l.phys (a + i)) (new.getD i 0)) m
  let l := l.heal ((ws.take whole).map l.phys)
  let bad := if kind ≤ 1 then [] else ((ws.drop k).take 1).map l.phys
  (m, { l with failing := bad ++ l.failing.filter (fun w => !bad.contains w), cuts := l.cuts + 1 })

/-- The step in progress is cut off, if there is one; a remap table that is not yet written whole names no new spare (R338). -/
def Dev.cutLoft (m : Memory) (d : Dev) : Memory × Dev :=
  match d.loft.current with
  | some (a, bs) =>
    if a < protEnd d.loft.bp then (m, { d with loft.remapping := none })
    else
      let r := cutStep a bs m d.loft
      (r.1, { d with loft := { r.2 with remapping := none } })
  | none => (m, { d with loft.remapping := none })

/-- The loft address of the request that got no answer: the step in progress, or the last read. -/
def Loft.request (l : Loft) : Nat := l.current.elim l.reqAddr (·.1)

/-- LOFT_PORT_TIMEOUT (R356, R375): the step in progress is cut off and its job has failed; a start fails in step 3 (R38). -/
def fLoftPortTimeout (m : Memory) (d : Dev) : Memory × Dev :=
  if !d.loft.portOk then (m, d)
  else
    let addr := d.loft.request
    let r := d.cutLoft m
    let d := r.2
    let busy := d.loft.busy
    let d := { d with loft.portOk := false }
    let d := d.when busy (Dev.endJob .portFail)
    let d := d.loftUnusable addr
    (r.1, d.when (decide (d.sys.state = DevState.start) && d.sys.step = 3) (Dev.enterHalt 3))
def execLoftPortTimeout (t : Nat) (s : State) := runLoft t fLoftPortTimeout s

/-- LOFT_PORT_RETRY (R356): every 1 ms; the first answer restores PORT_OK. -/
def fLoftPortRetry (answered : Bool) (d : Dev) : Dev :=
  if d.loft.portOk || !d.evt.unusable || d.now < d.loft.portRetry + msEu then d
  else { d with loft.portRetry := d.now, loft.portOk := answered }
def execLoftPortRetry (t : Nat) (answered : Bool) (s : State) := run t (fLoftPortRetry answered) s

/-! ### Block protection (R340) -/

/-- A write of LOFT_PROT.BP (R340, R447): a raise waits for the store die's protection word; a lowering takes effect at the
next cold start. -/
def Dev.writeProt (bp : Nat) (d : Dev) : Dev :=
  let bp := bp % 4
  let held := decide (bp < d.loft.bp)
  let d := if d.loft.bp < bp then { d with loft.protPend := some bp } else { d with loft.protPend := none, loft.bpWord := bp }
  d.raiseDev 0x4106 ([BitVec.ofNat 8 bp, BitVec.ofNat 8 held.toNat, 0, 0] ++ leBytes 4 d.acc.session)

/-- PROTECTION_WORD_PROGRAMMED (R340, R357): after the step in progress. -/
def fProtectionWordProgrammed (d : Dev) : Dev :=
  match d.loft.protPend with
  | none => d
  | some bp =>
    if d.loft.busy then d else { d with loft.protPend := none, loft.bp := bp, loft.bpWord := bp }
def execProtectionWordProgrammed (t : Nat) (s : State) := run t fProtectionWordProgrammed s

/-! ### Host access (R333, R345, R358) -/

/-- An address that the map marks reserved (R333). -/
def loftReserved (a : Nat) : Bool :=
  (0x400 ≤ a && a < 0x1000) || (0x1400 ≤ a && a < 0x2000) || (0x3000 ≤ a && a < 0x4000) || (0x5000 ≤ a && a < 0x40000) ||
  (0xC0000 ≤ a && a < 0x1000000) || (0x2034000 ≤ a && a < 0x2080000) || (0x20FC000 ≤ a && a < 0x20FE000) ||
  (0x20FE400 ≤ a && a < 0x2100000)

/-- The word that a host read of the loft returns (R333, R345, R358). A read that meets the page being programmed waits for it
(R357): it returns what the step in progress leaves (log entry 92). -/
def Loft.hostWord (l : Loft) (m : Memory) (a : Nat) : Word :=
  let x := l.landed m
  if loftReserved a || (0x1000 ≤ a && a < 0x1400) || !(x.2.failsIn a 4).isEmpty then 0
  else BitVec.ofNat 32 (leNat (x.2.read x.1 a 4))

/-- A region in which a host step is refused (R358); a reserved address is never written (R333). -/
def hostForbidden (a : Nat) : Bool :=
  a < 0x400 || (0x1000 ≤ a && a < 0x1400) || (0x2030000 ≤ a && a < 0x2034000) || (0x2080000 ≤ a && a < 0x20FC000) ||
  (0x2000000 ≤ a && a < 0x2020000) || (0x2100000 ≤ a && a < 0x2200000) || loftReserved a

/-- LOFT_WDATA: the next word of the host step (R358). -/
def Dev.hostPush (w : Word) (d : Dev) : Dev :=
  if d.loft.hostBuf.length < 1024 then { d with loft.hostBuf := d.loft.hostBuf ++ [w] } else { d with loft.hostOver := true }

/-- LOFT_WCTL.DISCARD (R358). -/
def Dev.hostDiscard (d : Dev) : Dev := { d with loft.hostBuf := [], loft.hostOver := false }

/-- The address of the host step. -/
def Dev.hostAddr (d : Dev) : Nat := 4 * d.regs.act.LOFT_WADDR_ADDR

/-- Whether the host step lies within the array. -/
def Dev.hostFits (d : Dev) : Bool := d.hostAddr + 4 * d.loft.hostBuf.length ≤ 0x4000000

/-- GO begins a step: words are buffered, no more than 1,024, none for a forbidden region, and no host step runs (R358). -/
def Dev.hostStarts (d : Dev) : Bool :=
  !d.loft.hostBusy && !d.loft.hostOver && !d.loft.hostBuf.isEmpty &&
  !((List.range d.loft.hostBuf.length).any fun i => hostForbidden (d.hostAddr + 4 * i))

/-- LOFT_WCTL.GO (R358): the buffered words as one step. -/
def Dev.hostGo (d : Dev) : Dev :=
  if d.hostStarts then
    let j : LoftJob := { prio := 4, tag := .host, req := .plain, steps := [(d.hostAddr, wordBytes d.loft.hostBuf)], begun := false }
    { (d.loftJob j).hostDiscard with loft.hostBusy := true }
  else if d.loft.hostBusy || (d.loft.hostBuf.isEmpty && !d.loft.hostOver) then d
  else { d.hostDiscard with loft.hostCode := if d.loft.hostOver then 3 else 1 }

end Sys2Proof.Machine
end

