-- ==== Sys2Proof/Machine/Reset.lean ====
section
/-! DEFINITION. Power, RESET#, the pins, the timebase, and IDLE (01_architecture.md, R25; 02_starting_and_stopping.md, R62;
03_timebase_and_lanes.md, R72–R76; 13_pair_and_domain.md, R410; 16_electrical.md, R457). -/

namespace Sys2Proof.Machine

/-! ### Cold resets (R10, R15, R25, R457) -/

/-- The gate as it stands through a reset of the control die (R14, R15): ON, the ramp and a bleed go on; any other state is
one of the gate off, of which the control die alone knows more. -/
def Hsw.keptState (h : Hsw) : GateState :=
  if h.pendTrip ≠ 0 then .off
  else match h.state with
    | .on => .on
    | .ramp => .ramp
    | .bleed => .bleed
    | _ => .off

/-- What the high-voltage die keeps through a reset of the control die (R14, R15, R294): the gate as it stands, what it was
sent, what it measures, a bleed in progress, and what it found while ticks were lost. No tick comes from now on; `clock` and
`wall` are the instant by the clock that timed it so far and by the outside clock. -/
def Hsw.kept (clock wall : Nat) (h : Hsw) : Hsw :=
  let st := h.keptState
  let h := if h.tickLost || st ≠ .bleed then h else h.onOwn clock
  { ({} : Hsw) with
    state := st, efet := h.efet, hvVds := h.hvVds, hvDrop := h.hvDrop, hvV := h.hvV, hvI := h.hvI, ilim := h.ilim, plim := h.plim,
    sent := h.sent, ref := h.ref, ramp := h.ramp, severe := h.severe, limSince := h.limSince, sunk := h.sunk,
    ovTripped := h.ovTripped, lastTick := h.lastTick, ownAt := if h.tickLost then h.ownAt else h.lastTick,
    tickLost := decide (st ≠ .off) || decide (h.pendTrip ≠ 0), pendTrip := h.pendTrip, pendOn := h.pendOn,
    bleedV := h.bleedV, extBleed := h.extBleed, bleedEnd := wall + (h.bleedEnd - clock) }

/-- What a cold start keeps: what the store die and the fuses hold, the pins, and what VAUX retains (R10). -/
def Dev.coldReset (d : Dev) : Dev :=
  let keep := !d.sys.vauxLost
  let fail := if keep then d.stat aSYS_STARTLOG &&& 0xF0000000 else 0
  let e : Dev := {}
  let acc : Access := if keep then
      { e.acc with fails := d.acc.fails, backEnd := d.acc.backEnd - d.now, lost := d.acc.lost, draws := d.acc.draws }
    else { e.acc with draws := d.acc.draws }
  let e := { e with
    tb.wall := d.tb.wall, pins := d.pins, hsw := d.hsw.kept d.hvClock d.tb.wall, prot.comps := d.prot.comps,
    loft.failing := d.loft.failing, loft.cuts := d.loft.cuts, loft.bpWord := d.loft.bpWord,
    evt.latches := if keep then d.evt.latches else [], evt.lwOver := if keep then d.evt.lwOver else 0, acc := acc, pair.term := if keep then d.pair.term else 0,
    pair.pfltLowAt := d.pair.pfltLowAt, deviceKey := d.deviceKey, fuseSerial := d.fuseSerial }
  (e.setStat aSYS_STARTLOG fail).toStep 1

/-- The straps are sampled in step 1 (R383, R407). -/
def Dev.sampleStraps (role : Nat) (domRoot : Bool) (d : Dev) : Dev :=
  { d with pins.role := role % 4, pins.domRoot := domRoot }

/-- POWER_UP (R25): every low supply is above its threshold; a loft step in progress was cut off when they fell. -/
def fPowerUp (role : Nat) (domRoot resetLow extractLow : Bool) (m : Memory) (d : Dev) : Memory × Dev :=
  let r := d.cutLoft m
  let d := r.2.coldReset
  let d := { d with pins.supplies := true, pins.vaux := true, pins.resetLow := resetLow, pins.extractLow := extractLow }
  (r.1, (d.sampleStraps role domRoot).tryStep1)
def execPowerUp (t role : Nat) (domRoot resetLow extractLow : Bool) (s : State) :=
  runLoft t (fPowerUp role domRoot resetLow extractLow) s

/-- RESET_ASSERT (R25, R357): rails stop by the HARD action, the step in progress is cut off, and the device waits in step 1
of a cold start. -/
def fResetAssert (m : Memory) (d : Dev) : Memory × Dev :=
  if d.pins.resetLow then (m, d)
  else
    let r := d.stopAll.cutLoft m
    (r.1, { r.2.coldReset with pins.resetLow := true })
def execResetAssert (t : Nat) (s : State) := runLoft t fResetAssert s

/-- RESET_RELEASE (R25, R35). -/
def fResetRelease (role : Nat) (domRoot : Bool) (d : Dev) : Dev :=
  if d.pins.resetLow then (({ d with pins.resetLow := false }).sampleStraps role domRoot).tryStep1 else d
def execResetRelease (t role : Nat) (domRoot : Bool) (s : State) := run t (fResetRelease role domRoot) s

/-- SUPPLY_FALL (R457): a control-die or store-die supply falls. -/
def fSupplyFall (m : Memory) (d : Dev) : Memory × Dev :=
  let r := d.stopAll.cutLoft m
  (r.1, { r.2.coldReset with pins.supplies := false })
def execSupplyFall (t : Nat) (_store : Bool) (s : State) := runLoft t fSupplyFall s

/-- VAUX_FALL (R457, R440): what VAUX retains is lost; the device goes on. -/
def fVauxFall (d : Dev) : Dev := { d with pins.vaux := false, evt.latches := [], evt.lwOver := 0, sys.vauxLost := true }
def execVauxFall (t : Nat) (s : State) := run t fVauxFall s

/-! ### EN pins (R27, R64, R427) -/

/-- EN_PIN_EDGE (R427); a standby's rails take their states from commits. -/
def fEnPinEdge (n : Nat) (level : Bool) (d : Dev) : Dev :=
  if 8 ≤ n || d.pins.en.testBit n = level then d
  else
    let was := d.enabled n
    let d := { d with pins.en := if level then d.pins.en + 2 ^ n else d.pins.en - 2 ^ n }
    let o := d.regs.act.SYS_RAILEN_ONOFF n
    let d := d.when (level && o.testBit 4 && o.testBit 2) (Dev.wake 0)
    if d.isStandby || d.enabled n = was then d
    else if level then d.startMany [n]
    else (d.disableRail n (o.testBit 0)).pump
def execEnPinEdge (t n : Nat) (level : Bool) (s : State) := run t (fEnPinEdge n level) s

/-! ### Lock (R37, R72, R73, R410) -/

/-- MULT for a SYNC_IN of `hz`: the nearest whole number in 64–320, if 3.2 GHz / MULT lies within ±0.12 % (R72). -/
def multOf (hz : Nat) : Option Nat :=
  if hz < 10000000 || 50000000 < hz then none
  else
    let k := min 320 (max 64 ((2 * 3200000000 + hz) / (2 * hz)))
    let dev : Int := (hz : Int) * k - 3200000000
    if dev.natAbs * 10000 ≤ 12 * 3200000000 then some k else none

/-- The member waits for a TIME message before it declares lock (R410): DOM_ROOT low, or B with DOM_ROOT high. -/
def Dev.waitsTime (d : Dev) : Bool := !d.pins.domRoot || d.pins.role = 2

/-- Step 2 declares lock: timebase time is `time` at this instant (R73). What was timed before counts in it from here on (R19,
R20), and what is left of a back-off that VAUX kept runs from here (R440). -/
def Dev.declareLock (time : Nat) (d : Dev) : Dev :=
  let d := { d with tb.running := true, tb.lock := true, tb.offset := (time : Int) - d.tb.wall,
                    prot.comps := d.prot.comps.map fun (c : Comparator) => { c with since := time },
                    pair.pfltLowAt := d.pair.pfltLowAt.map fun _ => time, meas.outAt := time / usEu, acc.backEnd := d.acc.backEnd + time,
                    hsw := { d.hsw with rampAt := time, bleedEnd := time + (d.hsw.bleedEnd - d.tb.wall) } }
  let d := if d.hsw.tickLost then d else { d with hsw.lastTick := d.tb.wall }
  d.endStep2

/-- Step 3 has not loaded TB_SYNCIO since the last cold start, where it failed too (R74). -/
def Dev.syncOutEarly (d : Dev) : Bool := !d.sys.loaded

/-- SYNC_OUT is driven (R74): from lock on, as though OUT_EN were 1 until step 3 has loaded TB_SYNCIO. -/
def Dev.syncOutDriven (d : Dev) : Bool := d.tb.running && (d.syncOutEarly || d.regs.act.TB_SYNCIO_OUT_EN = 1)

/-- The phase of SYNC_OUT's rising edges in eu: OUT_PHASE modulo MULT, and 0 until step 3 has loaded it (R74, R115). -/
def Dev.syncOutPhase (d : Dev) : Nat :=
  if d.syncOutEarly then 0 else 16 * (d.regs.act.TB_SYNCIO_OUT_PHASE % atLeast1 d.tb.mult)

/-- SYNC_OUT's level at timebase time `t`, `none` where it is not driven: a square wave of MULT coarse steps that rises at
k × MULT + OUT_PHASE, in holdover too (R74). Its ideal edges and duty stand for the tolerances of R74. -/
def Dev.syncOut (d : Dev) (t : Nat) : Option Bool :=
  let p := 16 * atLeast1 d.tb.mult
  if d.syncOutDriven then some (decide ((t + p - d.syncOutPhase) % p < p / 2)) else none

/-- The device is in step 2 of a cold start. -/
def Dev.locking (d : Dev) : Bool := d.sys.state = .start && d.sys.step = 2 && d.sys.kind = 0 && !d.tb.running

/-- The first SYNC_IN edge after the arrival of TIME (R410): edges follow the one that ended the measurement every MULT steps. -/
def Timebase.edgeAfter (b : Timebase) (w : Nat) : Nat :=
  b.multAt + ((w - b.multAt) / (16 * atLeast1 b.mult) + 1) * (16 * atLeast1 b.mult)

/-- IN_DLY by which the SYNC_IN edge of MULT's measurement falls on a multiple of MULT (R73, R410), where timebase time is `time`
now. -/
def Dev.alignDly (d : Dev) (time : Nat) : Nat :=
  let edge : Int := (time : Int) - ((d.tb.wall : Int) - d.tb.multAt)
  ((-((edge + 8) / 16)) % (max 1 d.tb.mult : Nat)).toNat

/-- Lock on the edge after TIME (R410): time is what the message gave, and IN_DLY is set so that R73 holds. -/
def Dev.lockAtTime (w time : Nat) (d : Dev) : Dev :=
  let time := time + (d.tb.wall - w)
  ({ (d.setLive aTB_SYNCIO 27 16 (d.alignDly time)) with dom.aligned := true, tb.timeGot := none } : Dev).declareLock time

/-- TIMEBASE_LOCK (R37, R72, R410): 64 periods of a SYNC_IN of `hz` have been measured, a measurement out of band counting as none;
or the edge has come on which a member that TIME has reached declares lock. -/
def fTimebaseLock (hz : Nat) (d : Dev) : Dev :=
  match multOf hz with
  | none => d
  | some k =>
    if !d.locking then d
    else if d.tb.mult ≠ 0 then match d.tb.timeGot with
      | some (w, time) => if d.tb.edgeAfter w ≤ d.tb.wall then d.lockAtTime w time else d
      | none => d
    else
      let d := { d with tb.mult := k }
      if d.waitsTime then { d with tb.multAt := d.tb.wall } else { d with dom.aligned := true }.declareLock 0
def execTimebaseLock (t hz : Nat) (s : State) := run t (fTimebaseLock hz) s

/-- TIME_WAIT_TIMEOUT (R410): 100 ms from the first SYNC_IN edge without a TIME. The measurement's 64 periods began on that edge
(DEDUCED: log entry 96). -/
def fTimeWaitTimeout (d : Dev) : Dev :=
  if d.locking && d.tb.mult ≠ 0 && d.tb.timeGot.isNone && d.tb.multAt - 64 * 16 * d.tb.mult + 100 * msEu ≤ d.tb.wall then
    { d with dom.aligned := false }.declareLock 0
  else d
def execTimeWaitTimeout (t : Nat) (s : State) := run t fTimeWaitTimeout s

/-- TIMEBASE_LOCK_TIMEOUT (R37): 500 ms ± 20 % after step 1 without a lock, in a start of any kind. -/
def fTimebaseLockTimeout (d : Dev) : Dev :=
  if d.sys.state = .start && d.sys.step = 2 && !d.tb.lock && d.sys.stepAt + 400 * msEu ≤ d.tb.wall then
    d.enterHalt 2
  else d
def execTimebaseLockTimeout (t : Nat) (s : State) := run t fTimebaseLockTimeout s

/-! ### Holdover (R75, R76) -/

/-- HOLDOVER_ENTRY (R75). A second loss while the slew of R76 runs goes on with the holdover that began at the first, and
HOLDOVER_MAX counts from there (DESIGN CHOICE: log entry 75). -/
def fHoldoverEntry (d : Dev) : Dev :=
  if !d.tb.running || d.tb.holdover then d
  else
    let at_ := if d.tb.lock then d.now else d.tb.holdAt
    let d := { d with tb.holdover := true, tb.lock := false, tb.slewing := false, tb.slewBy := 0, tb.holdAt := at_ }
    let d := d.stick aTB_STATUS 0x10
    d.raiseDev 0x200B (leBytes 4 (d.reg aTB_STATUS).toNat)
def execHoldoverEntry (t : Nat) (s : State) := run t fHoldoverEntry s

/-- A rail stops with cause TIMEBASE, from PROBE to OFF, where R27 has no row (R27, R75; DESIGN CHOICE: log entry 111). -/
def Dev.timebaseStop (n : Nat) (d : Dev) : Dev :=
  if (d.rail n).state = .probe then (d.onRail n fun r => { r with cause := 9 }).enterOff n else d.turnOffFor n [9]

/-- SYNC_HOLDOVER_EXPIRED (R75): with LOSS_ACTION 1 every rail stops with cause TIMEBASE. -/
def fSyncHoldoverExpired (d : Dev) : Dev :=
  let end_ := d.tb.holdAt + atLeast1 d.regs.act.TB_CFG_HOLDOVER_MAX * msEu
  if !d.tb.holdover || d.tb.lossFault || decide (d.now ≤ end_) then d
  else
    let d := { d with tb.lossFault := true }
    let d := d.raiseDev 0x100A (leBytes 4 (d.reg aTB_STATUS).toNat)
    let stop : Bool := d.regs.act.TB_CFG_LOSS_ACTION = 1 && !d.isStandby
    d.when stop fun d => d.each (List.range 8) Dev.timebaseStop
def execSyncHoldoverExpired (t : Nat) (s : State) := run t fSyncHoldoverExpired s

/-- SYNC_RETURN (R76): SYNC_IN is back, its edge `phase` eu late; the slew begins. -/
def fSyncReturn (phase : Int) (d : Dev) : Dev :=
  if !d.tb.holdover then d
  else
    let d := { d with tb.holdover := false, tb.slewing := true, tb.phErr := phase }
    d.slew (-phase)
def execSyncReturn (t : Nat) (phase : Int) (s : State) := run t (fSyncReturn phase) s

/-- SYNC_RESTORED (R76): the phase error is below 1 coarse step; a start that waits in step 2 goes on (R73). -/
def fSyncRestored (d : Dev) : Dev :=
  if !d.tb.slewing || 16 ≤ d.tb.phErr.natAbs then d
  else
    let d := { d with tb.slewing := false, tb.slewBy := 0, tb.lock := true, tb.lossFault := false }
    let d := d.raiseDev 0x3003 (leBytes 4 (satU 32 ((d.now - d.tb.holdAt) / msEu)))
    if d.sys.state = .start && d.sys.step = 2 then d.endStep2 else d.pump
def execSyncRestored (t : Nat) (s : State) := run t fSyncRestored s

/-! ### IDLE and operating time (R62, R352) -/

/-- The operating-time counter is written ahead by one interval (R352). -/
def Dev.flushOpTime (d : Dev) : Dev :=
  ({ d with loft.opFlushed := d.now }).writeCounter 514 ((d.opTime + atLeast1 d.regs.act.LOFT_CFG_OPFLUSH * 1000) % 2 ^ 48)

/-- OPERATING_TIME_FLUSH (R352). -/
def fOperatingTimeFlush (d : Dev) : Dev :=
  if d.loft.countersRead && d.loft.opFlushed + atLeast1 d.regs.act.LOFT_CFG_OPFLUSH * secEu ≤ d.now then d.flushOpTime else d
def execOperatingTimeFlush (t : Nat) (s : State) := run t fOperatingTimeFlush s

/-- IDLE_ENTRY (R62): the counters are flushed and the UP lanes are parked (R107, R134, R298, R352, R370). A lane's CAUSE keeps its
value then (DESIGN CHOICE: log entry 106). -/
def fIdleEntry (d : Dev) : Dev :=
  match d.sys.idleSince with
  | none => d
  | some t0 =>
    if !d.idleOk || d.now < t0 + atLeast1 d.regs.act.SYS_IDLECFG_DWELL * 100 * usEu then d
    else
      let d := { d with sys.state := .idle, sys.idleSince := none, sys.wakeAt := none }
      let d := ((d.flushLife.flushOpTime).flushWear).writeCounter 515 d.evt.head
      d.each d.upLanes fun l d => d.onLane l fun x => { x with state := .parked, asks := [], tx := [] }
def execIdleEntry (t : Nat) (s : State) := run t fIdleEntry s

end Sys2Proof.Machine
end

