-- ==== Sys2Proof/Machine/Image.lean ====
section
/-! DEFINITION. Configuration images (11_the_loft.md, R346–R349) and what step 3 of a cold start does with them and with the
rest of the loft (02_starting_and_stopping.md, R38, R39). -/

namespace Sys2Proof.Machine

/-! ### Parsing (R346, R347) -/

/-- An entry of an image body: a run of registers from an address, or the stall table. -/
inductive ImgEntry where
  | run (addr : Nat) (words : List Nat)
  | stalls (words : List Nat)
deriving DecidableEq, Repr

/-- The entries of a body, if it meets R347; the first argument bounds the number of entries. -/
def parseBody : Nat → List Nat → Option (List ImgEntry)
  | 0, _ => none
  | fuel + 1, w0 :: count :: rest =>
    let kind := w0 / 2 ^ 28
    if kind = 15 then (if count = 0 then some [] else none)
    else if rest.length < count then none
    else if kind = 0 then (parseBody fuel (rest.drop count)).map (.run (w0 % 2 ^ 24) (rest.take count) :: ·)
    else if kind = 1 && count = 512 then (parseBody fuel (rest.drop count)).map (.stalls (rest.take count) :: ·)
    else none
  | _, _ => none

/-- The 32-bit words of bytes. -/
def bytesWords : Nat → List Byte → List Nat
  | 0, _ => []
  | fuel + 1, bs => if bs.isEmpty then [] else leNat (bs.take 4) :: bytesWords fuel (bs.drop 4)

/-- A valid image copy: its SEQ, header and entries. -/
structure Image where
  seq : Nat
  header : List Byte
  body : List Byte
  entries : List ImgEntry
deriving DecidableEq, Repr

/-- BODY_CRC of an image. -/
def Image.crc (i : Image) : Nat := numAt i.header 0x10 4

/-- An image copy, if it is valid (R346). -/
def Loft.image (l : Loft) (m : Memory) (copyB : Bool) : Option Image :=
  let a := imageAddr copyB
  let h := l.read m a 512
  let len := numAt h 0x0C 4
  let seq := numAt h 0 4
  if (l.failsIn a 512).isEmpty && seq + numAt h 4 4 = 0xFFFFFFFF && crc32 ((h.drop 8).take 0x1F4) = numAt h 0x1FC 4 &&
      len % 4 = 0 && decide (len ≤ 261632) then
    let body := l.read m (a + 512) len
    if (l.failsIn (a + 512) len).isEmpty && crc32 body = numAt h 0x10 4 then
      (parseBody (len / 4 + 1) (bytesWords (len / 4) body)).map fun es => ⟨seq, h, body, es⟩
    else none
  else none

/-- The copy selected by R38, whether it is B, and whether a tie with differing payloads was found. -/
def pickImage (a b : Option Image) : Option (Bool × Image) × Bool :=
  match a, b with
  | some x, some y =>
    if y.seq > x.seq then (some (true, y), false) else (some (false, x), decide (x.seq = y.seq ∧ x.body ≠ y.body))
  | some x, none => (some (false, x), false)
  | none, some y => (some (true, y), false)
  | none, none => (none, false)

/-! ### Loading (R39, R119, R171, R347) -/

/-- The IMG bits of the register at an address. -/
def imgMask (a : Nat) : Nat := (findDesc a).elim 0 (·.img)

/-- A coefficient bank's register, active or shadow (R181). -/
def isBank (a : Nat) : Bool := 0x60000 ≤ a && a < 0x64000 && (a - 0x60000) % 0x800 < 0x400

/-- One word of a run: its IMG fields and their shadows; a bank's register loads both banks (R171). -/
def Regs.loadWord (a : Nat) (w : Nat) (r : Regs) : Regs :=
  let v : Word := BitVec.ofNat 32 w
  if isBank a then
    let s := a - a % 0x80 + a % 0x40 + 0x40
    let x := blend (imgMask a) 0 v
    { r with stat := r.stat.wr (s - 0x40) x, act := r.act.wr s x, hold := r.hold.wr s x }
  else
    let k := (findDesc a).elim 0 fun e => e.img &&& e.rw
    { r with act := r.act.wr a (blend k (r.act.rd a) v), hold := r.hold.wr a (blend k (r.hold.rd a) v) }

/-- The consecutive registers of a run. -/
def Regs.loadRun (a : Nat) (ws : List Nat) (r : Regs) : Regs := ws.zipIdx.foldl (fun r x => r.loadWord (a + 4 * x.2) x.1) r

/-- Every IMG bit of a register map is 0. -/
def clearImg (m : RMap) : RMap := m.foldl (fun n x => n.wr x.1 (blend (imgMask x.1) x.2 0)) []

/-- One entry; a run with words where there is no IMG field is logged once (R347). -/
def Dev.loadEntry (e : ImgEntry) (d : Dev) : Dev :=
  match e with
  | .stalls ws => { d with sys.stallTable := ws }
  | .run a ws =>
    let bad := (List.range ws.length).any fun i => imgMask (a + 4 * i) = 0
    let d := { d with regs := d.regs.loadRun a ws }
    d.when bad fun d => d.raiseDev 0x4004 (leBytes 4 a)

/-- The image's entries cover a register. -/
def coversReg (es : List ImgEntry) (a : Nat) : Bool :=
  es.any fun e => match e with
    | .run b ws => decide (b ≤ a) && (a - b) % 4 = 0 && decide ((a - b) / 4 < ws.length)
    | .stalls _ => false

/-- The code of R119 with which the image of yard `n` fails; a yard that is not enabled may only fail for stalls bound to
it. -/
def Dev.yardCode (d : Dev) (n : Nat) : Nat :=
  let stalls := (List.range 512).filter fun s => d.regs.act.YARD_BIND_RAIL s = n
  if d.regs.act.YARD_CFG_EN n = 1 then d.ilvCheck d.regs.act n stalls
  else if stalls.any fun s => d.roleKind s ≠ 0 then 2 else 0

/-- A yard that fails the checks is disabled (R119). -/
def Dev.disableYard (n code : Nat) (d : Dev) : Dev :=
  if code = 0 then d else (d.setLive (aYARD_CFG n) 0 0 0).raise 0x4005 (d.gaRail n) [BitVec.ofNat 8 code]

/-- A stall right after its binding has been loaded (R118, R150). -/
def Dev.initStall (s : Nat) (d : Dev) : Dev :=
  let st : StallState := match d.roleKind s with
    | 1 => .conducting
    | 2 => .spare
    | _ => .unused
  let d := d.onStall s fun _ => { state := st, roleOf := s }
  d.onStall s fun x => { x with weight := d.weightOf s }

/-- What a rail takes from the image: its destination, kdr, and the conducting roles of its yard (R128, R154, R187). -/
def Dev.initRail (n : Nat) (d : Dev) : Dev :=
  let d := (d.onRail n fun r => { r with dest := d.regs.act.LCP_RAILCFG_BOOT n }).formKdr n
  d.onYard n fun y => { y with m := (d.filled n).length }

/-- A pair with IADD ≤ ISHED in force is logged (R128). -/
def Dev.checkShedCfg (n : Nat) (d : Dev) : Dev :=
  let ished := d.regs.act.YARD_SHEDCFG_ISHED n
  let iadd := d.regs.act.YARD_SHEDCFG_IADD n
  if iadd ≤ ished then d.raise 0x4006 (d.gaRail n) [BitVec.ofNat 8 ished, BitVec.ofNat 8 iadd] else d

/-- The image selected comes into force (R39); the IN_DLY by which a member was aligned stays (R410). -/
def Dev.loadImage (copyB : Bool) (i : Image) (d : Dev) : Dev :=
  let r := d.regs
  let bank (x : Nat × Word) : Bool := !isBank x.1
  let d := { d with
    regs := { r with act := clearImg r.act, hold := clearImg r.hold, stat := r.stat.filter bank },
    sys.stallTable := [], sys.loaded := true, sys.imageB := copyB, sys.imageSeq := i.seq, sys.imageCrc := i.crc,
    sys.pendingStart := false }
  let d := d.each i.entries Dev.loadEntry
  let d := d.setStatFld aSYS_STARTLOG 0 0 copyB.toNat
  let codes := (List.range 8).map d.yardCode
  let d := { d with regs.act := (List.range 8).foldl withAutoPhase d.regs.act }
  let d := d.each (List.range 8) fun n d => d.disableYard n (codes.getD n 0)
  let d := d.each (List.range 512) Dev.initStall
  let d := d.each (List.range 8) Dev.initRail
  let shed := (List.range 8).filter fun n => coversReg i.entries (aYARD_SHEDCFG n)
  let d := (if d.waitsTime && d.dom.aligned then d.setLive aTB_SYNCIO 27 16 (r.act.TB_SYNCIO_IN_DLY) else d).takeDly
    r.act.TB_SYNCIO_IN_DLY
  (d.each shed Dev.checkShedCfg).setStop

/-! ### The domain's ID (R409, R412) -/

/-- What this member reports (R408, R412): its partner's ID is its own while HELLO has not told another; 0 is the root's alone. -/
def Dev.reportMsg (d : Dev) : ReportMsg :=
  let p := d.pair.partner.hello.elim d.dom.id (·.domid)
  ⟨d.dom.id, d.regs.act.DOM_ILV_GROUP, d.pins.role, if p = 0 then d.dom.id else p⟩

/-- The ID under which a report counts: a pair is counted once, under its lower ID (R412). -/
def reportKey (r : ReportMsg) : Nat := if r.strap = 1 || r.strap = 2 then min r.id r.partner else r.id

/-- Δ of a member among the reports of the domain (R412). -/
def Dev.deltaOf (d : Dev) (r : ReportMsg) : Nat :=
  let keys := (sortBy (fun a b => decide (a < b)) ((d.dom.reports.filter fun x => x.group = r.group).map reportKey)).eraseDups
  keys.idxOf (reportKey r) * d.regs.act.DOM_ILVROOT_QUANT / keys.length

/-- A message on each downstream port whose link is up (R407, R408). -/
def Dev.sendDown (ms : List DomMsg) (d : Dev) : Dev :=
  let at_ (x : Link) : List DomMsg := if x.state = 2 then ms else []
  { d with dom := { d.dom with sent0 := d.dom.sent0 ++ at_ d.dom.ddn0, sent1 := d.dom.sent1 ++ at_ d.dom.ddn1 } }

/-- The root sends every member of a group its Δ (R412). -/
def Dev.sendIlv (d : Dev) : Dev :=
  let rs := d.dom.reports.filter fun r => r.group ≠ 0
  let own := (rs.find? fun r => r.id = d.dom.id).map d.deltaOf
  let d := { d with dom.ilvNext := if own.isSome then own else d.dom.ilvNext }
  d.sendDown (rs.map fun r => .ilv r.id r.group (d.deltaOf r))

/-- A report reaches the root, which sends ILV again where its membership has changed (R412). -/
def Dev.enroll (r : ReportMsg) (d : Dev) : Dev :=
  if d.dom.reports.contains r then d
  else ({ d with dom.reports := r :: d.dom.reports.filter fun x => x.id ≠ r.id } : Dev).sendIlv

/-- This member reports: upward, or to itself at the root. -/
def Dev.report (d : Dev) : Dev :=
  if d.pins.domRoot then d.enroll d.reportMsg else { d with dom.sentUp := d.dom.sentUp ++ [.report d.reportMsg] }

/-- The device receives its ID and reports its group. -/
def Dev.holdId (id range depth : Nat) (noid : Bool) (d : Dev) : Dev :=
  { d with dom.id := id % 65536, dom.valid := true, dom.noid := noid, dom.range := range, dom.depth := depth }.report

/-- With its image loaded the device takes its ID (R409): the fixed one, the root's 0, or the first of the range that ENUM
gave; an empty range sets NOID. An ID stands until the next cold start. -/
def Dev.takeId (d : Dev) : Dev :=
  let m := d.regs.act
  let settle (d : Dev) : Dev := { d with dom.settleAt := some (d.now + atLeast1 m.DOM_CFG_SETTLE * msEu) }
  if d.dom.valid then d
  else match m.DOM_CFG_MODE with
    | 1 =>
      if d.pins.domRoot then settle (d.holdId 0 65536 0 false)
      else match d.dom.enumGot with
        | some (base, size, depth) =>
          settle (if size = 0 then d.holdId m.DOM_CFG_FIXID 0 depth true else d.holdId base size depth false)
        | none => d
    | 2 => d.holdId m.DOM_CFG_FIXID 0 0 false
    | _ => d

end Sys2Proof.Machine
end

