-- ==== Sys2Proof/Machine/Starts.lean ====
section
/-! DEFINITION. Steps 3 to 10 of a start (02_starting_and_stopping.md, R38–R48; 11_the_loft.md, R352–R354; 12_event_recorder.md,
R371, R379; 13_pair_and_domain.md, R389, R391). -/

namespace Sys2Proof.Machine

/-- The device is in step `k` of a start. -/
def Dev.inStep (d : Dev) (k : Nat) : Bool := d.sys.state = .start && d.sys.step = k

/-! ### Step 3 (R38, R338, R342, R349, R352, R371) -/

/-- The entries of the remap table that are not free (R338). -/
def remapOf (p : List Byte) : List RemapEntry :=
  (List.range 992).filterMap fun i =>
    let w := numAt p (4 * i) 4
    let u := w / 2 ^ 30
    if u = 0 then none else some ⟨i, w % 2 ^ 17, if u = 1 then 1 else 2⟩

/-- Both copies of a record are read. -/
def Dev.noteRec (r : Rec2) (d : Dev) : Dev := (d.noteRead (r.addr false) r.size).noteRead (r.addr true) r.size

/-- A two-copy record is read and its winner kept; a tie with differing payloads is logged (R342, R343). -/
def Dev.scanRec (m : Memory) (r : Rec2) (d : Dev) : Dev :=
  let x := d.loft.winnerOf m r
  let d := d.noteRec r
  let d := match x.1 with
    | some (w, _) => { d with loft := d.loft.setWinner r w }
    | none => d
  d.when x.2 fun d => ((d.stick aLOFT_STATUS 0x800).count aLOFT_TIECNT).raiseDev 0x6003 (leBytes 2 r.place.2.2.1)

/-- The remap table is read before any other record (R338). -/
def Dev.scanRemap (m : Memory) (d : Dev) : Dev :=
  let d := d.scanRec m .remap
  (d.loft.winnerOf m .remap).1.elim d fun w => { d with loft.remap := remapOf w.2 }

/-- An event raised before step 3 receives its timestamps (R361). -/
def Dev.stampEvent (d : Dev) (e : EvRec) : EvRec :=
  if e.late then { e with pcycle := d.loft.pcycle, optime := d.loft.opBase, late := false } else e

/-- Counters 513 and 514 are read, 513 is advanced, and the waiting events are stamped (R352, R361). -/
def Dev.scanCounters (m : Memory) (d : Dev) : Dev :=
  let k := (d.loft.counterVal m 513 + 1) % 2 ^ 32
  let d := d.noteRead 0x2010080 0x180
  let d := { d with loft.pcycle := k, loft.opBase := d.loft.counterVal m 514, loft.opStart := d.now, loft.opFlushed := d.now,
                    loft.countersRead := true }
  let d := d.writeCounter 513 k
  let stamp := List.map d.stampEvent
  d.onEvt fun r => { r with queue := stamp r.queue, hold := stamp r.hold, latches := stamp r.latches }

/-- The slots that the scan of R371 reads from a position on are counted (R336, R359). -/
def Dev.noteScan (l : Loft) (m : Memory) : Nat → Nat → Dev → Dev
  | 0, _, d => d
  | fuel + 1, p, d =>
    let d := d.noteSlots p 1
    match l.slotRecord m p with
    | some b =>
      if recPos b = p % 2 ^ 24 then Dev.noteScan l m fuel (p + 1) d
      else if recCode b = 0x7002 && recPos b = (p + logSlots) % 2 ^ 24 then Dev.noteScan l m fuel (p + logSlots + 1) d
      else d
    | none => d

/-- EVT_HEAD is found from counter 515 (R371). -/
def Dev.scanLog (m : Memory) (d : Dev) : Dev :=
  let p := d.loft.counterVal m 515
  let r := d.loft.scanHead m (m.length + 2) p false
  let d := d.noteScan d.loft m (m.length + 2) p
  d.onEvt fun e => { e with head := r.1, countWrite := r.2 || decide (255 < r.1 - p) }

/-- A valid entry of the image history: HSEQ, RESULT, copy, SEQ, BODY_CRC and session (R349). -/
def Loft.histEntry (l : Loft) (m : Memory) (slot : Nat) : Option (Nat × Nat × Bool × Nat × Nat × Nat) :=
  let a := 0x4000 + 64 * slot
  let b := l.read m a 64
  if (l.failsIn a 64).isEmpty && crc32 (b.take 60) = numAt b 60 4 then
    some (numAt b 0 4, numAt b 4 1, numAt b 5 1 = 1, numAt b 8 4, numAt b 12 4, numAt b 0x1C 4)
  else none

/-- A slot that has never been written holds no entry: it is all zero, and no word of it fails. -/
def Loft.histBlank (l : Loft) (m : Memory) (slot : Nat) : Bool :=
  (l.failsIn (0x4000 + 64 * slot) 64).isEmpty && (l.read m (0x4000 + 64 * slot) 64).all (· = 0)

/-- The newest valid entry of the image history. -/
def Loft.histNewest (l : Loft) (m : Memory) : Option (Nat × Nat × Bool × Nat × Nat × Nat) :=
  ((List.range 64).filterMap (l.histEntry m)).foldl
    (fun b e => match b with
      | none => some e
      | some x => if x.1 < e.1 then some e else some x) none

/-- The image history is checked; an entry that fails is ignored and logged (R38, R349). -/
def Dev.scanHistory (m : Memory) (d : Dev) : Dev :=
  let d := d.noteRead 0x4000 0x1000
  let bad := (List.range 64).filter fun k => (d.loft.histEntry m k).isNone && !d.loft.histBlank m k
  let d := d.each bad fun k d => d.raiseDev 0x4003 [BitVec.ofNat 8 k]
  { d with loft.histNext := ((d.loft.histNewest m).elim 0 (·.1)) + 1 }

/-- The records of R341 whose winners step 3 chooses. -/
def scannedRecs : List Rec2 := [.identity, .keyArea, .cert 0, .cert 1, .cert 2, .cert 3, .serials, .input]

/-- The validity of both images, and their SEQ (R346, R358). -/
def Dev.noteImages (a b : Option Image) (d : Dev) : Dev :=
  { d with loft.imgValidA := a.isSome, loft.imgValidB := b.isSome, loft.imgSeqA := a.elim 0 (·.seq), loft.imgSeqB := b.elim 0 (·.seq) }

/-- What step 3 reads before it chooses an image. A trip that the high-voltage die found during the reset goes on from the
RETRIES of the input record (R291; log entry 63). -/
def Dev.scanLoft (m : Memory) (d : Dev) : Dev :=
  let d := (((d.scanRemap m).scanCounters m).scanLog m).each scannedRecs (Dev.scanRec m)
  let d := (d.scanHistory m).scanSlots m
  let d := ((d.noteRead 0x40000 0x40000).noteRead 0x80000 0x40000).noteImages (d.loft.image m false) (d.loft.image m true)
  let rec_ := (d.loft.inputRecord m).getD (0, 0)
  { d with hsw.recState := rec_.1 % 4, hsw.retries := if d.hsw.pendTrip = 0 then d.hsw.retries else rec_.2 }

/-- LOFT_INTEGRITY_SCAN (R38, R39): step 3 completes, or fails into HALT. -/
def fLoftIntegrityScan (m : Memory) (d : Dev) : Dev :=
  if !d.inStep 3 then d
  else if !d.loft.portOk then d.enterHalt 3
  else
    let d := d.scanLoft m
    let p := pickImage (d.loft.image m false) (d.loft.image m true)
    if (d.loft.winner .identity).isNone then d.enterHalt 3
    else match p.1 with
      | none => d.enterHalt 3
      | some (copyB, i) =>
        let d := d.when p.2 fun d =>
          (((d.stick aSYS_STARTLOG 2).stick aLOFT_STATUS 0x800).count aLOFT_TIECNT).raiseDev 0x4001
            (leBytes 4 i.seq ++ [BitVec.ofNat 8 copyB.toNat])
        let d := (d.loadImage copyB i).takeId
        d.toStep 4
def execLoftIntegrityScan (t : Nat) (s : State) := runRead t fLoftIntegrityScan s

/-! ### Step 4 (R40, R299, R300) -/

/-- The payload of the newest certificate of path `p` whose integrity code verifies (R300, R342). -/
def Dev.certOf (m : Memory) (p : Nat) (d : Dev) : Option (List Byte) :=
  let ok (copyB : Bool) : Option (Nat × List Byte) := match d.loft.copyOf m (.cert p) copyB with
    | some x => if d.certCodeOk x.2 then some x else none
    | none => none
  match ok false, ok true with
  | some a, some b => some (if b.1 > a.1 then b.2 else a.2)
  | some a, none => some a.2
  | none, some b => some b.2
  | none, none => none

/-- Coefficients at an offset of a payload: GAIN, OFFSET, SHIFT (R299, R344). -/
def coefAt (b : List Byte) (a : Nat) : Coef := { gain := numAt b a 4, offset := signed 32 (numAt b (a + 4) 4), shift := numAt b (a + 8) 1 }

/-- The identity record's payload. -/
def Loft.identity (l : Loft) (m : Memory) : List Byte := ((l.winnerOf m .identity).1.map (·.2)).getD []

/-- One path takes its certificate, or its factory coefficients (R40). -/
def Dev.loadPath (m : Memory) (p : Nat) (d : Dev) : Dev :=
  let d := d.noteRec (.cert p)
  match d.certOf m p with
  | some b => d.onHsw fun h =>
    { h with coef := h.coef.set p (coefAt b 0x18), calValid := h.calValid ||| 2 ^ p,
             calOldest := some (min (numAt b 0x28 6) (h.calOldest.getD (numAt b 0x28 6))) }
  | none =>
    let d := d.onHsw fun h => { h with coef := h.coef.set p (coefAt (d.loft.identity m) (0x20 + 12 * p)) }
    (d.stick aSYS_STARTLOG 8).raiseDev 0x2011 [BitVec.ofNat 8 p]

/-- CALIBRATION_CERTIFICATE_LOAD (R40): step 4 never fails; while the port does not answer it waits (DESIGN CHOICE: log entry
116). -/
def fCalibrationCertificateLoad (m : Memory) (d : Dev) : Dev :=
  if !d.inStep 4 || !d.loft.portOk then d
  else
    let d := (d.onHsw fun h => { h with calValid := 0, calPending := 0, calOldest := none }).noteRec .identity
    (d.each (List.range 4) (Dev.loadPath m)).toStep 5
def execCalibrationCertificateLoad (t : Nat) (s : State) := runRead t fCalibrationCertificateLoad s

/-! ### Step 5 and the role (R41, R345, R389, R436, R440) -/

/-- The key area as the control die holds it (R345). -/
def keyOf (p : List Byte) : KeyArea :=
  { lock := numAt p 0 1 % 2 = 1, gen := numAt p 4 4, salt := (p.drop 8).take 16, hash := (p.drop 0x18).take 32,
    serial := numAt p 0x38 8, pwSet := ((p.drop 0x18).take 32).any (· ≠ 0) }

/-- The key area's payload, if its integrity code verifies. -/
def Dev.keyPayload (m : Memory) (d : Dev) : Option (List Byte) :=
  match (d.loft.winnerOf m .keyArea).1 with
  | some (_, p) => if hmac d.deviceKey (p.take 0x80) = (p.drop 0x80).take 32 then some p else none
  | none => none

/-- The wait of R389 in eu: NEG_WAIT of 10 ms steps, twice for member B. -/
def Dev.negWait (d : Dev) : Nat := atLeast1 d.regs.act.PAIR_CFG_NEG_WAIT * 10 * msEu * (if d.pins.role = 2 then 2 else 1)

/-- A member's role is settled: the input owner is the primary of two cold starts or a primary alone; a standby of a running
partner owns the input when that partner does not (R405). Step 6 begins. -/
def Dev.settleAs (primary alone both : Bool) (d : Dev) : Dev :=
  let other := d.pair.partner.hello.any (·.owner)
  let diff := d.pair.partner.hello.any fun h => decide (h.seq ≠ d.sys.imageSeq) || decide (h.bodyCrc ≠ d.sys.imageCrc)
  let owner := if both || alone then primary else !other
  let d := { d with pair := { d.pair with
    primary := primary, alone := alone, settled := true, waiting := false, owner := owner, mismatch := !primary && diff } }
  d.enterStep6

/-- The partner's latest HELLO shows it in HALT, and none has come from it in START: R389's rows for no HELLO apply (DEDUCED: log
entry 38). -/
def Dev.silent (d : Dev) : Bool := d.pair.partner.hello.all (fun h => h.state = 4 && !h.authority) && !d.pair.partner.started

/-- Step 5 has completed and the role is not settled: R389's table is applied. -/
def Dev.settleRole (d : Dev) : Dev :=
  if !d.inPair then d.enterStep6
  else if d.pair.partner.hello.any (·.authority) then d.settleAs false false false
  else if d.pair.partner.started then d.settleAs (d.pins.role = 1) false true
  else if d.pair.partner.hello.any (fun h => h.state = 2) then d.settleAs true false false
  else { d with pair.waiting := !d.silent || d.pair.pfltLowAt.isNone }

/-- A pair member waits before step 6 for its role (R389). -/
def Dev.awaitsRole (d : Dev) : Bool := d.inStep 6 && d.inPair && !d.pair.settled

/-- Step 5 has ended: the lost back-off begins (R440), an unlocked device is at maintenance level (R436), and the role is
settled. -/
def Dev.endStep5 (d : Dev) : Dev :=
  let d := if d.acc.lost then d.onAcc fun x => { x with lost := false, fails := 7, backEnd := d.now + 64 * secEu } else d
  let d := d.toStep 6
  ({ d with pair.negAt := d.now, pair.settled := false }).fieldSession.settleRole

/-- The other copy comes into force when the selected image does not name this device (R41). -/
def Dev.fallback (copyB : Bool) (i : Image) (d : Dev) : Dev :=
  (((d.noteRead (imageAddr copyB) 0x40000).loadImage copyB i).stick aSYS_STARTLOG 4).raiseDev 0x4002 [BitVec.ofNat 8 copyB.toNat]

/-- IDENTITY_AND_KEY_CHECK (R41): a port that does not answer fails it, as any other failure does (DEDUCED: log entry 118). -/
def fIdentityAndKeyCheck (m : Memory) (d : Dev) : Dev :=
  if !d.inStep 5 then d
  else if !d.loft.portOk then d.enterHalt 5
  else
    let d := ((d.noteRec .keyArea).noteRec .identity).noteRead (imageAddr d.sys.imageB) 512
    match d.keyPayload m with
    | none => d.enterHalt 5
    | some k =>
      if numAt (d.loft.identity m) 0 8 ≠ d.fuseSerial then d.enterHalt 5
      else
        let d := d.onAcc fun x => { x with key := keyOf k }
        let names (b : Bool) : Bool := (d.loft.image m b).any fun i => d.bindingOk i.header
        if names d.sys.imageB then d.endStep5
        else match d.loft.image m (!d.sys.imageB) with
          | none => d.enterHalt 5
          | some i =>
            let e := d.fallback (!d.sys.imageB) i
            if d.bindingOk i.header then e.endStep5 else e.enterHalt 5
def execIdentityAndKeyCheck (t : Nat) (s : State) := runRead t fIdentityAndKeyCheck s

/-- NEG_WAIT_EXPIRY (R389): PFLT# has been low without a break for the member's wait. -/
def fNegWaitExpiry (d : Dev) : Dev :=
  match d.pair.pfltLowAt with
  | none => d
  | some t0 =>
    if d.awaitsRole && d.silent && decide (max t0 d.pair.negAt + d.negWait ≤ d.now) then
      d.settleAs true true false
    else d
def execNegWaitExpiry (t : Nat) (s : State) := run t fNegWaitExpiry s

/-- PFLT_EDGE (R389, R399): the timing of PFLT# begins afresh, and a member that waits for its role applies R389's table
again. -/
def fPfltEdge (low : Bool) (d : Dev) : Dev :=
  if d.pair.pfltLowAt.isSome = low then d
  else
    let d := { d with pair.pfltLowAt := if low then some d.now else none }
    if d.awaitsRole then d.settleRole else d
def execPfltEdge (t : Nat) (low : Bool) (s : State) := run t (fPfltEdge low) s

/-! ### Steps 6 and 7 (R42, R43, R353, R391) -/

/-- CENSUS word `w` of a stall. -/
def Dev.censusWord (d : Dev) (s w : Nat) : Nat := ((d.lane (s / 16)).census.rd (4 * (s % 16) + w)).toNat

/-- A stage answered the census at the stall. -/
def Dev.seen (d : Dev) (s : Nat) : Bool := (d.lane (s / 16)).state = .up && (d.lane (s / 16)).present.testBit (s % 16)

/-- The stage is of the expected type, revision and rated current, by the image's stall table if it has one (R42, R347). -/
def Dev.expected (d : Dev) (s : Nat) : Bool :=
  match d.sys.stallTable[s]? with
  | none => true
  | some e =>
    let w := d.censusWord s 0
    w / 2 ^ 20 = e % 4096 && decide (e / 4096 % 16 ≤ w / 65536 % 16) && decide (e / 65536 % 256 ≤ w / 256 % 256)

/-- The stage at a stall that the image uses passes the census (R42, R104). -/
def Dev.passes (d : Dev) (s : Nat) : Bool :=
  let x := d.lane (s / 16)
  d.seen s && d.expected s && x.idOk (s % 16) && !x.badId.testBit (s % 16) && !x.unacked.testBit (s % 16)

/-- One stall of a lane that this start trained is compared with the image (R42). -/
def Dev.censusStall (s : Nat) (d : Dev) : Dev :=
  if !(d.lane (s / 16)).trained then d
  else if (d.railOf s).isSome then (if d.passes s then d else d.failStall s 1)
  else if d.seen s then d.raise 0x3008 (d.gaStall s) (leBytes 4 (d.censusWord s 0))
  else d

/-- The serial of the stage at a stall (R94). -/
def Dev.serialOf (d : Dev) (s : Nat) : Nat := d.censusWord s 1 * 2 ^ 32 + d.censusWord s 2

/-- The census gives a stall a serial. -/
def Dev.hasSerial (d : Dev) (s : Nat) : Bool :=
  (d.lane (s / 16)).trained && d.seen s && (d.lane (s / 16)).idOk (s % 16)

/-- The stage serial table as it stands in the loft. -/
def Loft.serials (l : Loft) (m : Memory) : List Byte := ((l.winnerOf m .serials).1.map (·.2)).getD (List.replicate 4096 0)

/-- The wear counter of a stall is written with 0; if that fails, the table is not written (R353; `serialFailed`). -/
def Dev.restartCounter (s : Nat) (d : Dev) : Dev :=
  d.loftJob { prio := 2, tag := .serialCounter, req := .counter s 0, steps := [], begun := false }

/-- Stages that are not the ones recorded: their wear restarts at 0, the table follows, and each is logged once it is written (R135,
R353; `Dev.serialsEnded`). R23 and R335 give the table's write no rank; DESIGN CHOICE (log entry 73): it has the lowest, that of installs and host writes. -/
def Dev.checkSerials (m : Memory) (d : Dev) : Dev :=
  let table := d.loft.serials m
  let old (s : Nat) : Nat := numAt table (8 * s) 8
  let new := (List.range 512).filter fun s => d.hasSerial s && decide (d.serialOf s ≠ old s)
  if new.isEmpty then d
  else
    let serial (s : Nat) : Nat := if new.contains s then d.serialOf s else old s
    let payload := (List.range 512).flatMap fun s => leBytes 8 (serial s)
    let d := d.each new fun s d => (d.onStall s fun x => { x with acc := 0, counter := 0, worn := false }).restartCounter s
    { d.writeRec2 4 .serials payload with loft.changed := new.map fun s => (s, old s, serial s) }

/-- Every lane has finished its training. -/
def Dev.lanesSettled (d : Dev) : Bool := d.lanes.all fun x => x.state ≠ .training && x.state ≠ .down

/-- STALL_CENSUS (R42): step 6 completes. A standby goes on to step 8; any other device sends its presence probes. -/
def fStallCensus (m : Memory) (d : Dev) : Dev :=
  if !d.inStep 6 || d.awaitsRole || !d.lanesSettled then d
  else
    let d := (d.each (List.range 512) Dev.censusStall).checkSerials m
    let d := d.each (List.range 512) fun s d => if d.hasSerial s then d.onStall s fun x => { x with serial := d.serialOf s } else d
    let d := d.each (List.range 32) fun l d => d.onLane l fun x => { x with trained := false }
    let d := { d with pair.authority := d.inPair && d.pair.primary }
    if d.isStandby then d.enterStep8 m
    else
      let asked := (List.range 512).filter fun s =>
        (d.railOf s).isSome && d.seen s && (d.stall s).state ≠ .failed && (d.stall s).state ≠ .retired
      (d.toStep 7).each asked fun s d => d.askStall s (.probe 0)
def execStallCensus (t : Nat) (s : State) := runRead t fStallCensus s

/-- No presence probe is still owed an answer. -/
def Dev.probesOver (d : Dev) : Bool := d.lanes.all fun x => x.asks.all fun a => a.kind ≠ .probe 0

/-- PRE_START_PROBES (R43): the device part of step 7 completes; it never fails the start. -/
def fPreStartProbes (m : Memory) (d : Dev) : Dev := if d.inStep 7 && d.probesOver then d.enterStep8 m else d
def execPreStartProbes (t : Nat) (s : State) := runRead t fPreStartProbes s

/-! ### Steps 9 and 10 (R47, R48, R354, R379) -/

/-- What a member holds of its partner as it enters STANDBY: no commit, and nothing armed (R393, R398). -/
def Pair.enterStandby (p : Pair) (now : Nat) : Pair :=
  { p with armed := false, joined := false, joinNext := 0, gapAt := none, missRun := 0, rcAt := List.replicate 8 now, dc := none,
           dcAt := now, loftLogged := false }

/-- START ends (R25): RUN, or STANDBY for a standby; the rails meant to run start by their slots (R54). -/
def Dev.endStart (d : Dev) : Dev :=
  let d := d.raiseDev 0x3001 ([BitVec.ofNat 8 d.sys.kind, 0, 0, 0] ++ leBytes 4 (d.reg aSYS_STARTLOG).toNat)
  let d := { d with sys.step := 0, sys.idleSince := none }
  if d.isStandby then { d with sys.state := .standby, pair := d.pair.enterStandby d.now }
  else
    let d := { d with sys.state := .run }
    d.startMany ((List.range 8).filter d.wantsOn)

/-- Units that passed fill the first `k` serving positions, in order (R47). The last 256 jobs and the evaluation times stand until
a cold start (R177, R184; log entry 91). -/
def serveUnits (k fail : Nat) (us : List EvalUnit) : List EvalUnit :=
  let ok := (List.range us.length).filter fun u => !fail.testBit u
  us.zipIdx.map fun x =>
    { failed := fail.testBit x.2, serving := (ok.take k).contains x.2, hist := x.1.hist, last := x.1.last, max := x.1.max }

/-- LAW_UNIT_SELF_TEST (R47): `failLaw` and `failBal` name the units with a mismatch. -/
def fLawUnitSelfTest (failLaw failBal : Nat) (d : Dev) : Dev :=
  if !d.inStep 9 then d
  else
    let fl := (maskList 10 failLaw).length
    let fb := (maskList 3 failBal).length
    let d := d.setStatFld aSYS_STARTLOG 27 24 (fl + fb)
    let d := { d with lawUnits := serveUnits 8 failLaw d.lawUnits, balUnits := serveUnits 2 failBal d.balUnits }
    if 2 < fl || 1 < fb then d.enterHalt 9 else if d.sys.kind = 0 then d.toStep 10 else d.endStart
def execLawUnitSelfTest (t failLaw failBal : Nat) (s : State) := run t (fLawUnitSelfTest failLaw failBal) s

/-- An install that was cut off is recorded (R354). -/
def Dev.noteInterrupted (m : Memory) (d : Dev) : Dev :=
  let d := d.noteRead 0x4000 0x1000
  match d.loft.histNewest m with
  | some (_, 1, copyB, seq, crc, session) => d.writeHist 3 copyB seq crc session
  | _ => d

/-- The spread counters are rescanned: wear and lifetime energy resume from them (R48, R134, R298); what the start has metered so
far counts on. -/
def Dev.rescan (m : Memory) (d : Dev) : Dev :=
  let d := d.noteRead 0x2000000 0x10200
  let d := d.each (List.range 512) fun s d =>
    let v := d.loft.counterVal m s
    let d := d.onStall s fun x => { x with acc := v * 2 ^ 32, counter := v }
    d.onStall s fun x => { x with weight := d.weightOf s }
  d.onHsw fun h => { h with life := (d.loft.counterVal m 512 + h.life) % 2 ^ 48, lifeFlush := d.now, wearFlush := d.now }

/-- SEQ at an archive slot, if it belongs there (R378). -/
def Loft.archSeq (l : Loft) (m : Memory) (k : Nat) : Option Nat :=
  let q := numAt (l.read m (archAddr k) 4) 0 4
  if q ≠ 0 && q % 256 = k then some q else none

/-- The highest SEQ among the valid archive copies (R378). -/
def Loft.archHigh (l : Loft) (m : Memory) : Nat :=
  (List.range 256).foldl (fun x k =>
    match l.archSeq m k with
    | some q => if x < q && (l.record64 m (archAddr k)).isSome then q else x
    | none => x) 0

/-- The scan of the archive is counted: the first page of each slot, and the whole of one whose SEQ belongs there (R336, R359;
log entry 93). -/
def Dev.noteArchive (m : Memory) (d : Dev) : Dev :=
  d.each (List.range 256) fun k d => d.noteRead (archAddr k) (if (d.loft.archSeq m k).isSome then 0x10000 else 512)

/-- Last-fault records with no archive copy yet, in order (R379). -/
def Dev.archDue (m : Memory) (d : Dev) : List Nat :=
  let high := d.loft.archHigh m
  sortBy (fun a b => a < b) ((d.prot.lfSlots.filterMap id).filter fun q => high < q)

/-- A write that step 10 waits for (R48 items 2 and 3): a counter's, the serial table's, or that of an image-history entry. -/
def LoftTag.ofTail : LoftTag → Bool
  | .counter | .serialCounter | .history | .rec2 .serials => true
  | _ => false

/-- An item of step 10 is done (R48): the port answers, no latch holds an entry, and nothing it waits for is still to be written.
Without a port step 10 waits (DESIGN CHOICE: log entry 116). -/
def Dev.tailIdle (d : Dev) : Bool :=
  d.loft.portOk && d.evt.latches.isEmpty && d.evt.cur.isNone && d.loft.jobs.all fun j => !j.tag.ofTail

/-- Whether step 10 has written all it must: item 2 has been carried out, its archive copies with it (R371, R379). -/
def Dev.tailReady (d : Dev) : Bool := d.sys.tail && d.tailIdle && d.prot.archQueue.isEmpty

/-- Item 2 of step 10 (R48): the install cut off is recorded, counter 515 follows EVT_HEAD, and the archive copies are due (R354,
R371, R379). -/
def Dev.beginTail (m : Memory) (d : Dev) : Dev :=
  let d := (d.noteInterrupted m).when d.evt.countWrite (Dev.writeCounter 515 d.evt.head)
  let d := d.noteArchive m
  { d with prot.archQueue := d.archDue m, sys.tail := true }

/-- LOFT_TAIL_RECOVERY (R48): with the latches written, item 2 begins; with all of it written, the counters are rescanned and step 10
completes, and START with it. -/
def fLoftTailRecovery (m : Memory) (d : Dev) : Dev :=
  if !d.inStep 10 then d
  else if d.tailReady then
    ((d.rescan m).onEvt fun r => { r with released := true, countWrite := false }).endStart
  else if !d.sys.tail && d.tailIdle && !d.prot.archBusy then d.beginTail m
  else d
def execLoftTailRecovery (t : Nat) (s : State) := runRead t fLoftTailRecovery s

end Sys2Proof.Machine
end

