-- ==== Sys2Proof/Machine/Registers.lean ====
section
/-! DEFINITION. How a write lands in the register file by the class of each field (01_architecture.md, R8–R11;
14_management_and_access.md, R434; 05_law_engine.md, R176). -/

namespace Sys2Proof.Machine

/-- The rail and region whose coefficient bank holds address `a` (R181). -/
def bankOf (a : Nat) : Nat × Nat := ((a - 0x60000) / 0x800, (a - 0x60000) % 0x800 / 0x80)

/-- A write to a shadow of a bank whose commit is accepted and not yet applied is kept for after the exchange (R176). -/
def Dev.noteLate (a : Nat) (v : Word) (d : Dev) : Dev :=
  if !isBank a then d
  else d.onLaw (bankOf a).1 fun l =>
    { l with groups := l.groups.map fun g => if g.code = (bankOf a).2 then { g with late := g.late.wr a v } else g }

/-- A write of YARD_ONLIMn: the word it replaces governs each stall up to its next period boundary (R9, R434). Two of the longest
periods are kept. -/
def Dev.noteOnlim (a : Nat) (old : Word) (d : Dev) : Dev :=
  let n := (a - aYARD_ONLIM 0) / 0x100
  if a ≠ aYARD_ONLIM n || 8 ≤ n then d
  else d.onYard n fun y => { y with onlims := (y.onlims.filter fun x => decide (d.now ≤ x.1 + edgesKept)) ++ [(d.now, old)] }

/-- A word lands in the register of row `r` at address `a`: live and period fields in the field, every RW field in the copy
that the host reads, and a 1 clears a W1C bit (R8, R434). Of the period fields the on-time limits still wait for each stall's
boundary; the others are stage parameters, which the stage applies at its own (R84, R226, R249; log entry 115). -/
def Dev.land (r : RegDesc) (a : Nat) (v : Word) (d : Dev) : Dev :=
  let g := d.regs
  let clear : Word := ~~~(v &&& BitVec.ofNat 32 r.w1c)
  let d := { d with regs := { g with
    act := g.act.wr a (blend (r.live ||| r.period) (g.act.rd a) v), hold := g.hold.wr a (blend r.rw (g.hold.rd a) v),
    stat := g.stat.wr a (g.stat.rd a &&& clear), ovf := g.ovf.wr a (g.ovf.rd a &&& clear) } }
  let d := (d.noteLate a (blend r.rw 0 v)).noteOnlim a (g.act.rd a)
  if r.start = 0 then d else { d with sys.pendingStart := d.startDiffers }

/-- A word that the primary's host wrote lands at a standby (R397); its own stop level and ceiling follow (R229, R293). -/
def Dev.landAt (a : Nat) (v : Word) (d : Dev) : Dev :=
  if a = aLOFT_PROT then d.writeProt (fld v 1 0)
  else match findDesc a with
    | some r =>
      let d := d.land r a v
      if a = aHSW_BLEED then d.setStop
      else if a = aXNT_RETCFG && d.regs.act.XNT_RETCFG_EN = 0 then { d with ret.ceil := false }
      else d
    | none => d

/-- The value in force behind the RW fields of address `a`: for a bank's shadow, the active register (R173). -/
def Dev.inForce (d : Dev) (a : Nat) : Word := if isBank a then d.stat (a - 0x40) else d.regs.act.rd a

/-- A register takes its shadow and its value in force from another device (R393). IN_DLY in force is the member's own, by which its
SYNC_IN edges fall on multiples of MULT (R73, R410). -/
def Dev.copyReg (a : Nat) (shadow inForce : Word) (d : Dev) : Dev :=
  match findDesc a with
  | none => d
  | some r =>
    let g := d.regs
    let inForce := if a = aTB_SYNCIO then blend 0x0FFF0000 inForce (g.act.rd a) else inForce
    let hold := g.hold.wr a (blend r.rw (g.hold.rd a) shadow)
    { d with regs := if isBank a then { g with hold := hold, stat := g.stat.wr (a - 0x40) (blend r.rw 0 inForce) }
                     else { g with hold := hold, act := g.act.wr a (blend r.rw (g.act.rd a) inForce) } }

end Sys2Proof.Machine
end

