-- ==== Sys2Proof/Machine/Pair.lean ====
section
/-! DEFINITION. The redundant pair (13_pair_and_domain.md, R383–R406): links, roles, mirroring, arming, takeover, authority
and the input owner. -/

namespace Sys2Proof.Machine

def Dev.onPair (f : Pair → Pair) (d : Dev) : Dev := { d with pair := f d.pair }

/-! ### Codes read back -/

def railStateOf : Nat → RailState
  | 1 => .probe | 2 => .ramp | 3 => .reg | 4 => .stop | 5 => .hiccup | 6 => .latched | _ => .off

def modeOf : Nat → Mode
  | 1 => .burst | 2 => .cut | 3 => .prepos | _ => .linear

def stallStateOf : Nat → StallState
  | 1 => .spare | 2 => .conducting | 3 => .tapering | 4 => .held | 5 => .shed | 6 => .failed | 7 => .retired | 8 => .incoming
  | _ => .unused

def cmdStatusOf : Nat → CmdStatus
  | 1 => .held | 2 => .ramping | 3 => .reached | 4 => .superseded | 5 => .aborted | _ => .none

def gateStateOf : Nat → GateState
  | 1 => .arm | 2 => .ramp | 3 => .on | 4 => .wait | 5 => .latched | 6 => .bleed | _ => .off

/-! ### Messages (R386, R387) -/

/-- The blocks of a message arrive on the pair link while it is up (R386, R387, R417, R418): one that is not intact is counted and
changes nothing else, and one of another MTYPE than `k` is not this message. -/
def Dev.pairMsg (k : Nat) (bs : List Block) (f : Dev → Dev) (d : Dev) : Dev :=
  if !d.inPair || d.pair.link.state ≠ 2 then d
  else if !msgIntact bs then d.count aPAIR_CRCERR
  else if msgType bs ≠ some k then d
  else f (d.onPair fun p => { p with partner := { p.partner with lastAt := some d.now } })

/-- The device is in STANDBY (R392). -/
def Dev.standing (d : Dev) : Bool := d.inPair && d.sys.state = .standby

/-- The device is the primary of a pair, in RUN. -/
def Dev.leading (d : Dev) : Bool := d.inPair && d.pair.primary && d.sys.state = .run

/-- A link's loss of lock: it trains again (R105, R386). -/
def Link.lose (_ : Link) : Link := { state := 1 }

/-- PAIR_LINK_LOSS_OF_LOCK (R386). -/
def fPairLinkLossOfLock (d : Dev) : Dev := if d.inPair && d.pair.link.state = 2 then d.onPair fun p => { p with link := p.link.lose } else d
def execPairLinkLossOfLock (t : Nat) (s : State) := run t fPairLinkLossOfLock s

/-! ### HELLO and roles (R389) -/

/-- The HELLO of this member. -/
def Dev.helloMsg (d : Dev) : HelloMsg :=
  { strap := d.pins.role, domid := d.dom.id, state := d.sys.state.code, step := if d.sys.state = .start then d.sys.step else 0,
    term := d.pair.term, owner := d.pair.owner, authority := d.pair.authority, seq := d.sys.imageSeq, bodyCrc := d.sys.imageCrc }

/-- HELLO_SEND (R387): at every change of its content, and every 100 µs. -/
def fHelloSend (d : Dev) : Dev :=
  let m := d.helloMsg
  if d.inPair && (d.pair.helloSent ≠ some m || decide (d.pair.helloAt + 100 * usEu ≤ d.now)) then
    (d.onPair fun p => { p with helloSent := some m, helloAt := d.now }).sendPair (.hello m)
  else d
def execHelloSend (t : Nat) (s : State) := run t fHelloSend s

/-- Every register with RW fields, as JOIN carries it. -/
def Dev.joinRegs (d : Dev) : List JoinItem :=
  (regTable.filter fun r => r.rw ≠ 0).flatMap fun r => r.addrs.map fun a => .reg a (d.regs.hold.rd a) (d.inForce a)

/-- The counters that R397 mirrors. -/
def mirroredCounts : List Nat := (regTable.filter fun r => r.kind = .counter).flatMap fun r => r.addrs.filter mirrored

/-- The items of a JOIN sequence (R393), as they stand now. R393 names no destination, and R200 none beyond those that RC carries of
a rail in RAMP or REG: a rail elsewhere keeps the standby's own until the next command (DESIGN CHOICE: log entry 104). -/
def Dev.joinItems (d : Dev) : List JoinItem :=
  d.joinRegs ++
  ((List.range 512).map fun s =>
    let x := d.stall s
    .stall s x.state.code x.roleOf x.cause x.segok x.trim) ++
  [.unit aENG_UNITMAP (unitBits 10 d.lawUnits), .unit aYARD_BALUNIT (unitBits 3 d.balUnits)] ++
  (mirroredCounts.map fun a => .count a (d.regs.cnt.rd a).toNat) ++
  ((List.range 512).filterMap fun s => (d.heldOffset s).map fun v => .offset (s / 16) (s % 16) v) ++
  ((List.range 8).map fun n => .cmd n (d.reg (aLCP_CMDSTAT n))) ++
  ((List.range 4).map fun k => .last k (d.ports.getD k {}).last)

/-- Items in messages of at most 8. -/
def joinChunks : Nat → List JoinItem → List (List JoinItem)
  | 0, _ => []
  | fuel + 1, l => if l.isEmpty then [] else l.take 8 :: joinChunks fuel (l.drop 8)

/-- The primary begins a JOIN sequence (R393): its messages, with the number that the next delta will have. -/
def Dev.startJoin (d : Dev) : Dev :=
  let items := d.joinItems
  let cs := joinChunks (items.length / 8 + 1) items
  let out := cs.zipIdx.map fun c => (⟨c.2, decide (c.2 + 1 = cs.length), d.pair.tx, c.1⟩ : JoinMsg)
  d.onPair fun p => { p with joinAt := some d.now, joinOut := out, unacked := [], sent := p.sent ++ out.map .join }

/-- HELLO (R389, R393, R412): a member that waits for its role settles it; a partner that enters STANDBY is sent JOIN; one whose ID
has changed is reported anew. -/
def fHello (bs : List Block) (m : HelloMsg) (d : Dev) : Dev :=
  d.pairMsg 1 bs fun d =>
    let was := d.pair.partner.hello
    let d := d.onPair fun p => { p with partner := { p.partner with hello := some m, started := p.partner.started || m.state = 0 } }
    let d := d.when (d.dom.valid && was.elim 0 (·.domid) ≠ m.domid) Dev.report
    if d.awaitsRole then d.settleRole
    else if d.leading && m.state = 2 && !(was.any fun h => h.state = 2) then
      (d.onPair fun p => { p with partnerArmed := false }).startJoin
    else d
def execHello (t : Nat) (bs : List Block) (m : HelloMsg) (s : State) := run t (fHello bs m) s

/-! ### Commits received by a standby (R392, R394, R396, R398) -/

/-- The latest instant at or before now at which the count of periods `p` ends in the 16 bits `k` (R394, R396). -/
def Dev.instantOf (d : Dev) (p k : Nat) : Nat :=
  let c := d.now / p
  (c - (c + 65536 - k % 65536) % 65536) * p

/-- The command in force follows the state that a commit shows (R191, R192). -/
def followCmd (st : RailState) (pos dest : Nat) (c : Cmd) : Cmd :=
  let c := if c.status = .held && (st = .ramp || st = .reg) then { c with status := .ramping } else c
  if c.status = .ramping && (st = .reg || st = .stop) && pos = 256 * dest then { c with status := .reached } else c

/-- The rail of an RC takes what it carries (R394): its centre is the ramp's code with the offset (R189), and the tight thresholds
stand while MODE is PREPOS, or an episode holds an offset (R203, R204). -/
def Rail.adopt (m : RcMsg) (now : Nat) (r : Rail) : Rail :=
  let st := railStateOf m.state
  let md := modeOf m.mode
  { r with mode := md, tight := md = .prepos || ((md = .burst || md = .cut) && m.off ≠ 0), pg := m.pg, pos := m.pos,
           vt := (((m.pos / 256 : Nat) : Int) + m.off).toNat, dest := m.dest, cls := m.cls, rdest := m.dest,
           rcls := m.cls, off := m.off, offt := m.offt, searched := true, episode := none, inside := m.inside,
           warn := if m.warn then some ⟨now, m.dir, m.warnCls, now, r.ir, false⟩ else none,
           cmd := followCmd st m.pos m.dest r.cmd }

/-- The law of an RC's rail takes what it carries (R394), and the droop that its current gives (R157). -/
def Law.adopt (m : RcMsg) (l : Law) : Law :=
  { l with st := { ifilt := m.ifilt, s := m.s, x1 := m.x1, x2 := m.x2, y1 := m.y1, y2 := m.y2, vcprev := m.vc,
                   outhi := m.flags.testBit 10, outlo := m.flags.testBit 11 },
           droop := sat32 (mulRaw m.ifilt ((l.kdrM : Nat), l.kdrS)), u := m.u, vc := m.vc, region := m.region, rebasePend := m.rebasePend, missRun := m.missRun, job := none,
           first := false, outHi := m.flags.testBit 10, outLo := m.flags.testBit 11, intHi := m.flags.testBit 8, intLo := m.flags.testBit 9 }

/-- A COMMIT delta (R397, R412): the primary has applied a group; this member applies its own copy. -/
def Dev.followCommit (g n : Nat) (d : Dev) : Dev :=
  if g = 0x10 then Dev.keepM d n (d.applyIlv n ((d.yard n).commit.getD (d.ilvWords n))) else d.applyGroup n ⟨g, d.engStaged n g, []⟩

/-- A COMMIT delta of a boundary later than that of the rail's last RC waits for it (R397, R416). -/
def Dev.takeCommit (g n k : Nat) (d : Dev) : Dev :=
  let have_ := d.pair.rcAt.getD n 0 / d.p n
  if d.runs n && decide (0 < (k + 65536 - have_ % 65536) % 65536) && decide ((k + 65536 - have_ % 65536) % 65536 < 32768) then
    d.onPair fun p => { p with commits := p.commits ++ [(g, n, k)] }
  else d.followCommit g n

/-- The commits that waited for the RC of rail `n` at boundary count `k` (R397). -/
def Dev.dueCommits (n k : Nat) (d : Dev) : Dev :=
  let due (c : Nat × Nat × Nat) : Bool := c.2.1 = n && decide ((k + 65536 - c.2.2 % 65536) % 65536 < 32768)
  let cs := d.pair.commits.filter due
  (d.onPair fun p => { p with commits := p.commits.filter fun c => !due c }).each cs fun c d => d.followCommit c.1 n

/-- A commit of a boundary after the adoption applies at the first boundary (R416). -/
def Dev.pendCommit (g n : Nat) (d : Dev) : Dev :=
  if g = 0x10 then ((d.onYard n fun y => { y with commit := some (y.commit.getD (d.ilvWords n)) }).pendChange n .commit 0)
  else d.onLaw n fun l => { l with groups := l.groups ++ [⟨g, d.engStaged n g, []⟩] }

/-- A standby keeps an RC (R392, R394, R395, R397, R398): rail, law, trims, counts, and the yard's epoch. -/
def Dev.adoptRc (m : RcMsg) (d : Dev) : Dev :=
  let n := m.rail
  let t := d.instantOf (d.p n) m.boundary
  let newer := decide (d.pair.dcAt < t)
  let d := d.onPair fun p => { p with rcAt := p.rcAt.set n t, trimIndex := p.trimIndex.set n m.trimIndex }
  let d := d.onRail n fun r => { r.adopt m d.now with state := if newer then railStateOf m.state else r.state }
  let d := (d.onLaw n (Law.adopt m)).onYard n fun y => { y with epoch := y.epoch + (m.epoch + 4096 - y.epoch % 4096) % 4096 }
  let d := d.setStatFld (aENG_FLAGS n) 4 0 (m.flags % 32)
  let d := d.each ((d.trimGroup n).zip m.trims) fun x d => d.onStall x.1 fun y => { y with trim := x.2 }
  (d.count (if m.missRun = 0 then aENG_EVAL n else aENG_DMISS n)).dueCommits n m.boundary

/-- An expected message has come: MISSRUN is 0 again (R398). -/
def Dev.clearMiss (d : Dev) : Dev := d.onPair fun p => { p with missRun := 0 }

/-- RC (R394, R398, R418): every one that is intact counts, and a standby keeps it. -/
def fRc (bs : List Block) (m : RcMsg) (d : Dev) : Dev :=
  d.pairMsg 2 bs fun d =>
    let d := d.count aPAIR_RCCNT
    if !d.standing || 8 ≤ m.rail then d else d.clearMiss.adoptRc m
def execRc (t : Nat) (bs : List Block) (m : RcMsg) (s : State) := run t (fRc bs m) s

/-- One rail of a DC (R396): a state at least as late as that of the rail's RC governs (R400). -/
def Rail.adoptDc (tick rcAt : Nat) (x : Nat × Nat × Nat × Bool) (hint : Nat) (r : Rail) : Rail :=
  { r with state := if rcAt ≤ tick then railStateOf x.1 else r.state, retries := x.2.1, hicEnd := tick + x.2.2.1 * msEu,
           hicOver := x.2.2.2, hint := hint }

/-- A standby keeps a DC (R396, R398): rails, returned energy, Δ and the domain epoch. -/
def Dev.adoptDc (m : DcMsg) (d : Dev) : Dev :=
  let t := d.instantOf usEu m.tick
  let d := d.onPair fun p => { p with dc := some m, dcAt := t }
  let d := d.each (List.range 8) fun n d =>
    d.onRail n (Rail.adoptDc t (d.pair.rcAt.getD n 0) (m.rails.getD n (0, 0, 0, false)) (m.hints.getD n 0))
  { d with ret.e := 2000 * m.retAcc, dom.delta := m.delta, dom.epoch := d.dom.epoch - d.dom.epoch % 2 ^ 20 + m.epoch % 2 ^ 20 }

/-- The partner's loft has become unusable (R399): logged once. -/
def Dev.partnerLoft (m : DcMsg) (d : Dev) : Dev :=
  let first := m.unusable && !d.pair.loftLogged
  let d := d.onPair fun p => { p with loftLogged := m.unusable }
  d.when first (Dev.raiseDev 0x100D (leBytes 2 (d.pair.partner.hello.elim 0 (·.domid))))

/-- DC (R396, R398, R399, R418). -/
def fDc (bs : List Block) (m : DcMsg) (d : Dev) : Dev :=
  d.pairMsg 3 bs fun d =>
    let d := d.count aPAIR_DCCNT
    if !d.standing then d else (d.clearMiss.adoptDc m).partnerLoft m
def execDc (t : Nat) (bs : List Block) (m : DcMsg) (s : State) := run t (fDc bs m) s

/-- The DC of this device now (R396). -/
def Dev.dcMsg (d : Dev) : DcMsg :=
  { tick := d.now / usEu % 65536, state := d.sys.state.code, hswState := d.hsw.state.code, hswRetries := d.hsw.retries,
    owner := d.pair.owner, unusable := d.evt.unusable,
    rails := d.rails.map fun r => (r.state.code, r.retries, if r.state = .hiccup then (r.hicEnd - d.now) / msEu else 0, r.hicOver),
    retAcc := d.ret.acc, hints := d.rails.map (·.hint), delta := d.dom.delta, epoch := d.dom.epoch % 2 ^ 20 }

/-- DC_SEND (R387, R396): at every 1 µs of timebase time. -/
def fDcSend (d : Dev) : Dev :=
  if d.leading && d.now % usEu = 0 then (d.sendPair (.dc d.dcMsg)).count aPAIR_DCCNT else d
def execDcSend (t : Nat) (s : State) := run t fDcSend s

/-! ### Deltas and arming (R388, R393, R397) -/

/-- A destination that the primary accepted enters the rail's record (R190, R192). -/
def Dev.recordDest (n code cls seq src : Nat) (notify : Bool) (d : Dev) : Dev :=
  d.onRail n fun r =>
    let live := r.cmd.status = .held || r.cmd.status = .ramping
    let st : CmdStatus :=
      if r.state = .ramp || r.state = .reg || (code = 0 && r.state = .stop) then .ramping
      else if code = 0 && r.state = .off then .reached
      else .held
    { r with prev := if live then { r.cmd with status := .superseded } else r.cmd, cmd := ⟨seq, st, src, notify⟩, dest := code, cls := cls }

/-- A CMD delta (R397): what the primary accepted; nothing acts on it here. -/
def Dev.noteCmd (src raw : Nat) (d : Dev) : Dev :=
  let op := raw / 2 ^ 44 % 16
  let n := raw / 2 ^ 41 % 8
  let arg := raw / 256 % 2 ^ 29
  let r := d.rail n
  let data := if op = 1 then r.code else if op = 2 then r.hint else 0
  let d := if src < 4 then d.onPort src fun p => { p with last := raw, lastData := data } else d
  match op with
  | 1 =>
    let code := arg / 2 ^ 17
    let d := d.recordDest n code (arg / 2 ^ 13 % 16) (raw / 2 ^ 37 % 16) src ((arg / 2 ^ 12).testBit 0)
    if src < 4 && code ≠ 0 && d.regs.act.LCP_RAILCFG_LCP_ENABLE n = 1 then d.setLive (aSYS_RAILEN n) 15 8 0x80 else d
  | 2 => d.onRail n fun r => { r with hint := arg / 2 ^ 26 }
  | _ => d

/-- A stall takes its state from the primary (R393, R397), and its yard's m follows. -/
def Dev.copyStall (s state roleOf cause segok : Nat) (d : Dev) : Dev :=
  let st := stallStateOf state
  let n := (d.railOf s).getD 0
  let d := d.onStall s fun x =>
    { x with state := st, roleOf := roleOf, cause := cause, segok := segok, fromW := 0,
             taperFrom := if x.state ≠ .tapering then d.nextPeriod n s else x.taperFrom,
             heldEnd := if x.state ≠ .held then d.now + 8 * d.tp n else x.heldEnd }
  let d := d.onStall s fun x => { x with weight := d.weightOf s }
  match d.railOf s with
  | some n => d.onYard n fun y => { y with m := (d.conducting n).length }
  | none => d

/-- Units take their maps from the primary. -/
def copyUnits (w : Nat) (v : Word) (us : List EvalUnit) : List EvalUnit :=
  us.zipIdx.map fun x => { x.1 with serving := v.toNat.testBit x.2, failed := v.toNat.testBit (w + x.2), lame := v.toNat.testBit (2 * w + x.2) }

def Dev.copyUnit (a : Nat) (v : Word) (d : Dev) : Dev :=
  if a = aENG_UNITMAP then { d with lawUnits := copyUnits 10 v d.lawUnits }
  else if a = aYARD_BALUNIT then { d with balUnits := copyUnits 3 v d.balUnits }
  else d

/-- One delta is applied (R397). -/
def Dev.applyDelta (x : Delta) (d : Dev) : Dev :=
  match x with
  | .cfg a v => d.landAt a v
  | .commit g n k => d.takeCommit g n k
  | .cmd src raw => d.noteCmd src raw
  | .role s st r c k => d.copyStall s st r c k
  | .unit a v => d.copyUnit a v
  | .count a k => d.count a k

/-- The standby is armed when a JOIN sequence is whole, no delta since is missing, the commits fit the link and the images
agree (R388, R389, R393). -/
def Dev.tryArm (d : Dev) : Dev :=
  d.onPair fun p => { p with armed := p.armed || (p.joined && p.gapAt.isNone && !d.pairLoad && !p.mismatch) }

/-- One delta of a DELTAS message: the next in order is applied, an older one ignored, a later one shows that some are
missing (R397). -/
def Dev.takeDelta (seq : Nat) (x : Delta) (d : Dev) : Dev :=
  let next := (d.pair.ack + 1) % 65536
  if seq = next then (d.applyDelta x).onPair fun p => { p with ack := seq, gapAt := none }
  else if (seq + 65536 - next) % 65536 < 32768 then d.onPair fun p => { p with gapAt := some (p.gapAt.getD d.now) }
  else d

/-- DELTAS (R397). -/
def fDeltas (bs : List Block) (first : Nat) (ds : List Delta) (d : Dev) : Dev :=
  d.pairMsg 9 bs fun d =>
    if !d.standing then d
    else (d.each ds.zipIdx fun x d => d.takeDelta ((first + x.2) % 65536) x.1).tryArm
def execDeltas (t : Nat) (bs : List Block) (first : Nat) (ds : List Delta) (s : State) := run t (fDeltas bs first ds) s

/-- One JOIN item (R393). -/
def Dev.applyItem (x : JoinItem) (d : Dev) : Dev :=
  match x with
  | .reg a sh v => d.copyReg a sh v
  | .count a v => { d with regs.cnt := d.regs.cnt.wr a (BitVec.ofNat 32 v) }
  | .stall s st r c k tr => (d.copyStall s st r c k).onStall s fun y => { y with trim := tr }
  | .unit a v => d.copyUnit a v
  | .offset l p v => d.onPair fun q => { q with offsets := q.offsets.wr (16 * l + p) (BitVec.ofInt 32 (v + 1)) }
  | .cmd n w => d.onRail n fun r =>
    { r with cmd := ⟨fld w 3 0, cmdStatusOf (fld w 6 4), fld w 10 8, r.cmd.notify⟩,
             prev := ⟨fld w 19 16, cmdStatusOf (fld w 22 20), fld w 26 24, r.prev.notify⟩ }
  | .last k raw => d.onPort k fun p => { p with last := raw }

/-- JOIN (R393): the first message of a sequence begins it anew; one out of turn is not loaded. -/
def fJoin (bs : List Block) (m : JoinMsg) (d : Dev) : Dev :=
  d.pairMsg 5 bs fun d =>
    if !d.standing then d
    else
      let d := if m.index = 0 then d.onPair fun p =>
          { p with armed := false, joined := false, joinNext := 0, gapAt := none, commits := [], ack := (m.firstDelta + 65535) % 65536 }
        else d
      if m.index ≠ d.pair.joinNext || d.pair.joined then d
      else
        let d := (d.each m.items Dev.applyItem).onPair fun p => { p with joinNext := m.index + 1, joined := m.final }
        (d.when m.final (Dev.count aPAIR_JOINCNT)).tryArm
def execJoin (t : Nat) (bs : List Block) (m : JoinMsg) (s : State) := run t (fJoin bs m) s

/-- ACK_SEND (R397): every 1 µs. -/
def fAckSend (d : Dev) : Dev :=
  if d.standing && d.now % usEu = 0 then d.sendPair (.ack d.pair.ack d.pair.armed) else d
def execAckSend (t : Nat) (s : State) := run t fAckSend s

/-- ACK (R393, R397): deltas up to the one named are acknowledged; ARMED 0 brings JOIN, unless a sequence of the last 10 ms is
still on its way. -/
def fAck (bs : List Block) (seq : Nat) (armed : Bool) (d : Dev) : Dev :=
  d.pairMsg 4 bs fun d =>
    if !d.leading then d
    else
      let later (x : DeltaSent) : Bool := decide ((seq + 65536 - x.seq) % 65536 ≥ 32768)
      let done := armed && d.pair.joinAt.isSome
      let d := d.onPair fun p =>
        { p with ack := seq, unacked := p.unacked.filter later, partnerArmed := armed, joinAt := if armed then none else p.joinAt }
      let d := d.when done (Dev.count aPAIR_JOINCNT)
      let due := match d.pair.joinAt with
        | some t0 => decide (t0 + 10 * msEu ≤ d.now)
        | none => true
      d.when (!armed && due && d.mirrors) Dev.startJoin
def execAck (t : Nat) (bs : List Block) (seq : Nat) (armed : Bool) (s : State) := run t (fAck bs seq armed) s

/-- DELTA_RESEND (R397): the oldest deltas that have gone 10 µs without an acknowledgement, at most 8 in a message. -/
def fDeltaResend (d : Dev) : Dev :=
  let due := (d.pair.unacked.takeWhile fun x => decide (x.latest + 10 * usEu ≤ d.now)).take 8
  match due with
  | [] => d
  | x :: _ =>
    if !d.leading then d
    else
      let seqs := due.map (·.seq)
      let d := d.onPair fun p =>
        { p with unacked := p.unacked.map fun y => if seqs.contains y.seq then { y with latest := d.now } else y }
      (d.sendPair (.deltas x.seq (due.map (·.d)))).count aPAIR_RETXCNT due.length
def execDeltaResend (t : Nat) (s : State) := run t fDeltaResend s

/-- ARMED_LOSS (R393): a delta has gone 64 µs without an acknowledgement; the primary holds its partner as not armed, and a
standby is not armed. A standby that has seen a gap knows since when; of a delta that it never saw it knows by the command alone
(DEDUCED: log entry 52). -/
def fArmedLoss (d : Dev) : Dev :=
  let late (t0 : Nat) : Bool := decide (t0 + 64 * usEu ≤ d.now)
  if d.leading && d.pair.unacked.any (fun x => late x.first) then d.onPair fun p => { p with partnerArmed := false }
  else if d.standing && d.pair.gapAt.all late then d.onPair fun p => { p with armed := false, joined := false }
  else d
def execArmedLoss (t : Nat) (s : State) := run t fArmedLoss s

/-! ### Takeover (R399–R402, R416) -/

/-- A rail of a device that adopts nothing starts from OFF, with none of the trims that its primary's commits brought (R400). -/
def Dev.freshRail (n : Nat) (d : Dev) : Dev :=
  let d := ((d.onRail n fun _ => {}).onLaw n fun _ => {}).initRail n
  d.each (d.bound n) fun s d => d.onStall s fun x => { x with trim := 0 }

/-- What the last DC brought of the whole device: Δ and the domain epoch become this member's own, or a device that is not armed
keeps its own, and no returned energy (R396, R400). -/
def Dev.adoptDomain (d : Dev) : Dev :=
  if d.pair.armed then { d with dom.ownDelta := d.dom.delta, dom.ownEpoch := d.dom.epoch }
  else { d with ret.e := 0, dom.delta := d.dom.ownDelta, dom.epoch := d.dom.ownEpoch }

/-- The gate's state that a member which does not own the input adopts: what the owner alone does, arming, ramping and
bleeding, it does not. -/
def adoptedGate (k : Nat) : GateState :=
  match gateStateOf k with
  | .on => .on
  | .wait => .wait
  | .latched => .latched
  | _ => .off

/-- Step 2 of R400: the input path as the last DC shows it, where another member owns the input. -/
def Dev.adoptGate (d : Dev) : Dev :=
  match d.pair.dc with
  | some m =>
    if d.pair.armed && !d.pair.owner then
      d.onHsw fun h => { h with state := adoptedGate m.hswState, retries := m.hswRetries, waitEnd := d.now + d.retryPeriod }
    else d
  | none => d

/-- The group commits that waited for an RC (R416); a device that is not armed adopts nothing. -/
def Dev.adoptCommits (d : Dev) : Dev :=
  (d.onPair fun p => { p with commits := [] }).each (if d.pair.armed then d.pair.commits else []) fun c d => d.pendCommit c.1 c.2.1

/-- Step 2 of R400: a warning in force ends as a miss, and an episode's on-time is the adopted u; a device that is not armed adopts
nothing. -/
def Dev.adopt (d : Dev) : Dev :=
  d.adoptGate.adoptDomain.adoptCommits.each (List.range 8) fun n d =>
    if !d.pair.armed then d.freshRail n
    else
      let d := d.endWarn n false
      (d.onRail n fun r => { r with offt := 0, uhold := (d.law n).u }).onYard n fun y => { y with linearSince := d.now, dwell := 0 }

/-- Step 3 of R400: CLAIM on every UP lane, and HOLD after it. -/
def Dev.claimAll (d : Dev) : Dev :=
  d.each d.upLanes fun l d =>
    let d := d.onLane l fun x => { x with term := d.pair.term, held := true }
    let d := d.send l (claimBody d.pair.term d.dom.id)
    d.sendAt l (512 * (fitSlot 4 (slotAt d.now) + 1)) (holdBody 0)

/-- EDGE frames go out for periods that start at or after `t` (R400 step 4). -/
def Dev.edgesFrom (t : Nat) (d : Dev) : Dev := { d with stalls := d.stalls.map fun x => { x with nextFrom := t } }

/-- The device takes over (R400). -/
def Dev.takeOver (d : Dev) : Dev :=
  let t0 := d.now
  let d := d.adopt.onPair fun p =>
    { p with primary := true, authority := true, term := (p.term + 1) % 65536, armed := false, joined := false, partnerArmed := false,
             joinAt := none, unacked := [], takenUntil := some (t0 + 100 * usEu), missRun := 0 }
  let d := { (d.edgesFrom (t0 + d.lead)).claimAll with sys.state := .run, sys.idleSince := none }
  let d := d.each (List.range 32) fun l d => if (d.lane l).state = .up then d else d.failLaneStalls l (List.range 8)
  let d := (d.stick aPAIR_STAT 0x400).count aPAIR_TAKECNT
  let d := (d.setStat aPAIR_TAKETL (BitVec.ofNat 32 t0)).setStat aPAIR_TAKETH (BitVec.ofNat 32 (t0 / 2 ^ 32))
  let d := { d with dom.sticky := d.dom.sticky ||| 0x80 }
  let d := d.sendPair (.taken d.pair.term)
  let d := d.afterLoss.checkInput
  d.startMany ((List.range 8).filter fun n => (d.rail n).state = .off && d.wantsOn n)

/-- A trigger of R399 acts while takeover is allowed. -/
def Dev.takeOn (d : Dev) : Dev := if d.standing && d.regs.act.PAIR_CFG_TAKE_EN = 1 then d.takeOver else d

/-- An expected message has not come (R398, R399). -/
def Dev.missed (d : Dev) : Dev :=
  let d := (d.count aPAIR_MISS).onPair fun p => { p with missRun := min 15 (p.missRun + 1) }
  if d.pair.missRun = 3 then d.takeOn else d

/-- MESSAGE_DUE_MISSED (R398): the RC of a rail in RAMP or REG at T + P + 100 ns, or the DC of a tick at 1.1 µs after it. -/
def fMessageDueMissed (rail : Option Nat) (d : Dev) : Dev :=
  if !d.standing then d
  else match rail with
    | some n =>
      let t := d.now - d.p n - 5120
      if d.runs n && decide (d.p n + 5120 ≤ d.now) && t % d.p n = 0 && decide (d.pair.rcAt.getD n 0 < t) then d.missed else d
    | none =>
      let t := d.now - 56320
      if decide (56320 ≤ d.now) && t % usEu = 0 && decide (d.pair.dcAt < t) then d.missed else d
def execMessageDueMissed (t : Nat) (rail : Option Nat) (s : State) := run t (fMessageDueMissed rail) s

/-- PFLT_PERSISTENCE (R399): not while the last DC shows the partner's loft unusable. -/
def fPfltPersistence (d : Dev) : Dev :=
  match d.pair.pfltLowAt with
  | none => d
  | some t0 =>
    if decide (t0 + atLeast1 d.regs.act.PAIR_CFG_FLTN * 512 ≤ d.now) && !(d.pair.dc.any (·.unusable)) then d.takeOn else d
def execPfltPersistence (t : Nat) (s : State) := run t fPfltPersistence s

/-- HANDOVER (R399). -/
def fHandover (bs : List Block) (d : Dev) : Dev := d.pairMsg 7 bs Dev.takeOn
def execHandover (t : Nat) (bs : List Block) (s : State) := run t (fHandover bs) s

/-- TAKEN_SEND (R387): every 1 µs for 100 µs after a takeover. -/
def fTakenSend (d : Dev) : Dev :=
  match d.pair.takenUntil with
  | none => d
  | some e => if d.leading && decide (d.now ≤ e) && (e - d.now) % usEu = 0 then d.sendPair (.taken d.pair.term) else d
def execTakenSend (t : Nat) (s : State) := run t fTakenSend s

/-! ### Authority and hand-over (R403, R404) -/

/-- TAKEN (R387, R403): with a greater TERM this member has lost authority. -/
def fTaken (bs : List Block) (term : Nat) (d : Dev) : Dev :=
  d.pairMsg 6 bs fun d =>
    if d.sys.state = .run && decide (d.pair.term < term) then (d.onPair fun p => { p with handoverAt := none }).loseAuthority else d
def execTaken (t : Nat) (bs : List Block) (term : Nat) (s : State) := run t (fTaken bs term) s

/-- WARM, and the hand-over to an armed partner that comes before it (R25, R404). -/
def Dev.warmCommand (d : Dev) : Dev :=
  if d.leading && d.pair.partnerArmed then (d.onPair fun p => { p with handoverAt := some d.now }).sendPair .handover
  else d.warmStart 1

/-- HANDOVER_WAIT_EXPIRY (R404): 5 µs without TAKEN, and WARM acts as on a single device. -/
def fHandoverWaitExpiry (d : Dev) : Dev :=
  match d.pair.handoverAt with
  | some t0 =>
    if d.sys.state = .run && decide (t0 + 5 * usEu ≤ d.now) then (d.onPair fun p => { p with handoverAt := none }).warmStart 1 else d
  | none => d
def execHandoverWaitExpiry (t : Nat) (s : State) := run t fHandoverWaitExpiry s

/-- The authority check of one lane: STAGECFG TELEM_CTL 0b11 to the next of its answering positions (R403). -/
def Dev.checkLane (l : Nat) (d : Dev) : Dev :=
  let ps := d.answering l
  let k := d.pair.checkPos.getD l 0
  match ps[k % ps.length]? with
  | none => d
  | some p => (d.onPair fun q => { q with checkPos := q.checkPos.set l ((k + 1) % ps.length) }).askAgain l p (.cfg 0x0C 3) 0

/-- AUTHORITY_CHECK (R403): every ACHK µs. -/
def fAuthorityCheck (d : Dev) : Dev :=
  if d.leading && d.now % (atLeast1 d.regs.act.PAIR_CFG_ACHK * usEu) = 0 then d.each d.upLanes Dev.checkLane else d
def execAuthorityCheck (t : Nat) (s : State) := run t fAuthorityCheck s

/-! ### The input owner (R405) -/

/-- The conditions of a hand-over of the input (R405). -/
def Dev.mayOffer (d : Dev) : Bool :=
  d.standing && d.pair.owner && d.regs.act.PAIR_CFG_OWN_MOVE = 1 && d.hsw.state = .on && !d.hsw.ilim && !d.hsw.plim &&
  d.reg aHSW_EFET = 0

/-- OWNER_OFFER (R405). -/
def fOwnerOffer (d : Dev) : Dev :=
  if d.mayOffer then (d.onPair fun p => { p with offered := true }).sendPair (.owner false) else d
def execOwnerOffer (t : Nat) (s : State) := run t fOwnerOffer s

/-- The primary takes the input over: its gate is driven on, and its record becomes ON (R405). -/
def Dev.acceptInput (d : Dev) : Dev :=
  let d := d.onHsw fun h => { h with state := .on, onAt := d.now, ibcEn := true, ibcFall := none, ilim := false, plim := false }
  ((d.onPair fun p => { p with owner := true }).writeInput 0).sendPair (.owner true)

/-- The former owner releases HSW_GATE and BLEED (R405). -/
def Dev.releaseInput (d : Dev) : Dev :=
  let d := d.onPair fun p => { p with owner := false, offered := false }
  let d := d.onHsw fun h => { h with state := .off, ilim := false, plim := false, ramp := [] }
  d.checkInput

/-- OWNER (R405). -/
def fOwner (bs : List Block) (accept : Bool) (d : Dev) : Dev :=
  d.pairMsg 8 bs fun d =>
    if accept then (if d.pair.owner && d.pair.offered then d.releaseInput else d)
    else if d.leading && !d.pair.owner then d.acceptInput else d
def execOwner (t : Nat) (bs : List Block) (accept : Bool) (s : State) := run t (fOwner bs accept) s

end Sys2Proof.Machine
end

