-- ==== Sys2Proof/Machine/Domain.lean ====
section
/-! DEFINITION. The domain (13_pair_and_domain.md, R407–R415) and the training of every link: IDs, time, epochs, interleave,
snapshots and alarms; and the TRIG pin (R310, R413). -/

namespace Sys2Proof.Machine

def Dev.onDom (f : Dom → Dom) (d : Dev) : Dev := { d with dom := f d.dom }

/-! ### Links (R386, R407, R415) -/

/-- A message upward (R408). -/
def Dev.sendUp (m : DomMsg) (d : Dev) : Dev := d.onDom fun x => { x with sentUp := x.sentUp ++ [m] }

/-- The blocks of a message arrive on a domain port whose link is up: one that is not intact is counted and changes nothing else, and
one of another MTYPE than `k` is not this message (R386, R408, R420). -/
def Dev.domMsg (x : Link) (k : Nat) (bs : List Block) (f : Dev → Dev) (d : Dev) : Dev :=
  if x.state ≠ 2 then d
  else if !msgIntact bs then d.count aDOM_MSGERR
  else if msgType bs ≠ some k then d
  else f d

/-- A downward message arrives: the root has no upstream port. -/
def Dev.downMsg (k : Nat) (bs : List Block) (f : Dev → Dev) (d : Dev) : Dev :=
  if d.pins.domRoot then d else d.domMsg d.dom.dup k bs f

/-- The link of a downstream port. -/
def Dom.child (m : Dom) (port : LinkPort) : Link := if port = .ddn0 then m.ddn0 else m.ddn1

/-- The range of size 0 that a link receives which comes up after the division (R409). -/
def Dev.emptyRange (d : Dev) : DomMsg := .enum 0 0 (d.dom.depth + 1)

/-- LINK_TRAINING (R386, R407): phases 1 and 2 of R104 are over on a link that trains, with a round trip of `rt` eu. -/
def fLinkTraining (port : LinkPort) (rt : Nat) (d : Dev) : Dev :=
  let up : Link := { state := 2, rt := rt }
  let late : List DomMsg := if d.dom.divided then [d.emptyRange] else []
  match port with
  | .mirb => if d.inPair && d.pair.link.state = 1 then d.onPair fun p => { p with link := up } else d
  | .dup => if d.dom.dup.state = 1 then d.onDom fun m => { m with dup := up } else d
  | .ddn0 => if d.dom.ddn0.state = 1 then d.onDom fun m => { m with ddn0 := up, sent0 := m.sent0 ++ late } else d
  | .ddn1 => if d.dom.ddn1.state = 1 then d.onDom fun m => { m with ddn1 := up, sent1 := m.sent1 ++ late } else d
def execLinkTraining (t : Nat) (port : LinkPort) (rt : Nat) (s : State) := run t (fLinkTraining port rt) s

/-- DOMAIN_LINK_LOSS (R415): a child keeps its ID, epoch and Δ and is to be aligned anew; a parent sets LINK. -/
def fDomainLinkLoss (port : LinkPort) (d : Dev) : Dev :=
  let lost (x : Link) (f : Dom → Dom) (d : Dev) : Dev := if x.state = 2 then (d.onDom f).count aDOM_LINKDOWN else d
  match port with
  | .mirb => d
  | .dup => lost d.dom.dup (fun m => { m with dup := m.dup.lose, aligned := false }) d
  | .ddn0 => lost d.dom.ddn0 (fun m => { m with ddn0 := m.ddn0.lose, sticky := m.sticky ||| 0x100 }) d
  | .ddn1 => lost d.dom.ddn1 (fun m => { m with ddn1 := m.ddn1.lose, sticky := m.sticky ||| 0x100 }) d
def execDomainLinkLoss (t : Nat) (port : LinkPort) (s : State) := run t (fDomainLinkLoss port) s

/-! ### IDs (R409, R412) -/

/-- The image has been loaded (R39). -/
def Dev.imageHeld (d : Dev) : Bool := d.sys.loaded

/-- ENUM (R409). -/
def fEnum (bs : List Block) (base size depth : Nat) (d : Dev) : Dev :=
  d.downMsg 1 bs fun d =>
    if d.dom.valid then d
    else
      let d := d.onDom fun m => { m with enumGot := some (base, size, depth) }
      if d.imageHeld then d.takeId else d
def execEnum (t : Nat) (bs : List Block) (base size depth : Nat) (s : State) := run t (fEnum bs base size depth) s

/-- The ranges of the two downstream links, as (base, size), by which of them are up (R409). -/
def splitRange (i r : Nat) (up0 up1 : Bool) : (Nat × Nat) × (Nat × Nat) :=
  let a := (r - 1) / 2
  if up0 && up1 then ((i + 1, a), (i + 1 + a, r - 1 - a))
  else ((i + 1, if up0 then r - 1 else 0), (i + 1, if up1 then r - 1 else 0))

/-- SETTLE_EXPIRY (R409): the rest of the range is divided; a member at depth 16 gives size 0. -/
def fSettleExpiry (d : Dev) : Dev :=
  match d.dom.settleAt with
  | none => d
  | some t0 =>
    if d.now < t0 then d
    else
      let m := d.dom
      let up (x : Link) : Bool := x.state = 2
      let s := splitRange m.id (if 16 ≤ m.depth then 0 else m.range) (up m.ddn0) (up m.ddn1)
      let msg (x : Link) (y : Nat × Nat) : List DomMsg := if up x then [.enum y.1 y.2 (m.depth + 1)] else []
      d.onDom fun m => { m with settleAt := none, divided := true, sent0 := m.sent0 ++ msg m.ddn0 s.1, sent1 := m.sent1 ++ msg m.ddn1 s.2 }
def execSettleExpiry (t : Nat) (s : State) := run t fSettleExpiry s

/-- REPORT (R408, R412): relayed to the root, which sends ILV again when its membership has changed. -/
def fReport (port : LinkPort) (bs : List Block) (r : ReportMsg) (d : Dev) : Dev :=
  if port = .mirb || port = .dup then d
  else d.domMsg (d.dom.child port) 7 bs fun d => if d.pins.domRoot then d.enroll r else d.sendUp (.report r)
def execReport (t : Nat) (port : LinkPort) (bs : List Block) (r : ReportMsg) (s : State) := run t (fReport port bs r) s

/-! ### Time (R73, R76, R410) -/

/-- The link on which the member's time comes: DUP, or MIRB for member B with DOM_ROOT high. -/
def Dev.timeLink (d : Dev) (port : LinkPort) : Option Link :=
  if !d.pins.domRoot then (if port = .dup then some d.dom.dup else none)
  else if d.pins.role = 2 && port = .mirb then some d.pair.link
  else none

/-- A rail is switching. -/
def Dev.switching (d : Dev) : Bool := d.rails.any fun r => !r.state.still

/-- A running timebase steps back by `err` eu (R410): what runs by it now runs on for as long as before (R281, R286, R287, R440), and
with the edges of SYNC_IN moved the delay IN_DLY keeps them on multiples of MULT (R73). -/
def Dev.stepBack (err : Int) (d : Dev) : Dev :=
  let mv (t : Nat) : Nat := ((t : Int) - err).toNat
  let m : Int := (atLeast1 d.tb.mult : Nat)
  let d := d.setLive aTB_SYNCIO 27 16 ((((d.regs.act.TB_SYNCIO_IN_DLY : Nat) : Int) + (err + 8) / 16) % m).toNat
  { d with tb.offset := d.tb.offset - err, tb.slewBy := 0, acc.backEnd := mv d.acc.backEnd, acc.lastTxn := mv d.acc.lastTxn,
           prot.comps := d.prot.comps.map fun (c : Comparator) => { c with since := mv c.since },
           pair.pfltLowAt := d.pair.pfltLowAt.map mv, meas.outAt := mv (d.tb.wall + d.tb.offset).toNat / usEu,
           hsw := { d.hsw with rampAt := mv d.hsw.rampAt, onAt := mv d.hsw.onAt, waitEnd := mv d.hsw.waitEnd, offAt := mv d.hsw.offAt,
                               bleedEnd := mv d.hsw.bleedEnd } }

/-- A member whose timebase runs aligns to a source that reads `target` now (R410). While the slew of R76 runs, TIME updates DOM_TERR
alone (DESIGN CHOICE: log entry 119). -/
def Dev.alignTo (target : Nat) (d : Dev) : Dev :=
  let err : Int := (d.now : Int) - target
  if d.tb.slewing then d.onDom fun m => { m with terr := if m.aligned then err else m.terr }
  else if !d.dom.aligned then
    let d := d.onDom fun m => { m with aligned := true }
    if d.switching then d.slew (-err) else d.stepBack err
  else
    let d := d.onDom fun m => { m with terr := err }
    if err.natAbs ≤ 16 then d else d.slew (-err)

/-- TIME acts (R408, R410): in step 2 the member declares lock on the next edge; later it aligns; its own TIME goes on downward. -/
def Dev.takeTime (x : Link) (sender : Nat) (d : Dev) : Dev :=
  let target := sender + x.rt / 2
  let d :=
    if d.locking then
      if d.tb.mult = 0 || d.tb.timeGot.isSome || !d.waitsTime then d else { d with tb.timeGot := some (d.tb.wall, target) }
    else if d.tb.running then d.alignTo target
    else d
  if d.tb.running then d.sendDown [.time d.now] else d

/-- TIME (R410). -/
def fTime (port : LinkPort) (bs : List Block) (sender : Nat) (d : Dev) : Dev :=
  match d.timeLink port with
  | none => d
  | some x => if port = .mirb then d.pairMsg 10 bs (Dev.takeTime x sender) else d.domMsg x 2 bs (Dev.takeTime x sender)
def execTime (t : Nat) (port : LinkPort) (bs : List Block) (sender : Nat) (s : State) := run t (fTime port bs sender) s

/-- TIME_SEND (R387, R408): every 1 ms the root sends TIME downward, and member A to member B. -/
def fTimeSend (d : Dev) : Dev :=
  if !d.tb.running || !d.pins.domRoot || d.now % msEu ≠ 0 then d
  else
    let d := d.sendDown [.time d.now]
    d.when (d.pins.role = 1) (Dev.sendPair (.time d.now))
def execTimeSend (t : Nat) (s : State) := run t fTimeSend s

/-! ### Epochs and interleave (R411, R412, R416) -/

/-- The root advances the domain epoch and names its instant (R411). -/
def Dev.advanceEpoch (d : Dev) : Dev :=
  if !d.pins.domRoot then d
  else
    let n := ((d.dom.epochs.getLast?.elim d.dom.epoch (·.1)) + 1) % 2 ^ 32
    let at_ := d.now + msEu + Config.epochExtra n
    (d.onDom fun m => { m with epochs := m.epochs ++ [(n, at_)], epochAt := d.now }).sendDown [.epoch n at_]

/-- EPOCH_INTERVAL (R411). -/
def fEpochInterval (d : Dev) : Dev :=
  let len := d.regs.act.DOM_EPOCHCFG_LEN
  if len ≠ 0 && d.tb.running && decide (d.dom.epochAt + len * msEu ≤ d.now) then d.advanceEpoch else d
def execEpochInterval (t : Nat) (s : State) := run t fEpochInterval s

/-- EPOCH (R411): forwarded, and adopted at the instant it names, with any that are still to come. -/
def fEpoch (bs : List Block) (count at_ : Nat) (d : Dev) : Dev :=
  d.downMsg 3 bs fun d =>
    (((d.wake 5).count aDOM_EPOCHRX).onDom fun m => { m with epochs := m.epochs ++ [(count % 2 ^ 32, at_)] }).sendDown [.epoch count at_]
def execEpoch (t : Nat) (bs : List Block) (count at_ : Nat) (s : State) := run t (fEpoch bs count at_) s

/-- A new Δ moves the phases of an enabled yard on by `k` at its next boundary, with a host's commit that is pending; a
standby waits for the primary's COMMIT (R412, R416). -/
def Dev.moveYard (k n : Nat) (d : Dev) : Dev :=
  let y := d.yard n
  let ws := y.commit.getD []
  let step := (y.dstep + k) % 4096
  let code := d.ilvCheck (withDelta (d.regs.act.over ws) n d.dom.delta step) n (d.ilvStalls n)
  let d := d.onYard n fun y => { y with code := code }
  if code ≠ 0 then d
  else
    let d := d.onYard n fun y => { y with commit := some ws, dstep := step }
    if d.isStandby then d else (d.pendChange n .commit 0).afterChange n

/-- Δ takes a value, the one in force too (R412): every enabled yard makes its commit. -/
def Dev.newDelta (v : Nat) (d : Dev) : Dev :=
  let k := (v + 4096 - d.dom.delta % 4096) % 4096
  let d := d.onDom fun m => { m with delta := v % 4096, ownDelta := v % 4096, ilvNext := none }
  d.each d.enabledRails (Dev.moveYard k)

/-- EPOCH_ADOPT (R411, R412): the first epoch whose instant has come. -/
def fEpochAdopt (d : Dev) : Dev :=
  match d.dom.epochs.find? fun x => decide (x.2 ≤ d.now) with
  | none => d
  | some (n, at_) =>
      let d := d.onDom fun m => { m with epoch := n, ownEpoch := n, epochs := m.epochs.erase (n, at_) }
      match d.dom.ilvNext with
      | some v => d.newDelta v
      | none => d
def execEpochAdopt (t : Nat) (s : State) := run t fEpochAdopt s

/-- ILV (R412): forwarded; the member it names takes its Δ at the next domain epoch. -/
def fIlv (bs : List Block) (target group delta : Nat) (d : Dev) : Dev :=
  d.downMsg 4 bs fun d =>
    let mine := d.dom.valid && d.dom.id = target
    (d.onDom fun m => { m with ilvNext := if mine then some delta else m.ilvNext }).sendDown [.ilv target group delta]
def execIlv (t : Nat) (bs : List Block) (target group delta : Nat) (s : State) := run t (fIlv bs target group delta) s

/-! ### Snapshots and the TRIG pin (R310, R413) -/

/-- The member takes the instant as a trigger if DOMTRIG is 1 (R413). -/
def Dev.dueSnap (seq ts : Nat) (d : Dev) : Dev :=
  if d.regs.act.MEAS_SARCFG_DOMTRIG = 1 then d.onDom fun m => { m with snapDue := m.snapDue ++ [(seq, ts)] } else d

/-- The root starts a snapshot (R413). -/
def Dev.startSnap (d : Dev) : Dev :=
  if !d.pins.domRoot then d
  else
    let seq := (d.dom.snapSeq + 1) % 2 ^ 32
    let ts := d.now + atLeast1 d.regs.act.DOM_SNAPCFG_LEAD * usEu
    ((d.onDom fun m => { m with snapSeq := seq }).dueSnap seq ts).sendDown [.snap seq ts]

/-- SNAPSHOT_PERIOD (R413): every PERIOD ms, whatever other snapshots have started. -/
def fSnapshotPeriod (d : Dev) : Dev :=
  let p := d.regs.act.DOM_SNAPCFG_PERIOD
  if p ≠ 0 && d.tb.running && decide (d.dom.snapAt + p * msEu ≤ d.now) then
    d.startSnap.onDom fun m => { m with snapAt := d.now }
  else d
def execSnapshotPeriod (t : Nat) (s : State) := run t fSnapshotPeriod s

/-- SNAP (R413): forwarded; one that comes later than ts − 100 ns is ignored and counted. -/
def fSnap (bs : List Block) (seq ts : Nat) (d : Dev) : Dev :=
  d.downMsg 5 bs fun d =>
    let d := (d.count aDOM_SNAPRX).onDom fun m => { m with snapSeq := seq % 2 ^ 32 }
    let d := if ts < d.now + 5120 then (d.count aDOM_SNAPLATE).onDom fun m => { m with sticky := m.sticky ||| 0x40 }
      else d.dueSnap seq ts
    d.sendDown [.snap seq ts]
def execSnap (t : Nat) (bs : List Block) (seq ts : Nat) (s : State) := run t (fSnap bs seq ts) s

/-- DOMAIN_SNAPSHOT_TRIGGER (R310, R413, R414): the earliest snapshot due; an overrun sets the SNAP alarm. -/
def fDomainSnapshotTrigger (d : Dev) : Dev :=
  match d.dom.snapDue with
  | [] => d
  | (seq, ts) :: rest =>
    if d.now < ts then d
    else
      let busy := d.meas.seq.isSome || d.meas.closing.isSome
      let d := d.onDom fun m => { m with snapDue := rest, sticky := if busy then m.sticky ||| 0x40 else m.sticky }
      d.trigger ts (some seq)
def execDomainSnapshotTrigger (t : Nat) (s : State) := run t fDomainSnapshotTrigger s

/-- TRIG_EDGE (R310, R413): an edge of the kind set; at the root with SRC 0b01 it starts a snapshot of the domain in place of
a trigger of the bank. -/
def fTrigEdge (level : Bool) (d : Dev) : Dev :=
  if d.pins.trig = level then d
  else
    let d := { d with pins.trig := level }
    let kind := d.regs.act.MEAS_SARCFG_EDGE
    if !(kind = 2 || kind = (if level then 0 else 1)) then d
    else if d.pins.domRoot && d.regs.act.DOM_SNAPCFG_SRC = 1 then d.when d.tb.running Dev.startSnap
    else d.trigger d.now none
def execTrigEdge (t : Nat) (level : Bool) (s : State) := run t (fTrigEdge level) s

/-! ### Alarms (R414) -/

/-- ALARM_SEND (R414): on a change, and every 100 µs. -/
def fAlarmSend (d : Dev) : Dev :=
  let a := d.subAlarm
  if d.pins.domRoot || !(d.dom.alarmSent ≠ some a || decide (d.dom.alarmAt + 100 * usEu ≤ d.now)) then d
  else (d.onDom fun m => { m with alarmSent := some a, alarmAt := d.now }).sendUp (.alarm a.1 a.2.1 a.2.2)
def execAlarmSend (t : Nat) (s : State) := run t fAlarmSend s

/-- ALARM (R414): a child's alarm enters the subtree's; one whose address word is unknown is kept all the same (R6). -/
def fAlarm (port : LinkPort) (bs : List Block) (word count addr : Nat) (d : Dev) : Dev :=
  match port with
  | .ddn0 => d.domMsg (d.dom.child port) 6 bs fun d => (d.wake 5).onDom fun m => { m with child0 := (word, count, addr) }
  | .ddn1 => d.domMsg (d.dom.child port) 6 bs fun d => (d.wake 5).onDom fun m => { m with child1 := (word, count, addr) }
  | _ => d
def execAlarm (t : Nat) (port : LinkPort) (bs : List Block) (word count addr : Nat) (s : State) :=
  run t (fAlarm port bs word count addr) s

/-- DOM_CTRL.ALMCLR (R414). -/
def Dev.clearAlarms (d : Dev) : Dev := d.onDom fun m => { m with sticky := 0 }

end Sys2Proof.Machine
end

