-- ==== Sys2Proof/Machine/KeyArea.lean ====
section
/-! DEFINITION. The field lock and the password in the key area (14_management_and_access.md, R437, R438; 11_the_loft.md,
R345), and group commits (R435). -/

namespace Sys2Proof.Machine

/-- The key area's payload with its integrity code (R345). -/
def Dev.keyBytes (d : Dev) : List Byte :=
  let k := d.acc.key
  let b := leBytes 4 k.lock.toNat ++ leBytes 4 k.gen ++ k.salt ++ k.hash ++ leBytes 8 k.serial ++ List.replicate 64 0
  b ++ hmac d.deviceKey b

/-- A change of the key area: its generation advances, and it is written as a two-copy record (R437). The command that asks for it,
and the register address concerned, are kept for the refusal of a write that fails (R424). -/
def Dev.changeKey (f : KeyArea → KeyArea) (d : Dev) : Dev :=
  let by_ := (d.mgmt.cmd, if d.mgmt.cmd = 0xD7 then 0 else aACC_CTRL)
  let d := d.onAcc fun x =>
    { x with key := { f x.key with gen := (x.key.gen + 1) % 2 ^ 32 }, keyBy := x.keyBy ++ [by_] }
  d.writeRec2 4 .keyArea d.keyBytes

/-- ACC_CTRL.LOCK (R437): FIELD_LOCK is set, and the session closes at once. -/
def Dev.setLock (d : Dev) : Dev :=
  let d := if d.acc.key.lock then d
    else (d.changeKey fun k => { k with lock := true }).raiseDev 0x5005 (leBytes 4 d.acc.session)
  d.closeSession 4

/-- ACC_CTRL.UNLOCK (R437). -/
def Dev.clearLock (d : Dev) : Dev :=
  if !d.acc.key.lock then d
  else (d.changeKey fun k => { k with lock := false }).raiseDev 0x5006 (leBytes 4 d.acc.session)

/-- Sixteen bytes of the random source: draw `i`. -/
def randomBytes (i : Nat) : List Byte := (List.range 16).map (Config.randomByte i)

/-- The hash of a password under a salt (R438). -/
def passwordHash (salt pw : List Byte) : List Byte := sha256 (salt ++ pw)

/-- A new password (R438): a fresh salt, its hash, and the key area written. -/
def Dev.setPassword (pw : List Byte) (d : Dev) : Dev :=
  let salt := randomBytes d.acc.draws
  let d := d.onAcc fun x => { x with draws := x.draws + 1 }
  let d := d.changeKey fun k => { k with salt := salt, hash := passwordHash salt pw, pwSet := true }
  d.raiseDev 0x5007 (leBytes 4 d.acc.session ++ leBytes 4 d.acc.key.gen)

/-! ### Group commits (R119, R174, R435) -/

/-- A commit of the interleave group of yard `n`: checked, then a pending layout change (R119, R142, R412). -/
def Dev.commitIlv (n : Nat) (d : Dev) : Dev :=
  let ws := d.ilvWords n
  let code := d.ilvCheck (withDelta (d.regs.act.over ws) n d.dom.delta (d.yard n).dstep) n (d.ilvStalls n)
  let d := d.onYard n fun y => { y with code := code }
  if code ≠ 0 then d
  else ((d.onYard n fun y => { y with commit := some ws }).pendChange n .commit 0).afterChange n

/-- SYS_GCSTAT (R435). -/
def Dev.noteCommit (code g n : Nat) (d : Dev) : Dev := d.setStat aSYS_GCSTAT (pk [(0, 8, code), (8, 8, g), (16, 3, n)])

/-- A group is one of the table of R435. -/
def groupKnown (g : Nat) : Bool := g ≤ 9 || g = 0x10

/-- GROUP_COMMIT of group `g` of rail or yard `n` (R435). -/
def Dev.groupCommit (g n : Nat) (d : Dev) : Dev :=
  if !groupKnown g || d.regs.act.YARD_CFG_EN n = 0 then d.noteCommit 0x30 g n
  else if g = 0x10 then
    if (d.yard n).commit.isSome then d.noteCommit 0x33 g n
    else
      let d := d.commitIlv n
      d.noteCommit (d.yard n).code g n
  else
    let d := d.commitEng n g
    d.noteCommit (d.law n).code g n

end Sys2Proof.Machine
end

