-- ==== Sys2Proof/Machine/RegAccess.lean ====
section
/-! DEFINITION. How a host reads a register (14_management_and_access.md, R421–R424, R433; 10_measurement.md, R315, R318, R324,
R327): whether the device answers, the level a read needs, the latches of wide values, and the reads that act. -/

namespace Sys2Proof.Machine

/-! ### Whether the device serves a transaction (R34, R423) -/

/-- The device answers on the bus: its supplies are up, it is out of RESET#, and step 1 has ended (R34). -/
def Dev.hears (d : Dev) : Bool := d.pins.supplies && !d.pins.resetLow && !(d.sys.state = .start && d.sys.step = 1)

/-- START in steps 1–5. -/
def Dev.early (d : Dev) : Bool := d.sys.state = .start && d.sys.step ≤ 5

/-- Only open-level reads are served (R423). -/
def Dev.readsOnly (d : Dev) : Bool := d.early || d.sys.state = .halt

/-- The kinds of write that R423 tells apart; `latch` is a write of EVT_LWSEL, which the reads of the last-words latches need (R377). -/
inductive WriteKind where
  | page | latch | session | start | install | other
deriving DecidableEq, Repr

/-- A write is refused for the device's state (R423). -/
def Dev.bars (d : Dev) (k : WriteKind) : Bool :=
  if d.early then k ≠ .page && k ≠ .latch
  else match d.sys.state with
    | .halt => k ≠ .latch
    | .standby => k = .page || k = .other
    | _ => false

/-! ### Reading (R8, R318, R324, R327, R433) -/

/-- The level that a read needs (R358, R381). -/
def readLevel (a : Nat) : Nat :=
  if a = aLOFT_RADDR || a = aLOFT_RDATA || a = aEVT_RPOSL || a = aEVT_RPOSH || a = aEVT_RSTAT ||
      (aEVT_RDATA0 ≤ a && a ≤ aEVT_RDATA 14) then 1 else 0

/-- ACC_PERM.PERF does not allow the reader (R327). -/
def Dev.perfClosed (d : Dev) : Bool := d.acc.level = 0 && d.regs.act.ACC_PERM_PERF = 0

/-- What R327 closes: counters, the overflow map, and the label and instant of the snapshot. -/
def perfGated (r : RegDesc) (a : Nat) : Bool :=
  r.kind = .counter || aPERF_OVF 0 ≤ a || a = aPERF_SNAPTL || a = aPERF_SNAPTH || a = aPERF_SNAPSEQ

/-- For the low word of a wide value: the address of its upper word, and the upper word now (R318). EVT_RPOSL and EVT_RPOSH are not
among them: both words are RW, and a read gives the value they hold, with no latch, though R381 names one 48-bit position (DESIGN
CHOICE: log entry 72). -/
def Dev.upper (d : Dev) (a : Nat) : Option (Nat × Word) :=
  let top (v : Nat) : Word := BitVec.ofNat 32 (v / 2 ^ 32)
  let p := d.meas.pub
  if a = aTB_NOWL then some (aTB_NOWH, top d.now)
  else if aLCP_LASTL 0 ≤ a && a ≤ aLCP_LASTL 3 && (a - aLCP_LASTL 0) % 64 = 0 then
    some (a + 4, top (d.port ((a - aLCP_LASTL 0) / 64)).last)
  else if a = aXNT_RETTOTL then some (aXNT_RETTOTH, top d.ret.tot)
  else if a = aMEAS_TTIMEL then some (aMEAS_TTIMEH, top d.meas.te)
  else if a = aMEAS_EINL then some (aMEAS_EINH, top (d.hsw.ein / 1000))
  else if a = aMEAS_EREVL then some (aMEAS_EREVH, top (d.hsw.erev / 1000))
  else if a = aMEAS_ELIFEL then some (aMEAS_ELIFEH, top d.hsw.life)
  else if a = aMEAS_WSTARTL then some (aMEAS_WSTARTH, top p.win.start)
  else if a = aMEAS_WENDL then some (aMEAS_WENDH, top p.te)
  else if a = aMEAS_WEINL then some (aMEAS_WEINH, top p.win.ein)
  else if a = aMEAS_WEREVL then some (aMEAS_WEREVH, top p.win.erev)
  else if aMEAS_WEOUTL 0 ≤ a && a ≤ aMEAS_WEOUTL 7 && (a - aMEAS_WEOUTL 0) % 8 = 0 then
    some (a + 4, BitVec.ofInt 32 (p.win.eout.getD ((a - aMEAS_WEOUTL 0) / 8) 0 / 2 ^ 32))
  else if a = aLOFT_OPTL then some (aLOFT_OPTH, BitVec.ofNat 32 (d.opTime / 2 ^ 32 % 2 ^ 16))
  else if a = aEVT_HEADL then some (aEVT_HEADH, BitVec.ofNat 32 (d.evt.head / 2 ^ 32 % 2 ^ 16))
  else if a = aPAIR_TAKETL then some (aPAIR_TAKETH, d.stat aPAIR_TAKETH)
  else if a = aPERF_SNAPTL then some (aPERF_SNAPTH, top d.meas.snapTime)
  else none

/-- An upper word enters its latch and is fresh (R318). -/
def Dev.latchUpper (h : Nat) (v : Word) (d : Dev) : Dev :=
  { d with regs := { d.regs with latch := d.regs.latch.wr h v, fresh := h :: d.regs.fresh.erase h } }

/-- The low word of a wide value is read: its upper word, if it has one, enters its latch (R318). -/
def Dev.latchOf (u : Option (Nat × Word)) (d : Dev) : Dev :=
  match u with
  | some (h, v) => d.latchUpper h v
  | none => d

/-- A read of an upper word: the latch; a read that is not fresh sets STALE_HI and records the address (R318). -/
def Dev.readUpper (a : Nat) (d : Dev) : Word × Dev :=
  let v := if aEVT_RDATA 0 ≤ a && a ≤ aEVT_RDATA 14 then d.evt.rwords.getD ((a - aEVT_RDATA0) / 4) 0 else d.regs.latch.rd a
  if d.regs.fresh.contains a then (v, { d with regs.fresh := d.regs.fresh.erase a })
  else (v, d.setStat aPERF_RDSTAT (BitVec.ofNat 32 (a * 256 + 1)))

/-- Upper words become fresh (R318). -/
def Dev.freshen (upper : List Nat) (d : Dev) : Dev :=
  { d with regs.fresh := upper ++ d.regs.fresh.filter fun h => !upper.contains h }

/-- A read of EVT_RDATA0: the record is latched, and its words 1–15 are fresh (R318, R372). -/
def Dev.readRecord (m : Memory) (d : Dev) : Word × Dev :=
  ((d.latchRecord m).evt.rwords.headD 0, (d.latchRecord m).freshen ((List.range 15).map aEVT_RDATA))

/-- A read of EVT_LWDATA: the word selected, and WORD advances (R381). -/
def Dev.readLatch (d : Dev) : Word × Dev :=
  let w := d.regs.act.EVT_LWSEL_WORD
  (d.latchWord.getD 0, d.setLive aEVT_LWSEL 6 3 (if 14 ≤ w then 0 else w + 1))

/-- A read of LOFT_RDATA: the word at LOFT_RADDR, which advances by 4 (R358). -/
def Dev.readLoft (m : Memory) (d : Dev) : Word × Dev :=
  let a := 4 * d.regs.act.LOFT_RADDR_ADDR
  let v := if d.loft.portOk then d.loft.hostWord m a else Config.portDownWord a
  let d := if d.loft.portOk then d.noteFails ((d.loft.landed m).2.failsIn a 4).length a 4 else { d with loft.reqAddr := a }
  (v, d.setLive aLOFT_RADDR 25 2 (d.regs.act.LOFT_RADDR_ADDR + 1))

/-- The oldest entry of converter `k`'s queue is taken (R315). -/
def Dev.popQueue (k : Nat) (d : Dev) : Dev := { d with meas.queues := modAt d.meas.queues k List.tail }

/-- A register that is no counter and no upper word is read; the queues, the windows and the latches act (R241, R315, R318,
R358, R372, R381). -/
def Dev.readPlain (m : Memory) (a : Nat) (d : Dev) : Word × Dev :=
  if a = aPROT_CAPL then d.readCapl
  else if aMEAS_Q 0 ≤ a && a ≤ aMEAS_Q 3 && (a - aMEAS_Q 0) % 8 = 0 then
    (d.reg a, d.popQueue ((a - aMEAS_Q 0) / 8))
  else if a = aEVT_RDATA0 then d.readRecord m
  else if a = aEVT_LWDATA then d.readLatch
  else if a = aLOFT_RDATA then d.readLoft m
  else (d.reg a, d.latchOf (d.upper a))

/-- A read of the register at `a`: a refusal code, 0 for none, the word, and the device after it. -/
def Dev.readReg (m : Memory) (a : Nat) (d : Dev) : Nat × Word × Dev :=
  match findDesc a with
  | none => (8, 0, d)
  | some r =>
    if d.acc.level < readLevel a then (if d.readsOnly then 6 else 4, 0, d)
    else if d.readsOnly && readLevel a ≠ 0 then (6, 0, d)
    else if d.perfClosed && perfGated r a then (0, 0, d)
    else match r.kind with
      | .counter => (0, d.regs.snap.rd a, d)
      | .wideHigh => (0, d.readUpper a)
      | .plain => (0, d.readPlain m a)

/-- A transaction is addressed to the device: the session is not idle (R441), ACC_AUTHSTAT.IDLE counts from the one before (R450), and
a new answer begins. -/
def Dev.addressed (d : Dev) : Dev := { d with acc.prevTxn := d.acc.lastTxn, acc.lastTxn := d.now, mgmt.answer := [], mgmt.pec := none, mgmt.acked := true }

/-- A transaction that nothing answers. -/
def Dev.unheard (d : Dev) : Dev := { d with mgmt.answer := [], mgmt.pec := none, mgmt.acked := false }

/-- The device sends bytes. -/
def Dev.answers (bs : List Byte) (d : Dev) : Dev := { d with mgmt.answer := bs }

/-- A host reads the register at `a` by command `cmd`; its word is added to the answer. -/
def Dev.serveRead (m : Memory) (cmd a : Nat) (d : Dev) : Dev :=
  let r := d.readReg m a
  let d := if r.1 = 0 then r.2.2 else r.2.2.refuse r.1 cmd a
  d.answers (d.mgmt.answer ++ leBytes 4 r.2.1.toNat)

/-- A host reads one register. -/
def Dev.hostRead (a : Nat) (m : Memory) (d : Dev) : Dev := if d.hears then d.addressed.serveRead m 0xD3 a else d.unheard

end Sys2Proof.Machine
end

