-- ==== Sys2Proof/Machine/RegWrite.lean ====
section
/-! DEFINITION. How a host writes a register (14_management_and_access.md, R423, R424, R427, R433–R437, R473): the level it needs,
what it is refused for, where each field lands, and what the write sets off. -/

namespace Sys2Proof.Machine

/-! ### Levels and refusals -/

/-- Some bit of a mask is written 1. -/
def sets (v : Word) (mask : Nat) : Bool := v &&& BitVec.ofNat 32 mask ≠ 0

/-- The level of what a write sets off (R473), and of a write to a register for which its chapter names a level whatever is
written (R340, R358, R381). -/
def actionLevel (a : Nat) (v : Word) : Nat :=
  if a = aSYS_CTRL then (sets v 0x1).toNat
  else if a = aSYS_GCOMMIT then 1
  else if a = aHSW_CTRL then if sets v 0x2 then 2 else (sets v 0x1).toNat
  else if a = aMEAS_SARCTRL then (sets v 0x1F).toNat
  else if a = aPERF_CTRL then (sets v 0xF).toNat
  else if a = aDOM_CTRL then (sets v 0x7).toNat
  else if a = aACC_CTRL then 2 * (sets v 0x6).toNat
  else if a = aACC_INSTCTL then 2 * (sets v 0x1F).toNat
  else if a = aLOFT_WCTL then 2 * (sets v 0x3).toNat
  else if a = aEVT_CTRL then 2 * (sets v 0x1).toNat
  else if a = aLOFT_WDATA || a = aACC_INSTDATA || a = aLOFT_PROT || a = aLOFT_WADDR then 2
  else readLevel a

/-- The RW bits whose written value differs from what reads back (R433). -/
def Dev.changes (d : Dev) (r : RegDesc) (a : Nat) (v : Word) : Nat := ((d.reg a ^^^ v) &&& BitVec.ofNat 32 r.rw).toNat

/-- The level of the fields that a write changes, and of the W1C bits it writes 1 (R433); EVT_LWSEL and EVT_STATUS are open (R377,
R381). -/
def Dev.fieldLevel (d : Dev) (r : RegDesc) (a : Nat) (v : Word) : Nat :=
  let c := d.changes r a v
  if a = aEVT_LWSEL || a = aEVT_STATUS then 0
  else if c &&& r.start ≠ 0 || (a = aACC_PERM && c ≠ 0) then 2 else (decide (c ≠ 0) || sets v r.w1c).toNat

/-- The kind of a register write in STANDBY (R423). -/
def Dev.writeKind (d : Dev) (r : RegDesc) (a : Nat) (v : Word) : WriteKind :=
  if a = aACC_INSTCTL || a = aACC_INSTDATA then .install
  else if a = aEVT_LWSEL then .latch
  else if a = aACC_CTRL && !sets v 0x6 then .session
  else if r.start ≠ 0 && d.changes r a v &&& r.start = d.changes r a v && !sets v r.w1c then .start
  else .other

/-- A value or a state that a register's own rule refuses; 0 for none (R427, R437, R443, R449). -/
def Dev.valueRefusal (d : Dev) (a : Nat) (v : Word) : Nat :=
  if aSYS_RAILEN 0 ≤ a && a ≤ aSYS_RAILEN 7 then
    if !sets v 0x2 || !([0x80, 0x40, 0x00].contains (fld v 15 8)) then 2 else 0
  else if a = aSYS_CTRL then if sets v 0x1 && d.sys.state ≠ .run then 6 else 0
  else if a = aACC_CTRL then
    if sets v 0x2 && !d.acc.key.pwSet then 2 else if sets v 0x6 && 1 ≤ d.loft.bp then 9 else 0
  else if a = aACC_INSTCTL then if sets v 0x1 && d.beginRefusal = 9 then 9 else 0
  else 0

/-- Writes to PERF_CTRL are refused while ACC_PERM.PERF does not allow the writer (R327). -/
def Dev.perfBarred (d : Dev) (a : Nat) : Bool := a = aPERF_CTRL && d.perfClosed

/-- The refusal of a register write, 0 for none (R423, R424, R433, R473). -/
def Dev.writeRefusal (d : Dev) (a : Nat) (v : Word) : Nat :=
  match findDesc a with
  | none => 8
  | some r =>
    if d.bars (d.writeKind r a v) then 6
    else if d.acc.level < max (actionLevel a v) (d.fieldLevel r a v) || d.perfBarred a then 4
    else d.valueRefusal a v

/-- What a refused write still shows: SYS_GCSTAT of a group commit, EVT_CLRSTAT of a clear (R374, R435). -/
def Dev.noteRefused (k a : Nat) (v : Word) (d : Dev) : Dev :=
  if a = aSYS_GCOMMIT then d.noteCommit (if k = 6 then 0x32 else 0x31) (fld v 7 0) (fld v 10 8)
  else if a = aEVT_CTRL && sets v 0x1 && k = 4 then d.onEvt fun r => { r with clearCode := 1 }
  else d

/-! ### Landing (R434) -/

/-- A host's word lands, is told to the standby, and raises PENDING_START when a start-class shadow first differs (R397, R434,
R447). -/
def Dev.landHost (r : RegDesc) (a : Nat) (v : Word) (d : Dev) : Dev :=
  let was := d.sys.pendingStart
  let d := d.land r a v
  let d := if !was && d.sys.pendingStart then d.raiseDev 0x4105 (leBytes 3 a ++ [0] ++ leBytes 4 d.acc.session) else d
  d.delta (.cfg a v)

/-- The bits [hi:lo] of a register's RW fields, written by a command of its own; the other fields keep what reads back. -/
def Dev.writeBits (a hi lo v : Nat) (d : Dev) : Dev :=
  match findDesc a with
  | some r => d.landHost r a (setFld (d.regs.hold.rd a) hi lo v)
  | none => d

/-- OPERATION 0x00 governs rail `n`: it stops by coasting (R427). -/
def Dev.immediateOff (d : Dev) (n : Nat) : Bool :=
  let o := d.regs.act.SYS_RAILEN_ONOFF n
  o.testBit 4 && o.testBit 3 && d.regs.act.SYS_RAILEN_OPER n = 0

/-- Rails that `old` did not enable start by their slots, and rails that it enabled stop (R54, R59, R68, R427). -/
def Dev.afterEnables (old d : Dev) : Dev :=
  let on := (List.range 8).filter fun n => d.enabled n && !old.enabled n
  let off := (List.range 8).filter fun n => old.enabled n && !d.enabled n
  let rest := off.filter fun n => (d.rail n).state ≠ .ramp && (d.rail n).state ≠ .reg
  let d := d.when (!on.isEmpty) (Dev.wake 2)
  if d.isStandby || (on.isEmpty && off.isEmpty) then d
  else
    let d := d.stopMany off 1 d.immediateOff
    let d := d.each rest fun n d => d.disableRail n false
    d.startMany on

/-- The NLIM classes of yard `n` that `old` held otherwise go to its stages (R226). -/
def Dev.afterNlim (n : Nat) (old d : Dev) : Dev :=
  let a := old.regs.act.rd (aXNT_NLIMA n) ^^^ d.regs.act.rd (aXNT_NLIMA n)
  let b := old.regs.act.rd (aXNT_NLIMB n) ^^^ d.regs.act.rd (aXNT_NLIMB n)
  let ps := ((List.range 4).filter fun k => fld a (8 * k + 7) (8 * k) ≠ 0).map (· + 3) ++
    ((List.range 3).filter fun k => fld b (8 * k + 7) (8 * k) ≠ 0).map (· + 7)
  d.each ps (Dev.writeParamYard n)

/-- The trims of a yard whose BAL_EN is 0 are 0 (R125). -/
def Dev.afterBalance (n : Nat) (d : Dev) : Dev :=
  if d.regs.act.YARD_BALCFG_BAL_EN n = 1 then d else d.each (d.bound n) fun s d => d.onStall s fun x => { x with trim := 0 }

/-- Carry out `f` on `n` when `a` is element `n` of an array of registers. -/
def Dev.ofArray (base stride a : Nat) (f : Nat → Dev → Dev) (d : Dev) : Dev :=
  if base ≤ a && a < base + 8 * stride && (a - base) % stride = 0 then f ((a - base) / stride) d else d

/-- What follows a field that has landed: parameters of the stages, the stop level, checks, yards at rest, and enables
(R125, R128, R145, R226, R229, R249, R293, R427). -/
def Dev.afterLand (old : Dev) (a : Nat) (d : Dev) : Dev :=
  let d := d.ofArray (aYARD_BALCFG 0) 0x100 a Dev.afterBalance
  let d := d.ofArray (aYARD_SHEDCFG 0) 0x100 a Dev.checkShedCfg
  let d := d.ofArray (aYARD_CAP 0) 0x100 a fun n d => if (d.rail n).state.still then d.takeEpochFields n else d
  let d := d.ofArray (aXNT_NLIMA 0) 0x80 a fun n d => old.afterNlim n d
  let d := d.ofArray (aXNT_NLIMB 0) 0x80 a fun n d => old.afterNlim n d
  let d := d.ofArray (aPROT_OC 0) 0x40 a fun n d =>
    if old.regs.act.PROT_OC_ILIM n = d.regs.act.PROT_OC_ILIM n then d else d.writeParamYard n 2
  let d := d.ofArray (aPROT_OT 0) 0x40 a fun n d =>
    let d := if old.regs.act.PROT_OT_WARN n = d.regs.act.PROT_OT_WARN n then d else d.writeParamYard n 0xA
    if old.regs.act.PROT_OT_STAGE n = d.regs.act.PROT_OT_STAGE n then d else d.writeParamYard n 0xB
  let d := d.ofArray (aSYS_RAILEN 0) 4 a fun _ d => old.afterEnables d
  if a = aHSW_BLEED then d.setStop
  else if a = aXNT_RETCFG && d.regs.act.XNT_RETCFG_EN = 0 then { d with ret.ceil := false }
  else d

/-! ### What a write sets off (R473) -/

/-- PERF_CTRL: SNAP first, then CLRALL, CLROVF and WRITE (R326). -/
def Dev.perfControl (v : Word) (d : Dev) : Dev :=
  let d := d.when (sets v 0x1) fun d => d.snapshot d.now ((d.meas.snapSeq + 1) % 2 ^ 32)
  let d := d.when (sets v 0x2) fun d => { d with regs.cnt := [] }
  let d := d.when (sets v 0x4) fun d => { d with regs.ovf := [] }
  d.when (sets v 0x8) fun d =>
    let a := d.regs.act.PERF_WADDR_ADDR / 4 * 4
    if (findDesc a).any (fun r => r.kind = .counter) then
      { d with regs.cnt := d.regs.cnt.wr a (BitVec.ofNat 32 d.regs.act.PERF_WDATA_DATA) }
    else d

/-- MEAS_SARCTRL: TRIG with SWTRIG at 1, and CLRQ (R310, R315). -/
def Dev.sarControl (v : Word) (d : Dev) : Dev :=
  let d := d.when (sets v 0x1 && d.regs.act.MEAS_SARCFG_SWTRIG = 1) fun d => d.trigger d.now none
  { d with meas.queues := d.meas.queues.zipIdx.map fun q => if sets v (2 ^ (q.2 + 1)) then [] else q.1 }

/-- DOM_CTRL (R411, R413, R414); only the root starts a snapshot or advances the epoch. -/
def Dev.domControl (v : Word) (d : Dev) : Dev :=
  let d := d.when (sets v 0x1) Dev.startSnap
  let d := d.when (sets v 0x2 && d.pins.domRoot) Dev.advanceEpoch
  d.when (sets v 0x4) Dev.clearAlarms

/-- ACC_CTRL (R437, R441). -/
def Dev.accControl (v : Word) (d : Dev) : Dev :=
  let d := d.when (sets v 0x4) Dev.clearLock
  let d := d.when (sets v 0x2) Dev.setLock
  d.when (sets v 0x1) (Dev.endSession 1)

/-- BEGIN: one while an install is in progress leaves its code and no more (R443, R444). -/
def Dev.instBegin (dual : Bool) (d : Dev) : Dev :=
  if d.beginRefusal = 1 then d.onInst fun i => { i with code := 9, certWords := [] } else d.beginInstall dual

/-- ACC_INSTCTL: BEGIN, COMMIT, ABORT, CERT; each starts the count of a certificate's words anew (R443–R446). -/
def Dev.instControl (v : Word) (d : Dev) : Dev :=
  let d := d.when (sets v 0x1) (Dev.instBegin (sets v 0x8))
  let d := d.when (sets v 0x2) fun d => d.commitInstall.onInst fun i => { i with certWords := [] }
  let d := d.when (sets v 0x4) fun d => d.abortInstall.onInst fun i => { i with certWords := [] }
  d.when (sets v 0x10) Dev.installCert

/-- The actions of a write to a register with WO fields (R473). -/
def Dev.actOn (a : Nat) (v : Word) (d : Dev) : Dev :=
  if a = aSYS_CTRL then d.when (sets v 0x1) Dev.warmCommand
  else if a = aSYS_GCOMMIT then d.groupCommit (fld v 7 0) (fld v 10 8)
  else if a = aHSW_CTRL then (d.when (sets v 0x1) Dev.clearLatch).when (sets v 0x2) Dev.commandBleed
  else if a = aMEAS_SARCTRL then d.sarControl v
  else if a = aPERF_CTRL then d.perfControl v
  else if a = aDOM_CTRL then d.domControl v
  else if a = aEVT_CTRL then d.when (sets v 0x1) Dev.startClear
  else if a = aLOFT_WDATA then d.hostPush v
  else if a = aLOFT_WCTL then (d.when (sets v 0x1) Dev.hostGo).when (sets v 0x2) Dev.hostDiscard
  else if a = aACC_CTRL then d.accControl v
  else if a = aACC_INSTCTL then d.instControl v
  else if a = aACC_INSTDATA then d.streamWord v
  else d

/-- An accepted write (R340, R434, R473). Whatever the class of its fields, it is told to the standby (R397). -/
def Dev.writeAccepted (a : Nat) (v : Word) (d : Dev) : Dev :=
  match findDesc a with
  | none => d
  | some r =>
    if a = aLOFT_PROT then (d.writeProt (fld v 1 0)).delta (.cfg a v)
    else
      let e := if r.rw = 0 && r.w1c = 0 then d.delta (.cfg a v) else d.afterLand a (d.landHost r a v)
      e.actOn a v

/-- A host writes `v` to the register at `a` by command `cmd`. -/
def Dev.serveWrite (cmd a : Nat) (v : Word) (d : Dev) : Dev :=
  let k := d.writeRefusal a v
  if k = 0 then d.writeAccepted a v else (d.refuse k cmd a).noteRefused k a v

/-- A host writes one register. -/
def Dev.hostWrite (a : Nat) (v : Word) (d : Dev) : Dev :=
  if d.hears then ({ d.addressed with mgmt.cmd := 0xD2 } : Dev).serveWrite 0xD2 a v else d.unheard

/-- An accepted write of GO would begin a step that runs past the last byte of the array (R333, R358). -/
def Dev.runsPast (a : Nat) (v : Word) (d : Dev) : Bool :=
  d.hears && a = aLOFT_WCTL && sets v 0x1 && d.writeRefusal a v = 0 && d.hostStarts && !d.hostFits

/-- Carry out a command that may write a register: one whose host step would leave the array has no effect in the spec. -/
def runWrite (t a : Nat) (v : Word) (f : Dev → Dev) (s : State) : Host.Outcome State Fault Refusal :=
  if (s.dev.toInstant t).runsPast a v then .fault .loftBeyondArray else run t f s

end Sys2Proof.Machine
end

