-- ==== Sys2Proof/Machine/RegRows.lean ====
section
/-! DEFINITION. The rows that read or write one register of their own, and REGISTER_WRITE (R434): each is a host access to that
register, served, refused and carried out as every register access is. -/

namespace Sys2Proof.Machine

/-! ### Reads that act -/

/-- PROT_CAPL_READ (R241). -/
def fProtCaplRead (m : Memory) (d : Dev) : Dev := d.hostRead aPROT_CAPL m
def execProtCaplRead (t : Nat) (s : State) := runRead t fProtCaplRead s

/-- MEAS_QUEUE_READ (R315). -/
def fMeasQueueRead (k : Nat) (m : Memory) (d : Dev) : Dev := if k < 4 then d.hostRead (aMEAS_Q k) m else d
def execMeasQueueRead (t k : Nat) (s : State) := runRead t (fMeasQueueRead k) s

/-- SPLIT_READ_LOW (R318): `addr` is the low word of a wide value. -/
def fSplitReadLow (addr : Nat) (m : Memory) (d : Dev) : Dev := if (d.upper addr).isSome then d.hostRead addr m else d
def execSplitReadLow (t addr : Nat) (s : State) := runRead t (fSplitReadLow addr) s

/-- The register at `a` is an upper word (R318). -/
def isUpper (a : Nat) : Bool := (findDesc a).any fun r => r.kind = .wideHigh

/-- SPLIT_READ_HIGH (R318): `addr` is an upper word. -/
def fSplitReadHigh (addr : Nat) (m : Memory) (d : Dev) : Dev := if isUpper addr then d.hostRead addr m else d
def execSplitReadHigh (t addr : Nat) (s : State) := runRead t (fSplitReadHigh addr) s

/-- EVT_RDATA0_READ (R372). -/
def fEvtRdata0Read (m : Memory) (d : Dev) : Dev := d.hostRead aEVT_RDATA0 m
def execEvtRdata0Read (t : Nat) (s : State) := runRead t fEvtRdata0Read s

/-- EVT_LWDATA_READ (R381). -/
def fEvtLwdataRead (m : Memory) (d : Dev) : Dev := d.hostRead aEVT_LWDATA m
def execEvtLwdataRead (t : Nat) (s : State) := runRead t fEvtLwdataRead s

/-- LOFT_RDATA_READ (R358). -/
def fLoftRdataRead (m : Memory) (d : Dev) : Dev := d.hostRead aLOFT_RDATA m
def execLoftRdataRead (t : Nat) (s : State) := runRead t fLoftRdataRead s

/-! ### Writes that act -/

/-- HSW_CTRL_CLEAR (R287). -/
def execHswCtrlClear (t : Nat) (s : State) := run t (Dev.hostWrite aHSW_CTRL 0x1) s

/-- HSW_CTRL_BLEED (R279, R294). -/
def execHswCtrlBleed (t : Nat) (s : State) := run t (Dev.hostWrite aHSW_CTRL 0x2) s

/-- MEAS_SARCTRL_TRIG (R310). -/
def execMeasSarctrlTrig (t : Nat) (s : State) := run t (Dev.hostWrite aMEAS_SARCTRL 0x1) s

/-- MEAS_SARCTRL_CLRQ (R315): bit k of `mask` empties queue k. -/
def execMeasSarctrlClrq (t mask : Nat) (s : State) := run t (Dev.hostWrite aMEAS_SARCTRL (BitVec.ofNat 32 (mask % 16 * 2))) s

/-- PERF_CTRL_SNAP (R325). -/
def execPerfCtrlSnap (t : Nat) (s : State) := run t (Dev.hostWrite aPERF_CTRL 0x1) s

/-- PERF_CTRL_CLRALL (R326). -/
def execPerfCtrlClrall (t : Nat) (s : State) := run t (Dev.hostWrite aPERF_CTRL 0x2) s

/-- PERF_CTRL_CLROVF (R326). -/
def execPerfCtrlClrovf (t : Nat) (s : State) := run t (Dev.hostWrite aPERF_CTRL 0x4) s

/-- PERF_CTRL_WRITE (R326). -/
def execPerfCtrlWrite (t : Nat) (s : State) := run t (Dev.hostWrite aPERF_CTRL 0x8) s

/-- EVT_CTRL_CLEAR (R373). -/
def execEvtCtrlClear (t : Nat) (s : State) := run t (Dev.hostWrite aEVT_CTRL 0x1) s

/-- LOFT_WDATA_WRITE (R358). -/
def execLoftWdataWrite (t : Nat) (word : Word) (s : State) := run t (Dev.hostWrite aLOFT_WDATA word) s

/-- LOFT_WCTL_GO (R358). -/
def execLoftWctlGo (t : Nat) (s : State) := runWrite t aLOFT_WCTL 0x1 (Dev.hostWrite aLOFT_WCTL 0x1) s

/-- LOFT_WCTL_DISCARD (R358). -/
def execLoftWctlDiscard (t : Nat) (s : State) := run t (Dev.hostWrite aLOFT_WCTL 0x2) s

/-- LOFT_PROT_WRITE (R340). -/
def execLoftProtWrite (t bp : Nat) (s : State) := run t (Dev.hostWrite aLOFT_PROT (BitVec.ofNat 32 (bp % 4))) s

/-- DOM_CTRL_SNAP (R413). -/
def execDomCtrlSnap (t : Nat) (s : State) := run t (Dev.hostWrite aDOM_CTRL 0x1) s

/-- DOM_CTRL_EPOCH (R411). -/
def execDomCtrlEpoch (t : Nat) (s : State) := run t (Dev.hostWrite aDOM_CTRL 0x2) s

/-- DOM_CTRL_ALMCLR (R414). -/
def execDomCtrlAlmclr (t : Nat) (s : State) := run t (Dev.hostWrite aDOM_CTRL 0x4) s

/-- ACC_CTRL_LOCK (R437). -/
def execAccCtrlLock (t : Nat) (s : State) := run t (Dev.hostWrite aACC_CTRL 0x2) s

/-- ACC_CTRL_UNLOCK (R437). -/
def execAccCtrlUnlock (t : Nat) (s : State) := run t (Dev.hostWrite aACC_CTRL 0x4) s

/-- INSTALL_BEGIN (R443, R445). -/
def execInstallBegin (t : Nat) (dual : Bool) (s : State) :=
  run t (Dev.hostWrite aACC_INSTCTL (if dual then 0x9 else 0x1)) s

/-- INSTALL_COMMIT (R443, R444). -/
def execInstallCommit (t : Nat) (s : State) := run t (Dev.hostWrite aACC_INSTCTL 0x2) s

/-- INSTALL_ABORT (R444). -/
def execInstallAbort (t : Nat) (s : State) := run t (Dev.hostWrite aACC_INSTCTL 0x4) s

/-- CERTIFICATE_INSTALL (R446). -/
def execCertificateInstall (t : Nat) (s : State) := run t (Dev.hostWrite aACC_INSTCTL 0x10) s

/-- REGISTER_WRITE (R434): bits [1:0] of the address are ignored (R431). -/
def execRegisterWrite (t addr : Nat) (data : Word) (s : State) :=
  runWrite t (addr % 2 ^ 24 / 4 * 4) data (Dev.hostWrite (addr % 2 ^ 24 / 4 * 4) data) s

end Sys2Proof.Machine
end

