-- ==== Sys2Proof/Machine/Smbus.lean ====
section
/-! DEFINITION. SMBus transactions (14_management_and_access.md, R421–R426, R430): PEC, cut-off transactions, refusals, the rails
that PAGE selects, the MALERT# pin and the Alert Response Address. -/

namespace Sys2Proof.Machine

/-- The device's 7-bit address: ADDR acts as 0x40 until step 3 loads the image; bit 0 is set for member B alone (R383, R421). -/
def Dev.busAddr (d : Dev) : Nat :=
  let a := if d.imageHeld && !(d.sys.state = .halt && d.sys.step ≤ 3) then d.regs.act.ACC_SMBCFG_ADDR else 0x40
  a / 2 * 2 + (if d.pins.role = 2 then 1 else 0)

/-- The commands whose answer goes out as a block, its byte count first (R425, R431). -/
def blockCodes : List Nat := [0x99, 0x9A, 0x9B, 0x9E, 0xAD, 0xAE, 0xD0, 0xD1, 0xD3, 0xD4, 0xD8]

/-- The commands whose data the host sends as a block, its byte count first (R431). -/
def blockWriteCodes : List Nat := [0xD0, 0xD1, 0xD2, 0xD3, 0xD7, 0xD9, 0xDC]

/-- Bytes as the CRC of R83 takes them, a block's byte count first. -/
def pecBytes (block : Bool) (bs : List Byte) : List Nat := (if block then [bs.length] else []) ++ bs.map BitVec.toNat

/-- The PEC byte of a write: the CRC of R83 over every byte of the transaction, the address byte, the command code and a block's count
among them (R421). PRESUMED: SMBus's own coverage, which the spec does not spell out (log entry 97). -/
def Dev.writePec (cmd : Nat) (x : Txn) (d : Dev) : Byte :=
  BitVec.ofNat 8 (crc8 ((2 * d.busAddr) :: cmd :: pecBytes (blockWriteCodes.contains cmd) x.data))

/-- The PEC byte that follows a read's answer, over both address bytes, the command code and the counts likewise (R421; log entry 97). -/
def Dev.readPec (cmd : Nat) (x : Txn) (d : Dev) : Byte :=
  let sent := if cmd = 0xD3 then pecBytes true x.data else []
  BitVec.ofNat 8 (crc8 ((2 * d.busAddr) :: cmd :: sent ++ (2 * d.busAddr + 1) :: pecBytes (blockCodes.contains cmd) d.mgmt.answer))

/-- A write's PEC byte is the one its bytes give, or lacks where none is required (R421). -/
def Dev.pecServes (cmd : Nat) (x : Txn) (d : Dev) : Bool :=
  match x.pec with
  | some b => b = d.writePec cmd x
  | none => d.regs.act.ACC_SMBCFG_PEC_REQ ≠ 1

/-- A read's answer with the PEC byte, if the host clocks one (R421). -/
def Dev.withPec (cmd : Nat) (x : Txn) (d : Dev) : Dev := if x.pec.isSome then { d with mgmt.pec := some (d.readPec cmd x) } else d

/-- One transaction of command `cmd`: `w` acts on a write, `r` on a read; a form the command does not have is invalid data. A cut
transaction does nothing, and one whose PEC fails, or lacks under PEC_REQ, is refused (R421, R422, R424). -/
def Dev.transact (cmd : Nat) (x : Txn) (w r : Option (Dev → Dev)) (d : Dev) : Dev :=
  if !d.hears then d.unheard
  else
    let d : Dev := { d.addressed with mgmt.cmd := cmd }
    let act (f : Option (Dev → Dev)) : Dev := (f.getD (Dev.refuse 2 cmd 0)) d
    if x.cut then d
    else if !x.write then (act r).withPec cmd x
    else if d.pecServes cmd x then act w
    else if x.pec.isSome then { (d.refuse 3 cmd 0).count aACC_PECERR with mgmt.acked := false }
    else d.refuse 3 cmd 0

/-- A write of `cmd` acts when its length is accepted, the device's state serves it, and the session holds its level (R423, R424,
R433). -/
def Dev.serveCmd (cmd : Nat) (lenOk : Bool) (kind : WriteKind) (level : Nat) (f : Dev → Dev) (d : Dev) : Dev :=
  if !lenOk then d.refuse 2 cmd 0
  else if d.bars kind then d.refuse 6 cmd 0
  else if d.acc.level < level then d.refuse 4 cmd 0
  else f d

/-- A number of `n` bytes is sent. -/
def Dev.sends (n v : Nat) (d : Dev) : Dev := d.answers (leBytes n v)

/-- A command that is read only, of the device. -/
def Dev.readOnly (cmd : Nat) (x : Txn) (bytes : Dev → List Byte) (d : Dev) : Dev :=
  d.transact cmd x none (some fun d => d.answers (bytes d))

/-- A per-rail read of `n` bytes: invalid data, and zeros, with PAGE at 0xFF or for a rail whose YARD_CFGn.EN is 0 (R322,
R426). -/
def Dev.railRead (cmd n : Nat) (v : Dev → Nat → Nat) (d : Dev) : Dev :=
  let p := d.mgmt.page
  if p = 0xFF || d.regs.act.YARD_CFG_EN p = 0 then (d.sends n 0).refuse 2 cmd 0 else d.sends n (v d p)

/-- The rails that a per-rail write acts on (R426). -/
def Dev.pageRails (d : Dev) : List Nat := if d.mgmt.page = 0xFF then d.enabledRails else [d.mgmt.page]

/-- A per-rail write: `f` gives each rail's refusal, 0 for none, and the device after it; the first refusal is reported (R426). -/
def Dev.railWrite (cmd : Nat) (f : Nat → Dev → Nat × Dev) (d : Dev) : Dev :=
  let r := d.pageRails.foldl (fun (x : Nat × Dev) n =>
    let y := f n x.2
    (if x.1 = 0 then y.1 else x.1, y.2)) (0, d)
  if r.1 = 0 then r.2 else r.2.refuse r.1 cmd 0

/-! ### MALERT# and the alert response (R430) -/

/-- A sticky status bit other than those of STATUS_CML is set. -/
def Mgmt.sticky (m : Mgmt) : Bool :=
  (m.vout ++ m.iout ++ m.temp ++ m.mfr).any (fun b => b ≠ 0) || m.input ≠ 0

/-- MALERT# is low (R34, R430). -/
def Dev.malertLow (d : Dev) : Bool :=
  d.sys.state ≠ .start &&
  (d.sys.state = .halt || d.stat aPROT_IRQ &&& d.regs.act.rd aPROT_ALERTEN ≠ 0 || d.tb.lossFault ||
   (d.stat aHSW_STATUS).toNat.testBit 18 || d.evt.unusable || d.subAlarm.1 &&& d.regs.act.DOM_ALERTEN_MASK ≠ 0 ||
   d.mgmt.sticky || (d.mgmt.cml ≠ 0 && d.regs.act.ACC_SMBCFG_CML_ALERT = 1))

/-- SMBUS_ALERT_RESPONSE (R430): the answer is the address byte; it releases nothing. -/
def fSmbusAlertResponse (d : Dev) : Dev :=
  if d.hears && d.malertLow then { d with mgmt.answer := [BitVec.ofNat 8 (2 * d.busAddr)], mgmt.pec := none, mgmt.acked := true } else d.unheard
def execSmbusAlertResponse (t : Nat) (s : State) := run t fSmbusAlertResponse s

/-- SMBUS_CLOCK_LOW_TIMEOUT (R422): the transaction is discarded and the bus released. -/
def fSmbusClockLowTimeout (d : Dev) : Dev := { d with mgmt.answer := [], mgmt.pec := none }
def execSmbusClockLowTimeout (t : Nat) (s : State) := run t fSmbusClockLowTimeout s

/-- The command codes that the device supports (R425, R431). -/
def supportedCodes : List Nat := [0x00, 0x01, 0x02, 0x03, 0x19, 0x20, 0x21, 0x24, 0x2B, 0x78, 0x79, 0x7A, 0x7B, 0x7C, 0x7D, 0x7E, 0x80,
  0x88, 0x89, 0x8B, 0x8C, 0x8D, 0x8E, 0x95, 0x96, 0x97, 0x98, 0x99, 0x9A, 0x9B, 0x9E, 0xAD, 0xAE, 0xD0, 0xD1, 0xD2, 0xD3, 0xD4, 0xD5,
  0xD6, 0xD7, 0xD8, 0xD9, 0xDA, 0xDB, 0xDC]

/-- UNSUPPORTED_COMMAND (R425, R431). -/
def fUnsupportedCommand (code : Nat) (x : Txn) (d : Dev) : Dev :=
  let c := code % 256
  if supportedCodes.contains c then d else d.transact c x (some (Dev.refuse 1 c 0)) (some (Dev.refuse 1 c 0))
def execUnsupportedCommand (t code : Nat) (x : Txn) (s : State) := run t (fUnsupportedCommand code x) s

end Sys2Proof.Machine
end

