-- ==== Sys2Proof/Machine/Pmbus.lean ====
section
/-! DEFINITION. The PMBus commands (14_management_and_access.md, R425–R429; 10_measurement.md, R320–R322). -/

namespace Sys2Proof.Machine

/-- The number that a transaction's data spell. -/
def Txn.value (x : Txn) : Nat := leNat x.data

/-! ### PAGE, OPERATION, ON_OFF_CONFIG (R426, R427) -/

/-- PAGE (R426). -/
def fPage (x : Txn) (d : Dev) : Dev :=
  let v := Txn.value x
  d.transact 0x00 x
    (some (Dev.serveCmd 0x00 (x.data.length = 1) .page 0 fun d =>
      if v ≤ 7 || v = 0xFF then { d with mgmt.page := v } else d.refuse 2 0x00 0))
    (some fun d => d.sends 1 d.mgmt.page)
def execPage (t : Nat) (x : Txn) (s : State) := run t (fPage x) s

/-- Bits of SYS_RAILENn of the page's rails are written, and rails are enabled and disabled together (R54, R59, R427). -/
def Dev.writeEnables (hi lo v : Nat) (d : Dev) : Dev := d.afterEnables (d.each d.pageRails fun n d => d.writeBits (aSYS_RAILEN n) hi lo v)

/-- OPERATION (R427). -/
def fOperation (x : Txn) (d : Dev) : Dev :=
  let v := Txn.value x
  d.transact 0x01 x
    (some (Dev.serveCmd 0x01 (x.data.length = 1) .other 1 fun d =>
      if v = 0x80 || v = 0x40 || v = 0x00 then d.writeEnables 15 8 v else d.refuse 2 0x01 0))
    (some (Dev.railRead 0x01 1 fun d n => d.regs.act.SYS_RAILEN_OPER n))
def execOperation (t : Nat) (x : Txn) (s : State) := run t (fOperation x) s

/-- ON_OFF_CONFIG (R427): polarity reads 1, and a write of 0 to it is refused. -/
def fOnOffConfig (x : Txn) (d : Dev) : Dev :=
  let v := Txn.value x
  d.transact 0x02 x
    (some (Dev.serveCmd 0x02 (x.data.length = 1) .other 1 fun d =>
      if v.testBit 1 then d.writeEnables 4 0 v else d.refuse 2 0x02 0))
    (some (Dev.railRead 0x02 1 fun d n => fld (d.reg (aSYS_RAILEN n)) 4 0))
def execOnOffConfig (t : Nat) (x : Txn) (s : State) := run t (fOnOffConfig x) s

/-! ### Status (R429) -/

/-- A byte without the bits of a mask. -/
def without (b mask : Nat) : Nat := b - (b &&& mask)

/-- Bits of the sticky status bytes of rail `n` are cleared. -/
def Mgmt.clearRail (n vout iout temp mfr : Nat) (m : Mgmt) : Mgmt :=
  { m with vout := modAt m.vout n (without · vout), iout := modAt m.iout n (without · iout),
           temp := modAt m.temp n (without · temp), mfr := modAt m.mfr n (without · mfr) }

def Dev.clearRail (n vout iout temp mfr : Nat) (d : Dev) : Dev := { d with mgmt := d.mgmt.clearRail n vout iout temp mfr }
def Dev.clearInput (mask : Nat) (d : Dev) : Dev := { d with mgmt.input := without d.mgmt.input mask }
def Dev.clearCml (mask : Nat) (d : Dev) : Dev := { d with mgmt.cml := without d.mgmt.cml mask }

/-- CLEAR_FAULTS on the page's rail or, with PAGE at 0xFF, on every rail: sticky bits, and LATCHED rails (R254, R429). -/
def Dev.clearFaults (d : Dev) : Dev :=
  let ns := if d.mgmt.page = 0xFF then List.range 8 else [d.mgmt.page]
  let d := d.each ns fun n d => d.clearRail n 0xFF 0xFF 0xFF 0xFF
  let d := (d.clearInput 0xFF).clearCml 0xFF
  let d := d.each ns fun n d => if (d.rail n).state = .latched && !d.isStandby then d.enterOff n else d
  if d.isStandby then d else d.pump

/-- CLEAR_FAULTS (R429). -/
def fClearFaults (x : Txn) (d : Dev) : Dev :=
  d.transact 0x03 x (some (Dev.serveCmd 0x03 (x.data.length = 0) .other 1 Dev.clearFaults)) none
def execClearFaults (t : Nat) (x : Txn) (s : State) := run t (fClearFaults x) s

def Dev.stVout (d : Dev) (n : Nat) : Nat := d.mgmt.vout.getD n 0
def Dev.stIout (d : Dev) (n : Nat) : Nat := d.mgmt.iout.getD n 0
def Dev.stTemp (d : Dev) (n : Nat) : Nat := d.mgmt.temp.getD n 0
def Dev.stInput (d : Dev) : Nat := d.mgmt.input ||| (if d.inputGood then 0 else 0x08)
def Dev.stMfr (d : Dev) (n : Nat) : Nat :=
  d.mgmt.mfr.getD n 0 ||| (d.tb.holdover.toNat * 0x20 + d.evt.unusable.toNat * 0x40 + d.sys.pendingStart.toNat * 0x80)

/-- STATUS_BYTE: OFF is live; the rest summarise as PMBus 1.4 defines them (R429, log entry 24). -/
def Dev.stByte (d : Dev) (n : Nat) : Nat :=
  let v := d.stVout n
  let i := d.stIout n
  let none_ := v % 0x80 ≠ 0 || i % 0x80 ≠ 0 || without d.stInput 0x10 ≠ 0 || d.stMfr n ≠ 0
  bitsOf 8 fun k => match k with
    | 0 => none_
    | 1 => d.mgmt.cml ≠ 0
    | 2 => d.stTemp n ≠ 0
    | 3 => d.mgmt.input.testBit 4
    | 4 => i.testBit 7
    | 5 => v.testBit 7
    | 6 => (d.rail n).state ≠ .reg
    | _ => false

/-- STATUS_WORD: POWER_GOOD# is live (R429). -/
def Dev.stWord (d : Dev) (n : Nat) : Nat :=
  d.stByte n + bitsOf 16 fun k => match k with
    | 11 => !(d.rail n).pg
    | 12 => d.stMfr n ≠ 0
    | 13 => d.stInput ≠ 0
    | 14 => d.stIout n ≠ 0
    | 15 => d.stVout n ≠ 0
    | _ => false

/-- Writes of 1 to summary bits clear the sticky bits that they summarise (R429, log entry 24). -/
def Dev.clearSummary (v n : Nat) (d : Dev) : Dev :=
  let on (k mask : Nat) : Nat := if v.testBit k then mask else 0
  let d := d.clearRail n (on 5 0x80 ||| on 15 0xFF) (on 4 0x80 ||| on 14 0xFF) (on 2 0xFF) (on 12 0xFF)
  (d.clearInput (on 3 0x10 ||| on 13 0xFF)).clearCml (on 1 0xFF)

/-- A status command of `len` bytes: read with `v`; a write of 1 clears through `clr`. -/
def Dev.railStatus (cmd len : Nat) (x : Txn) (v : Dev → Nat → Nat) (clr : Nat → Nat → Dev → Dev) (d : Dev) : Dev :=
  d.transact cmd x
    (some (Dev.serveCmd cmd (x.data.length = len) .other 1 fun d => d.each d.pageRails (clr (Txn.value x))))
    (some (Dev.railRead cmd len v))

/-- STATUS_BYTE (R429). -/
def fStatusByte (x : Txn) (d : Dev) : Dev := d.railStatus 0x78 1 x Dev.stByte Dev.clearSummary
def execStatusByte (t : Nat) (x : Txn) (s : State) := run t (fStatusByte x) s

/-- STATUS_WORD (R429). -/
def fStatusWord (x : Txn) (d : Dev) : Dev := d.railStatus 0x79 2 x Dev.stWord Dev.clearSummary
def execStatusWord (t : Nat) (x : Txn) (s : State) := run t (fStatusWord x) s

/-- STATUS_VOUT (R429). -/
def fStatusVout (x : Txn) (d : Dev) : Dev := d.railStatus 0x7A 1 x Dev.stVout fun v n d => d.clearRail n v 0 0 0
def execStatusVout (t : Nat) (x : Txn) (s : State) := run t (fStatusVout x) s

/-- STATUS_IOUT (R429). -/
def fStatusIout (x : Txn) (d : Dev) : Dev := d.railStatus 0x7B 1 x Dev.stIout fun v n d => d.clearRail n 0 v 0 0
def execStatusIout (t : Nat) (x : Txn) (s : State) := run t (fStatusIout x) s

/-- STATUS_TEMPERATURE (R429). -/
def fStatusTemperature (x : Txn) (d : Dev) : Dev := d.railStatus 0x7D 1 x Dev.stTemp fun v n d => d.clearRail n 0 0 v 0
def execStatusTemperature (t : Nat) (x : Txn) (s : State) := run t (fStatusTemperature x) s

/-- STATUS_MFR_SPECIFIC (R429). -/
def fStatusMfrSpecific (x : Txn) (d : Dev) : Dev := d.railStatus 0x80 1 x Dev.stMfr fun v n d => d.clearRail n 0 0 0 v
def execStatusMfrSpecific (t : Nat) (x : Txn) (s : State) := run t (fStatusMfrSpecific x) s

/-- A device-wide status byte. -/
def Dev.devStatus (cmd : Nat) (x : Txn) (v : Dev → Nat) (clr : Nat → Dev → Dev) (d : Dev) : Dev :=
  d.transact cmd x (some (Dev.serveCmd cmd (x.data.length = 1) .other 1 (clr (Txn.value x)))) (some fun d => d.sends 1 (v d))

/-- STATUS_INPUT (R429). -/
def fStatusInput (x : Txn) (d : Dev) : Dev := d.devStatus 0x7C x Dev.stInput Dev.clearInput
def execStatusInput (t : Nat) (x : Txn) (s : State) := run t (fStatusInput x) s

/-- STATUS_CML (R424, R429). -/
def fStatusCml (x : Txn) (d : Dev) : Dev := d.devStatus 0x7E x (fun d => d.mgmt.cml) Dev.clearCml
def execStatusCml (t : Nat) (x : Txn) (s : State) := run t (fStatusCml x) s

/-! ### Destinations and limits (R428) -/

/-- The code of a ULINEAR16 word with exponent −12. -/
def codeOfWord (w : Nat) : Nat := (w * 125 + 128) / 256

/-- The word of a code. -/
def wordOfCode (c : Nat) : Nat := (c * 512 + 125) / 250

/-- A VOUT_COMMAND for rail `n` (R187, R189, R190, R428). -/
def Dev.voutCommand (code n : Nat) (d : Dev) : Nat × Dev :=
  if d.owner n ≠ some 4 then (5, d)
  else if !d.inRange n code then (10, { d with mgmt.vout := setByte d.mgmt.vout n 0x08 })
  else
    let cls := d.regs.act.LCP_RAILCFG_PM_SLEW n
    let d := (d.setDest n code cls 0 4 false).pump
    (0, d.delta (.cmd 4 (reqWord 1 n 0 (code * 2 ^ 17 + cls * 2 ^ 13))))

/-- VOUT_COMMAND (R428). -/
def fVoutCommand (x : Txn) (d : Dev) : Dev :=
  d.transact 0x21 x
    (some (Dev.serveCmd 0x21 (x.data.length = 2) .other 1 (Dev.railWrite 0x21 (Dev.voutCommand (codeOfWord (Txn.value x))))))
    (some (Dev.railRead 0x21 2 fun d n => wordOfCode (d.rail n).dest))
def execVoutCommand (t : Nat) (x : Txn) (s : State) := run t (fVoutCommand x) s

/-- A limit of the page's rails is written; a code wider than its field is invalid data (R428). -/
def Dev.writeLimit (cmd hi lo code : Nat) (d : Dev) : Dev :=
  if 4095 < code then d.refuse 2 cmd 0 else d.each d.pageRails fun n d => d.writeBits (aLCP_LIM n) hi lo code

/-- VOUT_MAX (R428). -/
def fVoutMax (x : Txn) (d : Dev) : Dev :=
  d.transact 0x24 x
    (some (Dev.serveCmd 0x24 (x.data.length = 2) .other 1 (Dev.writeLimit 0x24 27 16 (codeOfWord (Txn.value x)))))
    (some (Dev.railRead 0x24 2 fun d n => wordOfCode (d.regs.hold.LCP_LIM_VMAX n)))
def execVoutMax (t : Nat) (x : Txn) (s : State) := run t (fVoutMax x) s

/-- VOUT_MIN (R428). -/
def fVoutMin (x : Txn) (d : Dev) : Dev :=
  d.transact 0x2B x
    (some (Dev.serveCmd 0x2B (x.data.length = 2) .other 1 (Dev.writeLimit 0x2B 11 0 (codeOfWord (Txn.value x)))))
    (some (Dev.railRead 0x2B 2 fun d n => wordOfCode (d.regs.hold.LCP_LIM_VMIN n)))
def execVoutMin (t : Nat) (x : Txn) (s : State) := run t (fVoutMin x) s

/-! ### Telemetry (R320–R322) -/

/-- The mantissa of `num / den` at exponent `k − 16`, rounded down. -/
def mantissa (num : Int) (den k : Nat) : Int :=
  if 16 ≤ k then num / ((den * 2 ^ (k - 16) : Nat) : Int) else num * 2 ^ (16 - k) / (den : Int)

/-- The LINEAR11 word of `num / den` (R320). -/
def linear11 (num : Int) (den : Nat) : Nat :=
  match (List.range 32).find? fun k => decide (-1024 ≤ mantissa num den k) && decide (mantissa num den k ≤ 1023) with
  | some k => (k + 16) % 32 * 2 ^ 11 + toBits 11 (mantissa num den k)
  | none => Config.beyondLinear11 num den

/-- The rail's output is on (R322). -/
def Dev.measured (d : Dev) (n : Nat) : Bool := (d.rail n).state = .ramp || (d.rail n).state = .reg || (d.rail n).state = .stop

/-- VOUT in codes of 0.5 mV (R322). -/
def Dev.voutCode (d : Dev) (n : Nat) : Int :=
  let r := d.rail n
  if d.measured n then (r.cvt : Int) + (if r.cn = 0 then 0 else r.csum / (r.cn : Int)) else 0

/-- IOUT in 2^−19 A (R322). -/
def Dev.ioutFine (d : Dev) (n : Nat) : Int := if d.measured n then (d.rail n).ir * d.regs.act.ENG_IGAIN_GAIN n else 0

/-- The ULINEAR16 word of a voltage code, exponent −12 (R320). -/
def voutWord (c : Int) : Nat := if c < 0 then Config.voutBelowZero c else (c * 4096 / 2000).toNat

/-- A per-rail telemetry word. -/
def Dev.railTelemetry (cmd : Nat) (x : Txn) (v : Dev → Nat → Nat) (d : Dev) : Dev := d.transact cmd x none (some (Dev.railRead cmd 2 v))

/-- A device-wide telemetry word: `num / den` in LINEAR11. -/
def Dev.devTelemetry (cmd : Nat) (x : Txn) (num : Dev → Int) (den : Nat) (d : Dev) : Dev :=
  d.readOnly cmd x fun d => leBytes 2 (linear11 (num d) den)

/-- READ_VIN (R321). -/
def fReadVin (x : Txn) (d : Dev) : Dev := d.devTelemetry 0x88 x (fun d => (d.hsw.v : Int)) 1000
def execReadVin (t : Nat) (x : Txn) (s : State) := run t (fReadVin x) s

/-- READ_IIN (R321). -/
def fReadIin (x : Txn) (d : Dev) : Dev := d.devTelemetry 0x89 x (fun d => d.hsw.i) 1000
def execReadIin (t : Nat) (x : Txn) (s : State) := run t (fReadIin x) s

/-- READ_PIN (R321). -/
def fReadPin (x : Txn) (d : Dev) : Dev := d.devTelemetry 0x97 x (fun d => d.hsw.p) 1000
def execReadPin (t : Nat) (x : Txn) (s : State) := run t (fReadPin x) s

/-- READ_VOUT (R320, R322). -/
def fReadVout (x : Txn) (d : Dev) : Dev := d.railTelemetry 0x8B x fun d n => voutWord (d.voutCode n)
def execReadVout (t : Nat) (x : Txn) (s : State) := run t (fReadVout x) s

/-- READ_IOUT (R321, R322). -/
def fReadIout (x : Txn) (d : Dev) : Dev := d.railTelemetry 0x8C x fun d n => linear11 (d.ioutFine n) (2 ^ 19)
def execReadIout (t : Nat) (x : Txn) (s : State) := run t (fReadIout x) s

/-- READ_POUT (R321, R322): VOUT × IOUT, both unrounded. -/
def fReadPout (x : Txn) (d : Dev) : Dev :=
  d.railTelemetry 0x96 x fun d n => linear11 (d.voutCode n * d.ioutFine n) (2000 * 2 ^ 19)
def execReadPout (t : Nat) (x : Txn) (s : State) := run t (fReadPout x) s

/-- READ_TEMPERATURE_1 (R321). -/
def fReadTemperature1 (x : Txn) (d : Dev) : Dev :=
  d.railTelemetry 0x8D x fun d n => linear11 (((d.rail n).hot : Int) - 64) 1
def execReadTemperature1 (t : Nat) (x : Txn) (s : State) := run t (fReadTemperature1 x) s

/-- READ_TEMPERATURE_2 (R321): code / 8 − 273.15, and 0 until a conversion is taken. -/
def fReadTemperature2 (x : Txn) (d : Dev) : Dev :=
  d.devTelemetry 0x8E x (fun d => if d.meas.dieTaken then 25 * (d.meas.dieTemp : Int) - 54630 else 0) 200
def execReadTemperature2 (t : Nat) (x : Txn) (s : State) := run t (fReadTemperature2 x) s

/-- READ_FREQUENCY (R321). -/
def fReadFrequency (x : Txn) (d : Dev) : Dev := d.railTelemetry 0x95 x fun d n => linear11 51200000 (d.tp n)
def execReadFrequency (t : Nat) (x : Txn) (s : State) := run t (fReadFrequency x) s

/-! ### Fixed answers and identity (R425) -/

/-- CAPABILITY (R425). -/
def fCapability (x : Txn) (d : Dev) : Dev := d.readOnly 0x19 x fun _ => [0xD0]
def execCapability (t : Nat) (x : Txn) (s : State) := run t (fCapability x) s

/-- VOUT_MODE (R320). -/
def fVoutMode (x : Txn) (d : Dev) : Dev := d.readOnly 0x20 x fun _ => [0x14]
def execVoutMode (t : Nat) (x : Txn) (s : State) := run t (fVoutMode x) s

/-- PMBUS_REVISION (R425). -/
def fPmbusRevision (x : Txn) (d : Dev) : Dev := d.readOnly 0x98 x fun _ => [0x44]
def execPmbusRevision (t : Nat) (x : Txn) (s : State) := run t (fPmbusRevision x) s

/-- MFR_ID (R425). -/
def fMfrId (x : Txn) (d : Dev) : Dev := d.readOnly 0x99 x fun _ => ascii "DRAVNEN"
def execMfrId (t : Nat) (x : Txn) (s : State) := run t (fMfrId x) s

/-- MFR_MODEL (R425). -/
def fMfrModel (x : Txn) (d : Dev) : Dev := d.readOnly 0x9A x fun _ => ascii "QX8-512"
def execMfrModel (t : Nat) (x : Txn) (s : State) := run t (fMfrModel x) s

/-- MFR_REVISION (R425). -/
def fMfrRevision (x : Txn) (d : Dev) : Dev := d.readOnly 0x9B x fun _ => ascii "B2"
def execMfrRevision (t : Nat) (x : Txn) (s : State) := run t (fMfrRevision x) s

/-- The device serial (R344). -/
def Loft.serial (l : Loft) (m : Memory) : Nat := numAt (l.identity m) 0 8

/-- MFR_SERIAL (R344, R425). -/
def fMfrSerial (x : Txn) (m : Memory) (d : Dev) : Dev := d.readOnly 0x9E x fun d => leBytes 8 (d.loft.serial m)
def execMfrSerial (t : Nat) (x : Txn) (s : State) := runRead t (fMfrSerial x) s

/-- IC_DEVICE_ID (R344, R425): the grade byte ends the name. -/
def fIcDeviceId (x : Txn) (m : Memory) (d : Dev) : Dev :=
  d.readOnly 0xAD x fun d => ascii "QX8-512-" ++ leBytes 1 (numAt (d.loft.identity m) 0x0D 1)
def execIcDeviceId (t : Nat) (x : Txn) (s : State) := runRead t (fIcDeviceId x) s

/-- IC_DEVICE_REV (R344, R425). -/
def fIcDeviceRev (x : Txn) (m : Memory) (d : Dev) : Dev :=
  d.readOnly 0xAE x fun d => leBytes 1 (numAt (d.loft.identity m) 0x0C 1)
def execIcDeviceRev (t : Nat) (x : Txn) (s : State) := runRead t (fIcDeviceRev x) s

end Sys2Proof.Machine
end

