-- ==== Sys2Proof/Machine/Auth.lean ====
section
/-! DEFINITION. The manufacturer commands (14_management_and_access.md, R431–R446): the register window, group commits, WARM, the
password, the challenge and its response, sessions, and the install stream. -/

namespace Sys2Proof.Machine

/-! ### The register window (R431, R432) -/

/-- The word address of a 24-bit byte address: bits [1:0] are ignored. -/
def wordAddr (a : Nat) : Nat := a % 2 ^ 24 / 4 * 4

/-- The window moves on by `k` bytes. -/
def Dev.moveWindow (k : Nat) (d : Dev) : Dev := { d with mgmt.window := (d.mgmt.window + k) % 2 ^ 24 }

/-- After REG_DATA the window moves on by 4 with ACC_SMBCFG.AUTOINC at 1. -/
def Dev.autoInc (d : Dev) : Dev := if d.regs.act.ACC_SMBCFG_AUTOINC = 1 then d.moveWindow 4 else d

/-- REG_ADDR (R431). -/
def fRegAddr (x : Txn) (d : Dev) : Dev :=
  d.transact 0xD0 x
    (some (Dev.serveCmd 0xD0 (x.data.length = 3) .other 0 fun d => { d with mgmt.window := Txn.value x }))
    (some fun d => d.sends 3 d.mgmt.window)
def execRegAddr (t : Nat) (x : Txn) (s : State) := run t (fRegAddr x) s

/-- REG_DATA (R431). -/
def fRegData (x : Txn) (m : Memory) (d : Dev) : Dev :=
  let a := wordAddr d.mgmt.window
  d.transact 0xD1 x
    (some fun d =>
      if x.data.length = 4 then (d.serveWrite 0xD1 a (BitVec.ofNat 32 (Txn.value x))).autoInc else d.refuse 2 0xD1 0)
    (some fun d => (d.serveRead m 0xD1 a).autoInc)

/-- A transaction of command `cmd` carries a register write of `len` bytes whole (R421, R422, R431). -/
def Dev.writesReg (d : Dev) (cmd : Nat) (x : Txn) (len : Nat) : Bool :=
  x.write && !x.cut && x.data.length = len && d.pecServes cmd x

/-- Whether a transaction's register write reaches GO with a step that leaves the array. -/
def Dev.txnRunsPast (d : Dev) (cmd : Nat) (x : Txn) (len a v : Nat) : Bool :=
  d.writesReg cmd x len && d.runsPast (wordAddr a) (BitVec.ofNat 32 v)

def execRegData (t : Nat) (x : Txn) (s : State) : Host.Outcome State Fault Refusal :=
  let d := s.dev.toInstant t
  if d.txnRunsPast 0xD1 x 4 d.mgmt.window (Txn.value x) then .fault .loftBeyondArray else runRead t (fRegData x) s

/-- REG_WRITE (R431): three bytes of address, then four of data. -/
def fRegWrite (x : Txn) (d : Dev) : Dev :=
  d.transact 0xD2 x
    (some fun d =>
      if x.data.length = 7 then
        d.serveWrite 0xD2 (wordAddr (leNat (x.data.take 3))) (BitVec.ofNat 32 (leNat (x.data.drop 3)))
      else d.refuse 2 0xD2 0)
    none
def execRegWrite (t : Nat) (x : Txn) (s : State) : Host.Outcome State Fault Refusal :=
  if (s.dev.toInstant t).txnRunsPast 0xD2 x 7 (leNat (x.data.take 3)) (leNat (x.data.drop 3)) then .fault .loftBeyondArray
  else run t (fRegWrite x) s

/-- REG_READ (R431): three bytes out, four back. -/
def fRegRead (x : Txn) (m : Memory) (d : Dev) : Dev :=
  d.transact 0xD3 x none
    (some fun d => if x.data.length = 3 then d.serveRead m 0xD3 (wordAddr (Txn.value x)) else d.refuse 2 0xD3 0)
def execRegRead (t : Nat) (x : Txn) (s : State) := runRead t (fRegRead x) s

/-- A read inside a burst: the first refusal is the one reported (R424, R432). -/
def Dev.burstRead (m : Memory) (a : Nat) (y : Nat × Nat × Dev) : Nat × Nat × Dev :=
  let r := y.2.2.readReg m a
  let d := r.2.2.answers (r.2.2.mgmt.answer ++ leBytes 4 r.2.1.toNat)
  if y.1 = 0 then (r.1, a, d) else (y.1, y.2.1, d)

/-- REG_BURST (R432): eight registers in ascending address order at one instant. -/
def Dev.burst (m : Memory) (d : Dev) : Dev :=
  let w := wordAddr d.mgmt.window
  let r := (List.range 8).foldl (fun y i => Dev.burstRead m ((w + 4 * i) % 2 ^ 24) y) (0, 0, d)
  let d := if r.1 = 0 then r.2.2 else r.2.2.refuse r.1 0xD4 r.2.1
  d.moveWindow 32

/-- REG_BURST (R431, R432). -/
def fRegBurst (x : Txn) (m : Memory) (d : Dev) : Dev := d.transact 0xD4 x none (some (Dev.burst m))
def execRegBurst (t : Nat) (x : Txn) (s : State) := runRead t (fRegBurst x) s

/-! ### GROUP_COMMIT and WARM (R431, R435) -/

/-- GROUP_COMMIT (R435): as a write of SYS_GCOMMIT. -/
def fGroupCommit (x : Txn) (d : Dev) : Dev :=
  d.transact 0xD5 x
    (some fun d =>
      if x.data.length = 2 then d.serveWrite 0xD5 aSYS_GCOMMIT (BitVec.ofNat 32 (Txn.value x)) else d.refuse 2 0xD5 0)
    none
def execGroupCommit (t : Nat) (x : Txn) (s : State) := run t (fGroupCommit x) s

/-- WARM (R25, R431): the byte 0xA5; refused outside RUN. -/
def fWarm (x : Txn) (d : Dev) : Dev :=
  d.transact 0xD6 x
    (some (Dev.serveCmd 0xD6 (x.data.length = 1) .other 1 fun d =>
      if Txn.value x ≠ 0xA5 then d.refuse 2 0xD6 0
      else if d.sys.state ≠ .run then d.refuse 6 0xD6 0
      else d.warmCommand))
    none
def execWarm (t : Nat) (x : Txn) (s : State) := run t (fWarm x) s

/-! ### Attempts (R438–R440, R442) -/

/-- An attempt within the back-off is refused and does not fail (R440). -/
def Dev.attemptRefused (cmd method : Nat) (d : Dev) : Dev :=
  ((d.refuse 7 cmd 0).count aACC_BACKOFFCNT).raiseDev 0x5004 [BitVec.ofNat 8 method, BitVec.ofNat 8 d.backoffLeft]

/-- An attempt fails (R440). -/
def Dev.attemptFails (method : Nat) (d : Dev) : Dev :=
  let d := (d.onAcc fun x => { x with fails := min 15 (x.fails + 1) }).count aACC_AUTHFAIL
  let d := d.onAcc fun x => { x with backEnd := d.now + x.delay }
  d.raiseDev 0x5003 ([BitVec.ofNat 8 method, BitVec.ofNat 8 d.acc.fails] ++ leBytes 2 (d.acc.delay / secEu))

/-- An attempt succeeds, and the level rises (R438–R441). -/
def Dev.attemptPasses (level method : Nat) (d : Dev) : Dev :=
  ((d.onAcc fun x => { x with fails := 0 }).count aACC_AUTHOK).raiseLevel level method

/-- The bytes are a password: 8–32 of ASCII 0x21–0x7E (R438). -/
def isPassword (pw : List Byte) : Bool :=
  8 ≤ pw.length && pw.length ≤ 32 && pw.all fun b => 0x21 ≤ b.toNat && b.toNat ≤ 0x7E

/-- LOGIN (R438). -/
def Dev.login (pw : List Byte) (d : Dev) : Dev :=
  if d.inBackoff then d.attemptRefused 0xD7 1
  else if passwordHash d.acc.key.salt pw = d.acc.key.hash then d.attemptPasses 1 1
  else d.attemptFails 1

/-- SET (R438): at maintenance level, and not under block protection (R437). -/
def Dev.newPassword (pw : List Byte) (d : Dev) : Dev :=
  if d.acc.level < 2 then d.refuse 4 0xD7 0
  else if 1 ≤ d.loft.bp then d.refuse 9 0xD7 0
  else d.setPassword pw

/-- PASSWORD: an operation byte and a password (R438). -/
def Dev.password (x : Txn) (d : Dev) : Dev :=
  let op := (x.data.headD 0).toNat
  d.transact 0xD7 x
    (some (Dev.serveCmd 0xD7 ((op = 1 || op = 2) && isPassword x.data.tail) .session 0
      (if op = 1 then Dev.login x.data.tail else Dev.newPassword x.data.tail)))
    none

/-- LOGIN (R438). -/
def execLogin (t : Nat) (x : Txn) (s : State) := run t (Dev.password x) s

/-- PASSWORD_SET (R438). -/
def execPasswordSet (t : Nat) (x : Txn) (s : State) := run t (Dev.password x) s

/-- CHALLENGE (R439): a fresh challenge replaces any earlier one. -/
def fChallenge (x : Txn) (d : Dev) : Dev :=
  d.transact 0xD8 x none (some fun d =>
    let c := randomBytes d.acc.draws
    (d.onAcc fun a => { a with chal := some (c, d.now), draws := a.draws + 1 }).answers c)
def execChallenge (t : Nat) (x : Txn) (s : State) := run t (fChallenge x) s

/-- CHALLENGE_EXPIRY (R439): 60 s after the read. -/
def fChallengeExpiry (d : Dev) : Dev :=
  match d.acc.chal with
  | some (_, t0) => if t0 + 60 * secEu ≤ d.now then d.onAcc fun a => { a with chal := none } else d
  | none => d
def execChallengeExpiry (t : Nat) (s : State) := run t fChallengeExpiry s

/-- The message that a response authenticates (R439). -/
def challengeMessage (c : List Byte) (serial : Nat) : List Byte := c ++ leBytes 8 serial ++ [0x4D]

/-- The digest answers the valid challenge (R439). -/
def Dev.responseOk (d : Dev) (m : Memory) (digest : List Byte) : Bool :=
  match d.acc.chal with
  | some (c, t0) => decide (d.now ≤ t0 + 60 * secEu) && decide (digest = hmac d.deviceKey (challengeMessage c (d.loft.serial m)))
  | none => false

/-- RESPONSE (R439, R440): it consumes the challenge, unless it is refused. -/
def fResponse (x : Txn) (m : Memory) (d : Dev) : Dev :=
  d.transact 0xD9 x
    (some (Dev.serveCmd 0xD9 (x.data.length = 32) .session 0 fun d =>
      if d.inBackoff then d.attemptRefused 0xD9 2
      else
        let ok := d.responseOk m x.data
        let d := d.onAcc fun a => { a with chal := none }
        if ok then d.attemptPasses 2 2 else d.attemptFails 2))
    none
def execResponse (t : Nat) (x : Txn) (s : State) := runRead t (fResponse x) s

/-! ### Sessions (R436, R441) -/

/-- LOGOUT (R441). -/
def fLogout (x : Txn) (d : Dev) : Dev :=
  d.transact 0xDA x (some (Dev.serveCmd 0xDA (x.data.length = 0) .session 0 (Dev.endSession 1))) none
def execLogout (t : Nat) (x : Txn) (s : State) := run t (fLogout x) s

/-- SESSION_IDLE_TIMEOUT (R441): 300 s with no transaction. -/
def fSessionIdleTimeout (d : Dev) : Dev :=
  if d.acc.lastTxn + 300 * secEu ≤ d.now then d.endSession 2 else d
def execSessionIdleTimeout (t : Nat) (s : State) := run t fSessionIdleTimeout s

/-- The word of ACCESS_STATUS (R431). -/
def Dev.accessWord (d : Dev) : Nat :=
  d.acc.level + 4 * d.acc.key.lock.toNat + 8 * d.acc.fails + 256 * (if d.inBackoff then min 255 d.backoffLeft else 0)

/-- ACCESS_STATUS (R431). -/
def fAccessStatus (x : Txn) (d : Dev) : Dev := d.transact 0xDB x none (some fun d => d.sends 2 d.accessWord)
def execAccessStatus (t : Nat) (x : Txn) (s : State) := run t (fAccessStatus x) s

/-! ### The install stream (R431, R443) -/

/-- The words of a block, each least significant byte first. -/
def blockWords (bs : List Byte) : List Word :=
  (List.range (bs.length / 4)).map fun i => BitVec.ofNat 32 (leNat ((bs.drop (4 * i)).take 4))

/-- INST_DATA (R431, R443): 4–32 bytes, a multiple of 4. -/
def fInstData (x : Txn) (d : Dev) : Dev :=
  let n := x.data.length
  d.transact 0xDC x
    (some (Dev.serveCmd 0xDC (4 ≤ n && n ≤ 32 && n % 4 = 0) .install 2 fun d => d.each (blockWords x.data) Dev.streamWord))
    none
def execInstData (t : Nat) (x : Txn) (s : State) := run t (fInstData x) s

end Sys2Proof.Machine
end

