-- ==== Sys2Proof/Machine/Dispatch.lean ====
section
/-! DEFINITION. One arm per command: the meaning it calls. -/

namespace Sys2Proof.Machine

def exec (i : Instr) (s : State) : Host.Outcome State Fault Refusal :=
  match i with
  | .powerUp t role domRoot resetLow extractLow => Sys2Proof.Machine.execPowerUp t role domRoot resetLow extractLow s
  | .resetAssert t => Sys2Proof.Machine.execResetAssert t s
  | .resetRelease t role domRoot => Sys2Proof.Machine.execResetRelease t role domRoot s
  | .supplyFall t store => Sys2Proof.Machine.execSupplyFall t store s
  | .vauxFall t => Sys2Proof.Machine.execVauxFall t s
  | .supervisorRise t => Sys2Proof.Machine.execSupervisorRise t s
  | .supervisorFall t => Sys2Proof.Machine.execSupervisorFall t s
  | .vbusHvBelowPowerOn t => Sys2Proof.Machine.execVbusHvBelowPowerOn t s
  | .extractAssert t => Sys2Proof.Machine.execExtractAssert t s
  | .extractRelease t => Sys2Proof.Machine.execExtractRelease t s
  | .enPinEdge t n level => Sys2Proof.Machine.execEnPinEdge t n level s
  | .pfltEdge t low => Sys2Proof.Machine.execPfltEdge t low s
  | .trigEdge t level => Sys2Proof.Machine.execTrigEdge t level s
  | .comparatorEdge t src level => Sys2Proof.Machine.execComparatorEdge t src level s
  | .wakeRetrainComplete t okMask => Sys2Proof.Machine.execWakeRetrainComplete t okMask s
  | .idleEntry t => Sys2Proof.Machine.execIdleEntry t s
  | .holdoverEntry t => Sys2Proof.Machine.execHoldoverEntry t s
  | .syncHoldoverExpired t => Sys2Proof.Machine.execSyncHoldoverExpired t s
  | .syncReturn t phase => Sys2Proof.Machine.execSyncReturn t phase s
  | .syncRestored t => Sys2Proof.Machine.execSyncRestored t s
  | .timebaseLock t hz => Sys2Proof.Machine.execTimebaseLock t hz s
  | .timebaseLockTimeout t => Sys2Proof.Machine.execTimebaseLockTimeout t s
  | .timeWaitTimeout t => Sys2Proof.Machine.execTimeWaitTimeout t s
  | .loftIntegrityScan t => Sys2Proof.Machine.execLoftIntegrityScan t s
  | .calibrationCertificateLoad t => Sys2Proof.Machine.execCalibrationCertificateLoad t s
  | .identityAndKeyCheck t => Sys2Proof.Machine.execIdentityAndKeyCheck t s
  | .negWaitExpiry t => Sys2Proof.Machine.execNegWaitExpiry t s
  | .stallCensus t => Sys2Proof.Machine.execStallCensus t s
  | .preStartProbes t => Sys2Proof.Machine.execPreStartProbes t s
  | .lawUnitSelfTest t failLaw failBal => Sys2Proof.Machine.execLawUnitSelfTest t failLaw failBal s
  | .loftTailRecovery t => Sys2Proof.Machine.execLoftTailRecovery t s
  | .railProbe t n => Sys2Proof.Machine.execRailProbe t n s
  | .windowSearch t n convs => Sys2Proof.Machine.execWindowSearch t n convs s
  | .sequenceSlotDelay t n => Sys2Proof.Machine.execSequenceSlotDelay t n s
  | .stopSlotDelay t n => Sys2Proof.Machine.execStopSlotDelay t n s
  | .hiccupTimeExpiry t n => Sys2Proof.Machine.execHiccupTimeExpiry t n s
  | .railWarmStart t n => Sys2Proof.Machine.execRailWarmStart t n s
  | .railSampleBoundary t n track => Sys2Proof.Machine.execRailSampleBoundary t n track s
  | .lawJobDispatch t => Sys2Proof.Machine.execLawJobDispatch t s
  | .lawJobComplete t unit => Sys2Proof.Machine.execLawJobComplete t unit s
  | .lawUnitHung t unit => Sys2Proof.Machine.execLawUnitHung t unit s
  | .lawDeadlineTurnOff t n => Sys2Proof.Machine.execLawDeadlineTurnOff t n s
  | .balanceJobDispatch t => Sys2Proof.Machine.execBalanceJobDispatch t s
  | .balanceJobComplete t unit => Sys2Proof.Machine.execBalanceJobComplete t unit s
  | .edgeFrameSend t stall start => Sys2Proof.Machine.execEdgeFrameSend t stall start s
  | .edgeFrameDiscard t stall start => Sys2Proof.Machine.execEdgeFrameDiscard t stall start s
  | .stopFrameSend t stall => Sys2Proof.Machine.execStopFrameSend t stall s
  | .holdSend t lane => Sys2Proof.Machine.execHoldSend t lane s
  | .epochBoundaryDecision t n => Sys2Proof.Machine.execEpochBoundaryDecision t n s
  | .epochBoundary t n => Sys2Proof.Machine.execEpochBoundary t n s
  | .drainEnd t n => Sys2Proof.Machine.execDrainEnd t n s
  | .shedProgress t stall => Sys2Proof.Machine.execShedProgress t stall s
  | .telemReceive t lane body => Sys2Proof.Machine.execTelemReceive t lane body s
  | .telemTimeout t stall => Sys2Proof.Machine.execTelemTimeout t stall s
  | .vinStale t => Sys2Proof.Machine.execVinStale t s
  | .probeAnswer t lane body => Sys2Proof.Machine.execProbeAnswer t lane body s
  | .cfgAck t lane body => Sys2Proof.Machine.execCfgAck t lane body s
  | .cfgNak t lane body => Sys2Proof.Machine.execCfgNak t lane body s
  | .faultChange t lane body => Sys2Proof.Machine.execFaultChange t lane body s
  | .censusAnswer t lane body => Sys2Proof.Machine.execCensusAnswer t lane body s
  | .answerWindowExpiry t lane pos => Sys2Proof.Machine.execAnswerWindowExpiry t lane pos s
  | .returnedFrameCheck t lane slot body dev => Sys2Proof.Machine.execReturnedFrameCheck t lane slot body dev s
  | .lossOfLock t lane => Sys2Proof.Machine.execLossOfLock t lane s
  | .laneTrainingPhase t lane marks => Sys2Proof.Machine.execLaneTrainingPhase t lane marks s
  | .trainingAttemptTimeout t lane => Sys2Proof.Machine.execTrainingAttemptTimeout t lane s
  | .lcpAbort t port => Sys2Proof.Machine.execLcpAbort t port s
  | .nop t port n seq arg => Sys2Proof.Machine.execNop t port n seq arg s
  | .setv t port n seq code cls notify => Sys2Proof.Machine.execSetv t port n seq code cls notify s
  | .pstate t port n seq hint => Sys2Proof.Machine.execPstate t port n seq hint s
  | .stepAhead t port n seq lead dir cls => Sys2Proof.Machine.execStepAhead t port n seq lead dir cls s
  | .query t port n seq item => Sys2Proof.Machine.execQuery t port n seq item s
  | .clralert t port n seq mask => Sys2Proof.Machine.execClralert t port n seq mask s
  | .stepAheadMiss t n => Sys2Proof.Machine.execStepAheadMiss t n s
  | .episodeStart t n => Sys2Proof.Machine.execEpisodeStart t n s
  | .episodeRenewal t n => Sys2Proof.Machine.execEpisodeRenewal t n s
  | .episodeEnd t n => Sys2Proof.Machine.execEpisodeEnd t n s
  | .returnedEnergyUpdate t => Sys2Proof.Machine.execReturnedEnergyUpdate t s
  | .limitedIntervalCount t n => Sys2Proof.Machine.execLimitedIntervalCount t n s
  | .overcurrentTurnOff t n => Sys2Proof.Machine.execOvercurrentTurnOff t n s
  | .railOverTemperature t n => Sys2Proof.Machine.execRailOverTemperature t n s
  | .overvoltage t n => Sys2Proof.Machine.execOvervoltage t n s
  | .undervoltage t n => Sys2Proof.Machine.execUndervoltage t n s
  | .gpcPersistence t k => Sys2Proof.Machine.execGpcPersistence t k s
  | .crowbarRenewal t n => Sys2Proof.Machine.execCrowbarRenewal t n s
  | .ringFreeze t => Sys2Proof.Machine.execRingFreeze t s
  | .lastFaultRecordWrite t => Sys2Proof.Machine.execLastFaultRecordWrite t s
  | .archiveCopyWrite t => Sys2Proof.Machine.execArchiveCopyWrite t s
  | .protCaplRead t => Sys2Proof.Machine.execProtCaplRead t s
  | .hvTick t vdsRaw acting => Sys2Proof.Machine.execHvTick t vdsRaw acting s
  | .hvTickLoss t => Sys2Proof.Machine.execHvTickLoss t s
  | .hvTickResumed t => Sys2Proof.Machine.execHvTickResumed t s
  | .inputRecordWritten t => Sys2Proof.Machine.execInputRecordWritten t s
  | .rampFullyOn t => Sys2Proof.Machine.execRampFullyOn t s
  | .faultTimerTrip t => Sys2Proof.Machine.execFaultTimerTrip t s
  | .rampTimeout t => Sys2Proof.Machine.execRampTimeout t s
  | .severeCurrentTrip t => Sys2Proof.Machine.execSevereCurrentTrip t s
  | .busOvTrip t => Sys2Proof.Machine.execBusOvTrip t s
  | .busOvRearm t => Sys2Proof.Machine.execBusOvRearm t s
  | .retryPeriodExpiry t => Sys2Proof.Machine.execRetryPeriodExpiry t s
  | .retriesReset t => Sys2Proof.Machine.execRetriesReset t s
  | .ibcEnReleaseTimeout t => Sys2Proof.Machine.execIbcEnReleaseTimeout t s
  | .gateOffConfirm t shown => Sys2Proof.Machine.execGateOffConfirm t shown s
  | .bleedStop t => Sys2Proof.Machine.execBleedStop t s
  | .bleedTimeout t => Sys2Proof.Machine.execBleedTimeout t s
  | .hswCtrlClear t => Sys2Proof.Machine.execHswCtrlClear t s
  | .hswCtrlBleed t => Sys2Proof.Machine.execHswCtrlBleed t s
  | .meteringSample t vraw iraw x => Sys2Proof.Machine.execMeteringSample t vraw iraw x s
  | .lifetimeEnergyFlush t => Sys2Proof.Machine.execLifetimeEnergyFlush t s
  | .wearFlush t => Sys2Proof.Machine.execWearFlush t s
  | .spareProbe t stall => Sys2Proof.Machine.execSpareProbe t stall s
  | .operatingTimeFlush t => Sys2Proof.Machine.execOperatingTimeFlush t s
  | .sarResult t conv code => Sys2Proof.Machine.execSarResult t conv code s
  | .pathCheck t conv code => Sys2Proof.Machine.execPathCheck t conv code s
  | .sparePathSwitch t conv => Sys2Proof.Machine.execSparePathSwitch t conv s
  | .windowPublish t => Sys2Proof.Machine.execWindowPublish t s
  | .domainSnapshotTrigger t => Sys2Proof.Machine.execDomainSnapshotTrigger t s
  | .measSarctrlTrig t => Sys2Proof.Machine.execMeasSarctrlTrig t s
  | .measSarctrlClrq t mask => Sys2Proof.Machine.execMeasSarctrlClrq t mask s
  | .measQueueRead t k => Sys2Proof.Machine.execMeasQueueRead t k s
  | .splitReadLow t addr => Sys2Proof.Machine.execSplitReadLow t addr s
  | .splitReadHigh t addr => Sys2Proof.Machine.execSplitReadHigh t addr s
  | .perfCtrlSnap t => Sys2Proof.Machine.execPerfCtrlSnap t s
  | .perfCtrlClrall t => Sys2Proof.Machine.execPerfCtrlClrall t s
  | .perfCtrlClrovf t => Sys2Proof.Machine.execPerfCtrlClrovf t s
  | .perfCtrlWrite t => Sys2Proof.Machine.execPerfCtrlWrite t s
  | .perfSnapshotComplete t => Sys2Proof.Machine.execPerfSnapshotComplete t s
  | .loftStepComplete t fail1 fail2 => Sys2Proof.Machine.execLoftStepComplete t fail1 fail2 s
  | .loftPortTimeout t => Sys2Proof.Machine.execLoftPortTimeout t s
  | .loftPortRetry t answered => Sys2Proof.Machine.execLoftPortRetry t answered s
  | .eventRecordWritten t => Sys2Proof.Machine.execEventRecordWritten t s
  | .evtCtrlClear t => Sys2Proof.Machine.execEvtCtrlClear t s
  | .logClearComplete t => Sys2Proof.Machine.execLogClearComplete t s
  | .evtRdata0Read t => Sys2Proof.Machine.execEvtRdata0Read t s
  | .evtLwdataRead t => Sys2Proof.Machine.execEvtLwdataRead t s
  | .loftRdataRead t => Sys2Proof.Machine.execLoftRdataRead t s
  | .loftWdataWrite t word => Sys2Proof.Machine.execLoftWdataWrite t word s
  | .loftWctlGo t => Sys2Proof.Machine.execLoftWctlGo t s
  | .loftWctlDiscard t => Sys2Proof.Machine.execLoftWctlDiscard t s
  | .loftProtWrite t bp => Sys2Proof.Machine.execLoftProtWrite t bp s
  | .linkTraining t port rt => Sys2Proof.Machine.execLinkTraining t port rt s
  | .helloSend t => Sys2Proof.Machine.execHelloSend t s
  | .hello t bs m => Sys2Proof.Machine.execHello t bs m s
  | .rc t bs m => Sys2Proof.Machine.execRc t bs m s
  | .dcSend t => Sys2Proof.Machine.execDcSend t s
  | .dc t bs m => Sys2Proof.Machine.execDc t bs m s
  | .ackSend t => Sys2Proof.Machine.execAckSend t s
  | .ack t bs seq armed => Sys2Proof.Machine.execAck t bs seq armed s
  | .join t bs m => Sys2Proof.Machine.execJoin t bs m s
  | .deltas t bs first ds => Sys2Proof.Machine.execDeltas t bs first ds s
  | .deltaResend t => Sys2Proof.Machine.execDeltaResend t s
  | .armedLoss t => Sys2Proof.Machine.execArmedLoss t s
  | .messageDueMissed t rail => Sys2Proof.Machine.execMessageDueMissed t rail s
  | .pfltPersistence t => Sys2Proof.Machine.execPfltPersistence t s
  | .handover t bs => Sys2Proof.Machine.execHandover t bs s
  | .handoverWaitExpiry t => Sys2Proof.Machine.execHandoverWaitExpiry t s
  | .takenSend t => Sys2Proof.Machine.execTakenSend t s
  | .taken t bs term => Sys2Proof.Machine.execTaken t bs term s
  | .authorityCheck t => Sys2Proof.Machine.execAuthorityCheck t s
  | .ownerOffer t => Sys2Proof.Machine.execOwnerOffer t s
  | .owner t bs accept => Sys2Proof.Machine.execOwner t bs accept s
  | .timeSend t => Sys2Proof.Machine.execTimeSend t s
  | .time t port bs sender => Sys2Proof.Machine.execTime t port bs sender s
  | .enum t bs base size depth => Sys2Proof.Machine.execEnum t bs base size depth s
  | .settleExpiry t => Sys2Proof.Machine.execSettleExpiry t s
  | .report t port bs r => Sys2Proof.Machine.execReport t port bs r s
  | .epochInterval t => Sys2Proof.Machine.execEpochInterval t s
  | .epoch t bs count at_ => Sys2Proof.Machine.execEpoch t bs count at_ s
  | .epochAdopt t => Sys2Proof.Machine.execEpochAdopt t s
  | .ilv t bs target group delta => Sys2Proof.Machine.execIlv t bs target group delta s
  | .snapshotPeriod t => Sys2Proof.Machine.execSnapshotPeriod t s
  | .snap t bs seq ts => Sys2Proof.Machine.execSnap t bs seq ts s
  | .alarmSend t => Sys2Proof.Machine.execAlarmSend t s
  | .alarm t port bs word count addr => Sys2Proof.Machine.execAlarm t port bs word count addr s
  | .domainLinkLoss t port => Sys2Proof.Machine.execDomainLinkLoss t port s
  | .domCtrlSnap t => Sys2Proof.Machine.execDomCtrlSnap t s
  | .domCtrlEpoch t => Sys2Proof.Machine.execDomCtrlEpoch t s
  | .domCtrlAlmclr t => Sys2Proof.Machine.execDomCtrlAlmclr t s
  | .page t x => Sys2Proof.Machine.execPage t x s
  | .operation t x => Sys2Proof.Machine.execOperation t x s
  | .onOffConfig t x => Sys2Proof.Machine.execOnOffConfig t x s
  | .clearFaults t x => Sys2Proof.Machine.execClearFaults t x s
  | .capability t x => Sys2Proof.Machine.execCapability t x s
  | .voutMode t x => Sys2Proof.Machine.execVoutMode t x s
  | .voutCommand t x => Sys2Proof.Machine.execVoutCommand t x s
  | .voutMax t x => Sys2Proof.Machine.execVoutMax t x s
  | .voutMin t x => Sys2Proof.Machine.execVoutMin t x s
  | .statusByte t x => Sys2Proof.Machine.execStatusByte t x s
  | .statusWord t x => Sys2Proof.Machine.execStatusWord t x s
  | .statusVout t x => Sys2Proof.Machine.execStatusVout t x s
  | .statusIout t x => Sys2Proof.Machine.execStatusIout t x s
  | .statusInput t x => Sys2Proof.Machine.execStatusInput t x s
  | .statusTemperature t x => Sys2Proof.Machine.execStatusTemperature t x s
  | .statusCml t x => Sys2Proof.Machine.execStatusCml t x s
  | .statusMfrSpecific t x => Sys2Proof.Machine.execStatusMfrSpecific t x s
  | .readVin t x => Sys2Proof.Machine.execReadVin t x s
  | .readIin t x => Sys2Proof.Machine.execReadIin t x s
  | .readPin t x => Sys2Proof.Machine.execReadPin t x s
  | .readVout t x => Sys2Proof.Machine.execReadVout t x s
  | .readIout t x => Sys2Proof.Machine.execReadIout t x s
  | .readPout t x => Sys2Proof.Machine.execReadPout t x s
  | .readTemperature1 t x => Sys2Proof.Machine.execReadTemperature1 t x s
  | .readTemperature2 t x => Sys2Proof.Machine.execReadTemperature2 t x s
  | .readFrequency t x => Sys2Proof.Machine.execReadFrequency t x s
  | .pmbusRevision t x => Sys2Proof.Machine.execPmbusRevision t x s
  | .mfrId t x => Sys2Proof.Machine.execMfrId t x s
  | .mfrModel t x => Sys2Proof.Machine.execMfrModel t x s
  | .mfrRevision t x => Sys2Proof.Machine.execMfrRevision t x s
  | .mfrSerial t x => Sys2Proof.Machine.execMfrSerial t x s
  | .icDeviceId t x => Sys2Proof.Machine.execIcDeviceId t x s
  | .icDeviceRev t x => Sys2Proof.Machine.execIcDeviceRev t x s
  | .unsupportedCommand t code x => Sys2Proof.Machine.execUnsupportedCommand t code x s
  | .smbusAlertResponse t => Sys2Proof.Machine.execSmbusAlertResponse t s
  | .smbusClockLowTimeout t => Sys2Proof.Machine.execSmbusClockLowTimeout t s
  | .regAddr t x => Sys2Proof.Machine.execRegAddr t x s
  | .regData t x => Sys2Proof.Machine.execRegData t x s
  | .regWrite t x => Sys2Proof.Machine.execRegWrite t x s
  | .regRead t x => Sys2Proof.Machine.execRegRead t x s
  | .regBurst t x => Sys2Proof.Machine.execRegBurst t x s
  | .groupCommit t x => Sys2Proof.Machine.execGroupCommit t x s
  | .warm t x => Sys2Proof.Machine.execWarm t x s
  | .login t x => Sys2Proof.Machine.execLogin t x s
  | .passwordSet t x => Sys2Proof.Machine.execPasswordSet t x s
  | .challenge t x => Sys2Proof.Machine.execChallenge t x s
  | .challengeExpiry t => Sys2Proof.Machine.execChallengeExpiry t s
  | .response t x => Sys2Proof.Machine.execResponse t x s
  | .logout t x => Sys2Proof.Machine.execLogout t x s
  | .sessionIdleTimeout t => Sys2Proof.Machine.execSessionIdleTimeout t s
  | .accessStatus t x => Sys2Proof.Machine.execAccessStatus t x s
  | .accCtrlLock t => Sys2Proof.Machine.execAccCtrlLock t s
  | .accCtrlUnlock t => Sys2Proof.Machine.execAccCtrlUnlock t s
  | .installBegin t dual => Sys2Proof.Machine.execInstallBegin t dual s
  | .instData t x => Sys2Proof.Machine.execInstData t x s
  | .installCommit t => Sys2Proof.Machine.execInstallCommit t s
  | .imageInstallComplete t => Sys2Proof.Machine.execImageInstallComplete t s
  | .installAbort t => Sys2Proof.Machine.execInstallAbort t s
  | .certificateInstall t => Sys2Proof.Machine.execCertificateInstall t s
  | .registerWrite t addr data => Sys2Proof.Machine.execRegisterWrite t addr data s
  | .errorConversion t n code => Sys2Proof.Machine.execErrorConversion t n code s
  | .vbusHvPowerOn t => Sys2Proof.Machine.execVbusHvPowerOn t s
  | .pairLinkLossOfLock t => Sys2Proof.Machine.execPairLinkLossOfLock t s
  | .badReq t port raw => Sys2Proof.Machine.execBadReq t port raw s
  | .protectionWordProgrammed t => Sys2Proof.Machine.execProtectionWordProgrammed t s

end Sys2Proof.Machine
end

