-- ==== Sys2Proof/Safety.lean ====
section
/-! DEFINITION. The terms in which statements speak of a command: the device it finds, what it does when it completes, and
which parts of the device it leaves alone. -/

namespace Sys2Proof.Machine

/-- The device as command `c` finds it: `s`'s device at the instant that `c` carries. -/
def State.seen (s : State) (c : Instr) : Dev := s.dev.toInstant c.instant

/-- Command `c` completes on `s`: `exec` answers a next state, in which the waiting commands are those of `s` and the device
stands in relation `P` to the one the command found. -/
def Completes (c : Instr) (s : State) (P : Dev → Dev → Prop) : Prop :=
  ∃ s', exec c s = .next s' ∧ s'.pending = s.pending ∧ P (s.seen c) s'.dev

/-- Command `c` completes on every state whose device meets `pre`, and `post` relates the device it found to the one it left. -/
def Does (c : Instr) (pre : Dev → Prop) (post : Dev → Dev → Prop) : Prop := ∀ s : State, pre (s.seen c) → Completes c s post

/-- The parts of the device. -/
inductive Part where
  | regs | pins | sys | tb | lanes | stalls | yards | laws | bals | lawUnits | balUnits | rails | ports | prot | ret | hsw
  | meas | loft | evt | acc | mgmt | pair | dom | fuses
deriving DecidableEq, Repr

/-- A part is the same before and after. Four parts are compared without what moves of itself after every command: the
dwell of IDLE, the step that the loft controller has begun and the jobs that wait for it, the record that the recorder has taken,
and the deltas that a primary has sent. -/
def Part.same (d e : Dev) : Part → Prop
  | .regs => e.regs = d.regs
  | .pins => e.pins = d.pins
  | .sys => { e.sys with idleSince := none } = { d.sys with idleSince := none }
  | .tb => e.tb = d.tb
  | .lanes => e.lanes = d.lanes
  | .stalls => e.stalls = d.stalls
  | .yards => e.yards = d.yards
  | .laws => e.laws = d.laws
  | .bals => e.bals = d.bals
  | .lawUnits => e.lawUnits = d.lawUnits
  | .balUnits => e.balUnits = d.balUnits
  | .rails => e.rails = d.rails
  | .ports => e.ports = d.ports
  | .prot => e.prot = d.prot
  | .ret => e.ret = d.ret
  | .hsw => e.hsw = d.hsw
  | .meas => e.meas = d.meas
  | .loft => { e.loft with jobs := [], busy := false } = { d.loft with jobs := [], busy := false }
  | .evt => { e.evt with cur := none } = { d.evt with cur := none }
  | .acc => e.acc = d.acc
  | .mgmt => e.mgmt = d.mgmt
  | .pair => { e.pair with unacked := [], sent := [], tx := 0 } = { d.pair with unacked := [], sent := [], tx := 0 }
  | .dom => e.dom = d.dom
  | .fuses => e.deviceKey = d.deviceKey ∧ e.fuseSerial = d.fuseSerial

/-- Every part but those of `ps` is the same before and after. -/
def OnlyParts (ps : List Part) (d e : Dev) : Prop := ∀ p, p ∉ ps → p.same d e

/-- Where the recorder has room, exactly the events of `codes` join its queue, in that order. -/
def Logs (codes : List Nat) (d e : Dev) : Prop :=
  d.evt.unusable = false ∧ d.evt.queue.length + codes.length ≤ 112 →
    e.evt.queue.map (·.code) = d.evt.queue.map (·.code) ++ codes

/-- A transaction of command `cmd` that writes is taken: the device hears it, it is not cut off, and its PEC checks, or lacks where none
is required (R421, R422). -/
def Dev.takesWrite (d : Dev) (cmd : Nat) (x : Txn) : Bool := d.hears && x.write && !x.cut && d.pecServes cmd x

/-- The blocks of a message that is intact and of MTYPE `k` (R386, R387). -/
def carries (bs : List Block) (k : Nat) : Bool := msgIntact bs && decide (msgType bs = some k)

/-- A transaction that reads is taken: the device hears it, and it is not cut off. -/
def Dev.takesRead (d : Dev) (x : Txn) : Bool := d.hears && !x.write && !x.cut

/-- The array of the loft is in its canonical form: addresses strictly rising, and no byte listed that an unlisted address
reads as. -/
def State.arrayWf (s : State) : Bool := s.array.wf

/-- The commands whose effect may store into the loft's array: the end of a loft step, a port that stops answering, and the
events that cut a step short. -/
def storesArray : Instr → Bool
  | .powerUp .. => true
  | .loftStepComplete .. => true
  | .loftPortTimeout _ => true
  | .resetAssert _ => true
  | .supplyFall .. => true
  | _ => false

/-- Supplies that fail or rise, and RESET#: a cold start from any state (R25). -/
def startsCold : Instr → Bool
  | .powerUp .. | .resetAssert .. | .supplyFall .. => true
  | _ => false

/-- The input is lost: the supervisor's falling crossing, or an extraction (R25, R36). -/
def losesInput : Instr → Bool
  | .supervisorFall .. | .vbusHvBelowPowerOn .. | .extractAssert .. => true
  | _ => false

/-- The commands that R25's table names for a move from one state to another: WARM comes as the command or as a write of
SYS_CTRL, authority is lost to TAKEN or by unanswered checks (R403), and a hand-over ends in WARM (R404). -/
def mayMove (c : Instr) : DevState → DevState → Bool
  | .halt, .start => startsCold c
  | .standby, .start => startsCold c || losesInput c
  | .idle, .start => startsCold c || losesInput c
  | .run, .start => startsCold c || losesInput c || (match c with
    | .warm .. | .registerWrite .. | .regWrite .. | .regData .. | .handoverWaitExpiry .. | .taken .. | .answerWindowExpiry .. => true
    | _ => false)
  | .run, .idle => (match c with
    | .idleEntry .. => true
    | _ => false)
  | .idle, .run => (match c with
    | .wakeRetrainComplete .. => true
    | _ => false)
  | .standby, .run => (match c with
    | .pfltPersistence .. | .handover .. | .messageDueMissed .. => true
    | _ => false)
  | .start, .run => (match c with
    | .lawUnitSelfTest .. | .loftTailRecovery .. => true
    | _ => false)
  | .start, .standby => (match c with
    | .lawUnitSelfTest .. | .loftTailRecovery .. => true
    | _ => false)
  | .start, .halt => (match c with
    | .timebaseLockTimeout .. | .loftIntegrityScan .. | .loftPortTimeout .. | .identityAndKeyCheck .. | .lawUnitSelfTest .. => true
    | _ => false)
  | _, _ => false

/-- The capture queue, the converters' queues, the last-words latches, the host's step buffer and the session's level are
within what R239, R314, R376, R358 and R433 give them. -/
def Dev.queuesBounded (d : Dev) : Prop :=
  d.prot.capture.length ≤ 64 ∧ (∀ q ∈ d.meas.queues, q.length ≤ 256) ∧ d.evt.latches.length ≤ 8 ∧
    d.loft.hostBuf.length ≤ 1024 ∧ d.acc.level ≤ 2

/-- Bits [hi:lo] of a frame body. -/
def bodyBits (b : Body) (hi lo : Nat) : Nat := b.toNat / 2 ^ lo % 2 ^ (hi - lo + 1)

/-- Cell `j` of the spread counter at `base`, as R350 lays it out: bits [47:0] VALUE, [55:48] GEN, [63:56] CRC. -/
def Loft.cellWord (l : Loft) (m : Memory) (base j : Nat) : Nat := leNat (l.read m (base + 8 * j) 8)

/-- Cell `j` is valid: its word does not fail, GEN mod 16 equals `j`, and the CRC over bits [55:0] checks (R350). -/
def Loft.cellValid (l : Loft) (m : Memory) (base j : Nat) : Prop :=
  let w := l.cellWord m base j
  l.failsIn (base + 8 * j) 8 = [] ∧ w / 2 ^ 48 % 16 = j ∧
  crc8 ((List.range 7).map fun i => w / 2 ^ (48 - 8 * i) % 256) = w / 2 ^ 56

/-- The valid cell `j` is the newest: (g − h) mod 256 is below 128 for the GEN h of every valid cell (R350). -/
def Loft.cellNewest (l : Loft) (m : Memory) (base j : Nat) : Prop :=
  j < 16 ∧ l.cellValid m base j ∧ ∀ i < 16, l.cellValid m base i →
    (l.cellWord m base j / 2 ^ 48 % 256 + 256 - l.cellWord m base i / 2 ^ 48 % 256) % 256 < 128

end Sys2Proof.Machine
end

