-- ==== Sys2Proof/Certificates/Slice0/Obligations.lean ====
section
/-! DEFINITION. The statements for the provers. Each docstring names the rules of spec/ that its clauses follow. -/

open Sys2Proof Sys2Proof.Machine

/-- R25, R35, R10, R302: POWER_UP and the two events that cut a running device off begin a cold start in START at step 1 with every
rail off and the pins as they now read; step 1 completes at once where nothing it waits for is missing,
the bleed of an extraction among it. RESET_RELEASE then completes it. What the fuses hold stays.
The model's own readings behind it: log entries 2, 41 and 71.
Each clause concludes that `exec` answers a next state (`Does`, `Completes`: Safety.lean). -/
def Obligations.PowerAndResetBeginAColdStart : Prop :=
  (∀ t role domRoot resetLow extractLow, Does (.powerUp t role domRoot resetLow extractLow) (fun _ => True) fun d e =>
    e.sys.state = .start ∧ e.sys.kind = 0 ∧
    e.sys.step = (if d.pins.above ∧ resetLow = false ∧ extractLow = false ∧ d.hsw.extBleed = false then 2 else 1) ∧
    e.pins = { d.pins with supplies := true, vaux := true, resetLow := resetLow, extractLow := extractLow,
                           role := role % 4, domRoot := domRoot } ∧
    e.rails = List.replicate 8 {} ∧ e.acc.level = 0 ∧ e.tb.running = false ∧ Part.fuses.same d e) ∧
  (∀ t, Does (.resetAssert t) (fun d => d.pins.resetLow = false) fun d e =>
    e.sys.state = .start ∧ e.sys.kind = 0 ∧ e.sys.step = 1 ∧ e.pins = { d.pins with resetLow := true } ∧
    e.rails = List.replicate 8 {} ∧ e.acc.level = 0 ∧ e.tb.running = false ∧ Part.fuses.same d e) ∧
  (∀ t store, Does (.supplyFall t store) (fun _ => True) fun d e =>
    e.sys.state = .start ∧ e.sys.kind = 0 ∧ e.sys.step = 1 ∧ e.pins = { d.pins with supplies := false } ∧
    e.rails = List.replicate 8 {} ∧ e.acc.level = 0 ∧ e.tb.running = false ∧ Part.fuses.same d e) ∧
  (∀ t role domRoot, Does (.resetRelease t role domRoot) (fun d => d.pins.resetLow = true ∧ d.sys.state = .start ∧
      d.sys.step = 1 ∧ d.sys.kind = 0 ∧ d.pins.supplies = true ∧ d.pins.vaux = true ∧ d.pins.extractLow = false ∧
      d.pins.above = true ∧ d.hsw.extBleed = false) fun d e =>
    e.pins = { d.pins with resetLow := false, role := role % 4, domRoot := domRoot } ∧
    e.sys.state = .start ∧ e.sys.step = (if d.tb.running && d.tb.lock then 3 else 2) ∧ e.loft.portOk = true ∧
    e.loft.bp = d.loft.bpWord ∧ OnlyParts [.pins, .sys, .loft, .dom, .evt, .pair] d e)

/-- R440, R457, R36, R35, R384, R310: what each of these pins and supplies does when it changes.
The model's own readings behind it: log entries 41 and 42.
Each clause concludes that `exec` answers a next state (`Does`, `Completes`: Safety.lean). -/
def Obligations.PinsAndSuppliesAreFollowed : Prop :=
  (∀ t, Does (.vauxFall t) (fun _ => True) fun d e =>
    e.pins = { d.pins with vaux := false } ∧ e.sys.vauxLost = true ∧ e.evt.latches = [] ∧ e.evt.lwOver = 0 ∧
    OnlyParts [.pins, .sys, .evt] d e) ∧
  (∀ t, Does (.vbusHvPowerOn t) (fun d => d.pins.vbusHv = false) fun d e =>
    e.pins = { d.pins with vbusHv := true, above := false } ∧ OnlyParts [.pins] d e) ∧
  (∀ t, Does (.supervisorRise t) (fun d => d.pins.vbusHv = true) fun d e =>
    e.pins = { d.pins with above := true } ∧
    (d.sys.state ≠ .start ∨ d.sys.step ≠ 1 → OnlyParts [.pins] d e) ∧
    (d.sys.state = .start ∧ d.sys.step = 1 ∧ d.sys.kind = 0 ∧ d.pins.supplies ∧ d.pins.vaux ∧ d.pins.resetLow = false ∧
      d.pins.extractLow = false ∧ d.hsw.extBleed = false →
      e.sys.step = (if d.tb.running && d.tb.lock then 3 else 2))) ∧
  (∀ t, Does (.extractRelease t) (fun _ => True) fun d e =>
    e.pins = { d.pins with extractLow := false } ∧
    (d.sys.state ≠ .start ∨ d.sys.step ≠ 1 → OnlyParts [.pins] d e) ∧
    (d.sys.state = .start ∧ d.sys.step = 1 ∧ d.sys.kind = 0 ∧ d.pins.supplies ∧ d.pins.vaux ∧ d.pins.resetLow = false ∧
      d.pins.above ∧ d.hsw.extBleed = false → e.sys.step = (if d.tb.running && d.tb.lock then 3 else 2))) ∧
  (∀ t low, Does (.pfltEdge t low) (fun d => d.pair.pfltLowAt.isSome ≠ low ∧ (d.sys.state ≠ .start ∨ d.sys.step ≠ 6)) fun d e =>
    e.pair.pfltLowAt = (if low then some d.now else none) ∧ OnlyParts [.pair] d e) ∧
  (∀ t level, Does (.trigEdge t level) (fun d => d.pins.trig ≠ level) fun d e =>
    e.pins = { d.pins with trig := level } ∧
    (d.regs.act.MEAS_SARCFG_EDGE ≠ 2 ∧ d.regs.act.MEAS_SARCFG_EDGE ≠ (if level then 0 else 1) → OnlyParts [.pins] d e))

/-- R36, R15, R25, R279, R292, R457: the input is lost. The device leaves RUN, STANDBY, IDLE or a step of a start for step 1 of
START, the gate that was closed is off, and an extraction drops IBC_EN and sends the gate-off command, which with a closed gate
and no ticks waits for them (R15). With HSW_BLEED.EN at 0 it ends a bleed too. The model's own readings behind it: log entries 40
and 41.
Each clause concludes that `exec` answers a next state (`Does`, `Completes`: Safety.lean). -/
def Obligations.LosingTheInputReturnsToStepOne : Prop :=
  (∀ t, Does (.supervisorFall t) (fun d => d.pins.above = true ∧ d.sys.state ≠ .halt) fun d e =>
    e.pins = { d.pins with above := false } ∧ e.sys.state = .start ∧ e.sys.step = 1 ∧
    (d.hsw.state = .arm ∨ d.hsw.state = .ramp ∨ d.hsw.state = .on → e.hsw.state = .off) ∧
    OnlyParts [.regs, .pins, .sys, .tb, .lanes, .stalls, .yards, .laws, .bals, .lawUnits, .balUnits, .rails, .prot, .ret, .hsw, .meas,
      .loft, .evt, .acc, .mgmt, .pair, .dom] d e) ∧
  (∀ t, Does (.vbusHvBelowPowerOn t) (fun d => d.pins.above = true ∧ d.sys.state ≠ .halt) fun d e =>
    e.pins = { d.pins with above := false, vbusHv := false } ∧ e.sys.state = .start ∧ e.sys.step = 1 ∧
    (d.hsw.state ≠ .bleed → e.hsw.state ≠ .on ∧ e.hsw.state ≠ .bleed) ∧ e.hsw.offCmd = none) ∧
  (∀ t, Does (.extractAssert t) (fun d => d.pins.extractLow = false ∧ d.sys.state ≠ .halt ∧ d.sys.state ≠ .idle ∧
      (d.hsw.tickLost = false ∨ d.hsw.closed = false)) fun d e =>
    e.pins = { d.pins with extractLow := true } ∧ e.sys.state = .start ∧ e.sys.step = 1 ∧ e.hsw.ibcEn = false ∧
    e.hsw.offCmd = (if d.hsw.state = .bleed ∧ e.regs.act.HSW_BLEED_EN = 1 then none else some d.now) ∧
    e.hsw.state = (if d.hsw.state = .wait ∨ d.hsw.state = .latched ∨ d.hsw.state = .bleed then d.hsw.state else .off)) ∧
  (∀ t, Does (.extractAssert t) (fun d => d.pins.extractLow = false ∧ d.sys.state ≠ .halt ∧ d.sys.state ≠ .idle ∧
      d.hsw.tickLost = true ∧ d.hsw.closed = true) fun d e =>
    e.pins = { d.pins with extractLow := true } ∧ e.sys.state = .start ∧ e.sys.step = 1 ∧ e.hsw.ibcEn = false ∧
    e.hsw.extCmd = true ∧ e.hsw.state = d.hsw.state)

/-- R37, R72, R73, R410: a measurement of SYNC_IN that names a MULT locks a device that waits for nothing else at timebase
time 0 and ends step 2; one that waits for TIME keeps MULT, and without a TIME in the 100 ms that follow the first SYNC_IN edge it
locks at time 0; without a lock the device enters HALT with FAIL_STEP 2.
The model's own readings behind it: log entries 10, 54, 56, 71 and 96.
Each clause concludes that `exec` answers a next state (`Does`, `Completes`: Safety.lean). -/
def Obligations.LockEndsStepTwoOrItFails : Prop :=
  (∀ t hz k, Does (.timebaseLock t hz) (fun d => multOf hz = some k ∧ d.locking = true ∧ d.tb.mult = 0 ∧ d.waitsTime = false)
    fun d e => e.tb = { d.tb with mult := k, running := true, lock := true, offset := -(d.tb.wall : Int) } ∧ e.now = 0 ∧
      e.sys.state = .start ∧ e.sys.step = 3 ∧ e.dom = { d.dom with aligned := true } ∧
      OnlyParts [.tb, .sys, .dom, .hsw, .pair, .prot, .meas, .acc] d e) ∧
  (∀ t hz k, Does (.timebaseLock t hz) (fun d => multOf hz = some k ∧ d.locking = true ∧ d.tb.mult = 0 ∧ d.waitsTime = true)
    fun d e => e.tb = { d.tb with mult := k, multAt := d.tb.wall } ∧ e.sys.step = 2 ∧ OnlyParts [.tb] d e) ∧
  (∀ t, Does (.timeWaitTimeout t) (fun d => d.locking = true ∧ d.tb.mult ≠ 0 ∧ d.tb.timeGot = none ∧
      d.tb.multAt - 64 * 16 * d.tb.mult + 100 * msEu ≤ d.tb.wall)
    fun d e => e.tb = { d.tb with running := true, lock := true, offset := -(d.tb.wall : Int) } ∧ e.now = 0 ∧
      e.sys.step = 3 ∧ e.dom = { d.dom with aligned := false } ∧ OnlyParts [.tb, .sys, .dom, .hsw, .pair, .prot, .meas, .acc] d e) ∧
  (∀ t, Does (.timebaseLockTimeout t) (fun d => d.sys.state = .start ∧ d.sys.step = 2 ∧ d.tb.lock = false ∧
      d.sys.stepAt + 400 * msEu ≤ d.tb.wall)
    fun d e => e.sys.state = .halt ∧ fld (e.stat aSYS_STARTLOG) 31 28 = 2 ∧ Logs [0x1002] d e ∧
      OnlyParts [.sys, .regs, .prot, .evt] d e)

/-- R75, R76: holdover begins and is logged; when it outlasts HOLDOVER_MAX the loss is flagged; SYNC_IN back within range
starts a slew, and at a phase error below one coarse step the timebase is locked again.
The model's own readings behind it: log entries 55, 56 and 75.
Each clause concludes that `exec` answers a next state (`Does`, `Completes`: Safety.lean). -/
def Obligations.HoldoverRunsFromLossToRestoredLock : Prop :=
  (∀ t, Does (.holdoverEntry t) (fun d => d.tb.running = true ∧ d.tb.holdover = false) fun d e =>
    e.tb = { d.tb with holdover := true, lock := false, slewing := false, slewBy := 0,
                       holdAt := if d.tb.lock then d.now else d.tb.holdAt } ∧
    Logs [0x200B] d e ∧ OnlyParts [.tb, .regs, .evt] d e) ∧
  (∀ t, Does (.syncHoldoverExpired t) (fun d => d.tb.holdover = true ∧ d.tb.lossFault = false ∧
      d.tb.holdAt + atLeast1 d.regs.act.TB_CFG_HOLDOVER_MAX * msEu < d.now ∧ d.regs.act.TB_CFG_LOSS_ACTION = 0) fun d e =>
    e.tb = { d.tb with lossFault := true } ∧ Logs [0x100A] d e ∧ OnlyParts [.tb, .regs, .evt] d e) ∧
  (∀ t, Does (.syncHoldoverExpired t) (fun d => d.tb.holdover = true ∧ d.tb.lossFault = false ∧
      d.tb.holdAt + atLeast1 d.regs.act.TB_CFG_HOLDOVER_MAX * msEu < d.now ∧ d.regs.act.TB_CFG_LOSS_ACTION = 1) fun d e =>
    e.tb = { d.tb with lossFault := true } ∧
    OnlyParts [.regs, .tb, .lanes, .stalls, .yards, .laws, .bals, .lawUnits, .balUnits, .rails, .prot, .meas, .evt, .mgmt, .pair] d e) ∧
  (∀ t phase, Does (.syncReturn t phase) (fun d => d.tb.holdover = true) fun d e =>
    e.tb = { d.tb with holdover := false, slewing := true, phErr := phase, slewAt := d.tb.wall, slewBase := d.tb.offset,
                       slewBy := -phase } ∧
    e.now = d.now ∧ OnlyParts [.tb] d e) ∧
  (∀ t, Does (.syncRestored t) (fun d => d.tb.slewing = true ∧ d.tb.phErr.natAbs < 16) fun d e =>
    e.tb = { d.tb with slewing := false, slewBy := 0, lock := true, lossFault := false } ∧
    OnlyParts [.tb, .regs, .sys, .lanes, .stalls, .rails, .evt, .acc, .pair] d e)

/-- R62, R64, R107, R352, R427: RUN goes to IDLE after the dwell and every UP lane is parked; a wake's retraining returns the
device to RUN, once the lanes that are PARKED still complete phase 6 and are UP, or 10 µs after the wake, and then none is PARKED; the operating-time counter is written ahead; an EN edge is taken.
The model's own readings behind it: log entry 57.
Each clause concludes that `exec` answers a next state (`Does`, `Completes`: Safety.lean). -/
def Obligations.IdleWakeAndEnablePins : Prop :=
  (∀ t t0, Does (.idleEntry t) (fun d => d.sys.idleSince = some t0 ∧ d.idleOk = true ∧
      t0 + atLeast1 d.regs.act.SYS_IDLECFG_DWELL * 100 * usEu ≤ d.now) fun d e =>
    e.sys.state = .idle ∧ e.sys.wakeAt = none ∧
    (∀ l, l < 32 → (d.lane l).state = .up → (e.lane l).state = .parked) ∧
    OnlyParts [.regs, .sys, .lanes, .stalls, .yards, .lawUnits, .balUnits, .hsw, .loft, .evt, .pair] d e) ∧
  (∀ t w m, Does (.wakeRetrainComplete t m) (fun d => d.sys.state = .idle ∧ d.sys.wakeAt = some w ∧
      ((∀ l ∈ List.range 32, (d.lane l).state = .parked → (d.lane l).phase = 6 ∧ m.testBit l = true) ∨ w + 10 * usEu < d.now)) fun d e =>
    e.sys.state = .run ∧ e.sys.wakeAt = none ∧ (∀ l, l < 32 → (e.lane l).state ≠ .parked) ∧
    (d.now ≤ w + 10 * usEu → ∀ l, l < 32 → (d.lane l).state = .parked → (e.lane l).state = .up) ∧
    OnlyParts [.regs, .sys, .lanes, .stalls, .yards, .laws, .bals, .lawUnits, .balUnits, .rails, .prot, .meas, .evt, .mgmt, .pair] d e) ∧
  (∀ t, Does (.operatingTimeFlush t) (fun d => d.loft.countersRead = true ∧
      d.loft.opFlushed + atLeast1 d.regs.act.LOFT_CFG_OPFLUSH * secEu ≤ d.now) fun d e =>
    e.loft.opFlushed = d.now ∧
    (d.loft.busy = true ∧ d.evt.cur.isSome = true → e.loft.jobs = d.loft.jobs ++
      [{ prio := 2, tag := .counter, begun := false, steps := [],
         req := .counter 514 ((d.opTime + atLeast1 d.regs.act.LOFT_CFG_OPFLUSH * 1000) % 2 ^ 48) }]) ∧
    OnlyParts [.loft] d e) ∧
  (∀ t n level, Does (.enPinEdge t n level) (fun d => n < 8 ∧ d.pins.en.testBit n ≠ level) fun d e =>
    e.pins = { d.pins with en := if level then d.pins.en + 2 ^ n else d.pins.en - 2 ^ n } ∧
    OnlyParts [.regs, .pins, .sys, .lanes, .stalls, .yards, .laws, .bals, .lawUnits, .balUnits, .rails, .prot, .meas, .evt, .mgmt,
      .pair] d e)

/-- R38, R39, R40, R41: the loft steps of a cold start. Step 3 chooses an image and goes on to step 4, or fails into HALT where
the loft does not answer; step 4, with the port answering, says which paths have a certificate; step 5 takes the key area and goes on
to step 6, or fails into HALT where no key area verifies or the loft does not answer.
The model's own readings behind it: log entries 3, 43, 44 and 116.
Each clause concludes that `exec` answers a next state (`Does`, `Completes`: Safety.lean). -/
def Obligations.LoftStepsOfAColdStart : Prop :=
  (∀ t s copyB i tie, let d := s.seen (.loftIntegrityScan t)
    d.inStep 3 = true ∧ d.loft.portOk = true ∧ ((d.scanLoft s.array).loft.winner .identity).isSome = true ∧
      pickImage ((d.scanLoft s.array).loft.image s.array false) ((d.scanLoft s.array).loft.image s.array true) =
        (some (copyB, i), tie) →
    Completes (.loftIntegrityScan t) s fun d e => e.sys.state = .start ∧ e.sys.step = 4 ∧ e.sys.imageB = copyB ∧
      e.sys.imageSeq = i.seq ∧ OnlyParts [.regs, .sys, .tb, .stalls, .yards, .laws, .rails, .prot, .hsw, .loft, .evt, .dom] d e) ∧
  (∀ t, Does (.loftIntegrityScan t) (fun d => d.inStep 3 = true ∧ d.loft.portOk = false) fun d e =>
    e.sys.state = .halt ∧ Logs [0x1002] d e ∧ OnlyParts [.regs, .sys, .prot, .evt] d e) ∧
  (∀ t s, (s.seen (.calibrationCertificateLoad t)).inStep 4 = true ∧ (s.seen (.calibrationCertificateLoad t)).loft.portOk = true →
    Completes (.calibrationCertificateLoad t) s fun d e => e.sys.state = .start ∧ e.sys.step = 5 ∧ e.hsw.calPending = 0 ∧
      (∀ p, p < 4 → e.hsw.calValid.testBit p = (d.certOf s.array p).isSome) ∧
      OnlyParts [.regs, .sys, .hsw, .loft, .evt] d e) ∧
  (∀ t s k, let d := s.seen (.identityAndKeyCheck t)
    d.inStep 5 = true ∧ d.loft.portOk = true ∧ d.keyPayload s.array = some k ∧ numAt (d.loft.identity s.array) 0 8 = d.fuseSerial ∧
      ((d.loft.image s.array d.sys.imageB).any fun i => d.bindingOk i.header) = true ∧ d.inPair = false →
    Completes (.identityAndKeyCheck t) s fun d e => e.sys.state = .start ∧ e.sys.step = 6 ∧ e.acc.key = keyOf k ∧
      OnlyParts [.regs, .sys, .lanes, .loft, .evt, .acc, .pair] d e) ∧
  (∀ t s, (s.seen (.identityAndKeyCheck t)).inStep 5 = true ∧ ((s.seen (.identityAndKeyCheck t)).loft.portOk = false ∨
      (s.seen (.identityAndKeyCheck t)).keyPayload s.array = none) →
    Completes (.identityAndKeyCheck t) s fun d e => e.sys.state = .halt ∧ Logs [0x1002] d e ∧
      OnlyParts [.regs, .sys, .prot, .loft, .evt] d e)

/-- R42, R43, R47, R48, R25, R379, R389: the later steps. A member alone becomes primary when its wait ends; the census ends step 6;
step 7 ends with its probes and step 8 begins; too many units that fail step 9 end in HALT, and otherwise step 10 follows a
cold start and RUN a warm one; step 10 carries out item 2 with the latches written, the archive copies due with
it, and once all of it is written ends in RUN and lets the recorder write.
The model's own readings behind it: log entries 37, 38, 39 and 116.
Each clause concludes that `exec` answers a next state (`Does`, `Completes`: Safety.lean). -/
def Obligations.LaterStepsOfAStartReachRun : Prop :=
  (∀ t t0, Does (.negWaitExpiry t) (fun d => d.awaitsRole = true ∧ d.pair.pfltLowAt = some t0 ∧
      d.silent = true ∧ max t0 d.pair.negAt + d.negWait ≤ d.now) fun d e =>
    e.pair.primary = true ∧ e.pair.alone = true ∧ e.pair.settled = true ∧ e.pair.owner = true ∧ e.sys.step = 6 ∧
    OnlyParts [.sys, .lanes, .pair] d e) ∧
  (∀ t, Does (.stallCensus t) (fun d => d.inStep 6 = true ∧ d.awaitsRole = false ∧ d.lanesSettled = true ∧ d.isStandby = false)
    fun d e => e.sys.state = .start ∧ e.sys.step = 7 ∧ e.pair.authority = d.inPair ∧
      OnlyParts [.regs, .sys, .lanes, .stalls, .yards, .laws, .bals, .lawUnits, .balUnits, .rails, .prot, .meas, .hsw, .loft, .evt,
        .acc, .mgmt, .pair] d e) ∧
  (∀ t, Does (.preStartProbes t) (fun d => d.inStep 7 = true ∧ d.probesOver = true) fun d e =>
    e.sys.state = .start ∧ (e.sys.step = 8 ∨ e.sys.step = 9) ∧
    (d.drivesGate = true ∧ d.hsw.state = .on ∧ d.hsw.pendTrip = 0 →
      e.sys.step = 9 ∧ e.hsw = { d.hsw with ibcEn := true, ibcFall := none }) ∧
    (d.hsw.pendTrip = 0 ∧ d.hsw.pendOn = false → OnlyParts [.regs, .sys, .hsw, .loft, .evt] d e)) ∧
  (∀ t failLaw failBal, Does (.lawUnitSelfTest t failLaw failBal) (fun d => d.inStep 9 = true ∧
      (maskList 10 failLaw).length ≤ 2 ∧ (maskList 3 failBal).length ≤ 1 ∧ d.sys.kind = 0) fun d e =>
    e.sys.state = .start ∧ e.sys.step = 10 ∧ e.lawUnits = serveUnits 8 failLaw d.lawUnits ∧
    e.balUnits = serveUnits 2 failBal d.balUnits ∧ OnlyParts [.regs, .sys, .lawUnits, .balUnits] d e) ∧
  (∀ t failLaw failBal, Does (.lawUnitSelfTest t failLaw failBal) (fun d => d.inStep 9 = true ∧
      (maskList 10 failLaw).length ≤ 2 ∧ (maskList 3 failBal).length ≤ 1 ∧ d.sys.kind ≠ 0) fun d e =>
    e.sys.state = (if d.isStandby then .standby else .run) ∧ e.sys.step = 0 ∧
    e.lawUnits = serveUnits 8 failLaw d.lawUnits ∧ e.balUnits = serveUnits 2 failBal d.balUnits ∧
    OnlyParts [.regs, .sys, .lanes, .stalls, .lawUnits, .balUnits, .rails, .evt, .pair] d e) ∧
  (∀ t failLaw failBal, Does (.lawUnitSelfTest t failLaw failBal) (fun d => d.inStep 9 = true ∧
      (2 < (maskList 10 failLaw).length ∨ 1 < (maskList 3 failBal).length)) fun d e =>
    e.sys.state = .halt ∧ OnlyParts [.regs, .sys, .lawUnits, .balUnits, .prot, .evt] d e) ∧
  (∀ t, Does (.loftTailRecovery t) (fun d => d.inStep 10 = true ∧ d.tailReady = true) fun d e =>
    e.sys.state = (if d.isStandby then .standby else .run) ∧ e.sys.step = 0 ∧ e.evt.released = true ∧
    OnlyParts [.regs, .sys, .lanes, .stalls, .rails, .hsw, .loft, .evt, .pair] d e) ∧
  (∀ t s, let d := s.seen (.loftTailRecovery t)
    d.inStep 10 = true ∧ d.sys.tail = false ∧ d.tailIdle = true ∧ d.prot.archBusy = false →
    Completes (.loftTailRecovery t) s fun d e => e.sys.state = .start ∧ e.sys.step = 10 ∧ e.sys.tail = true ∧
      e.prot.archQueue = d.archDue s.array ∧ OnlyParts [.regs, .sys, .prot, .loft] d e)

/-- R27, R44, R49, R54, R56, R57, R59, R252: how a rail leaves PROBE, ends its window search, takes and gives up its slots, and comes
out of HICCUP, with its start-class fields taken before it (R57).
The model's own readings behind it: log entries 31, 33, 71 and 74.
Each clause concludes that `exec` answers a next state (`Does`, `Completes`: Safety.lean). -/
def Obligations.RailsProbeRampAndReturn : Prop :=
  (∀ t n, Does (.railProbe t n) (fun d => d.isStandby = false ∧ (d.rail n).state = .probe ∧ d.probesDone n = true ∧
      d.tooFew n = false ∧ ((d.followersOf n).any fun f => (d.rail f).state = .probe) = false ∧ d.wantsOn n = true ∧
      d.leaderLost n = false ∧ d.inputGood = true) fun d e =>
    (e.rail n).state = .ramp ∧ (e.rail n).rdest = (d.rail n).dest ∧ (e.rail n).searched = false ∧
    OnlyParts [.regs, .lanes, .stalls, .yards, .laws, .rails, .evt] d e) ∧
  (∀ t n convs code, Does (.windowSearch t n convs) (fun d => d.isStandby = false ∧ (d.rail n).state = .ramp ∧
      (d.rail n).searched = false ∧ searchWindows convs 128 0 0 0 = some (some code)) fun d e =>
    (e.rail n).searched = true ∧ (e.rail n).startCode = code ∧ (e.rail n).state = .ramp ∧
    (e.rail n).pos = 256 * min (d.rail n).rdest code ∧ (∀ k, k ≠ n → e.rail k = d.rail k) ∧ OnlyParts [.rails] d e) ∧
  (∀ t n convs, Does (.windowSearch t n convs) (fun d => d.isStandby = false ∧ (d.rail n).state = .ramp ∧
      (d.rail n).searched = false ∧ searchWindows convs 128 0 0 0 = some none ∧ d.tooFew n = false ∧ d.holdoverMet = false)
    fun d e =>
    ((e.rail n).state = .hiccup ∨ (e.rail n).state = .latched) ∧ (e.rail n).cause = 4) ∧
  (∀ t n t0, Does (.sequenceSlotDelay t n) (fun d => n < 8 ∧ d.isStandby = false ∧ (d.rail n).seqDue = some t0 ∧ t0 ≤ d.now ∧
      (d.rail n).seqMask = 0) fun d e =>
    (e.rail n).seqDue = none ∧
    ((d.onRail n fun r => { r with seqDue := none }).mayLeave n = true → (e.rail n).state = .probe) ∧
    OnlyParts [.regs, .lanes, .stalls, .rails, .evt] d e) ∧
  (∀ t n t0, Does (.stopSlotDelay t n) (fun d => d.isStandby = false ∧ (d.rail n).stopDue = some t0 ∧ t0 ≤ d.now ∧
      d.wantsOn n = false ∧ (d.rail n).state = .reg ∧ (d.rail n).fired = true ∧ d.causesNow n = []) fun d e =>
    (e.rail n).state = .stop ∧ (e.rail n).cause = 1) ∧
  (∀ t n, Does (.hiccupTimeExpiry t n) (fun d => n < 8 ∧ d.isStandby = false ∧ (d.rail n).state = .hiccup ∧
      (d.rail n).hicOver = false ∧ (d.rail n).hicEnd ≤ d.now ∧ d.wantsOn n = true ∧ (d.beginWarmRail n).released n = false)
    fun d e =>
    e.rails = modAt d.rails n (fun r =>
      { r with untracked := (d.takeStart (railStartFields n)).cannotTrack n, hicOver := true }) ∧
    OnlyParts [.regs, .sys, .rails, .evt] d e) ∧
  (∀ t n, Does (.hiccupTimeExpiry t n) (fun d => n < 8 ∧ d.isStandby = false ∧ (d.rail n).state = .hiccup ∧
      (d.rail n).hicOver = false ∧ (d.rail n).hicEnd ≤ d.now ∧ d.wantsOn n = true ∧ (d.beginWarmRail n).released n = true ∧
      (d.beginWarmRail n).wantsOn n = true) fun d e =>
    (e.rail n).state = .probe ∧ (e.rail n).retries = (d.rail n).retries ∧
    OnlyParts [.regs, .sys, .lanes, .stalls, .rails, .evt] d e) ∧
  (∀ t n, Does (.railWarmStart t n) (fun d => d.isStandby = false ∧ (d.rail n).state = .hiccup ∧ (d.rail n).hicOver = true ∧
      d.released n = true ∧ d.wantsOn n = true) fun d e =>
    (e.rail n).state = .probe ∧ (e.rail n).hicOver = false ∧ OnlyParts [.regs, .lanes, .stalls, .rails, .evt] d e)

/-- R156, R154: at a rail-sample boundary a rail in REG closes its sample, latches the inputs of a new law job due at the next
boundary, and opens a new sample; at any other instant the command finds no boundary and changes nothing.
The model's own readings behind it: log entries 25 and 29.
Each clause concludes that `exec` answers a next state (`Does`, `Completes`: Safety.lean). -/
def Obligations.SampleBoundaryQueuesALawJob : Prop :=
  (∀ t n track, Does (.railSampleBoundary t n track) (fun d => n < 8 ∧ d.rails.length = 8 ∧ d.laws.length = 8 ∧
      d.tb.running = true ∧ d.now % d.p n = 0 ∧ d.isStandby = false ∧ (d.rail n).state = .reg) fun d e =>
    (e.law n).job.map (fun j => (j.inp.ec, j.inp.satErr, j.deadline, j.phase, j.result)) =
      some ((d.rail n).ec, (d.rail n).sat, d.now + e.p n, .pending, none) ∧
    (e.rail n).csum = (d.rail n).sum ∧ (e.rail n).cn = (d.rail n).n ∧ (e.rail n).sum = 0 ∧ (e.rail n).n = 0 ∧
    (e.rail n).state = .reg ∧
    OnlyParts [.regs, .sys, .lanes, .stalls, .yards, .laws, .bals, .lawUnits, .balUnits, .rails, .prot, .meas, .loft, .evt,
      .mgmt, .pair] d e) ∧
  (∀ t n track, Does (.railSampleBoundary t n track) (fun d => d.tb.running = true ∧ d.now % d.p n ≠ 0) fun d e =>
    OnlyParts [] d e)

/-- R160, R161, R165, R177, R125, R127: a waiting law job is dispatched to a free unit, an evaluation in time delivers its result
to the latch and frees the unit, and a unit still busy 8 µs after dispatch is hung; a waiting balance job is dispatched to a free
balance unit, and its completion frees the unit and, in time, ends the job, with a trim for each
stall that conducts still. The model's own readings behind it: log entries 21 and 100.
Each clause concludes that `exec` answers a next state (`Does`, `Completes`: Safety.lean). -/
def Obligations.LawAndBalanceJobsRunThroughTheirUnits : Prop :=
  (∀ t n u, Does (.lawJobDispatch t) (fun d => d.isStandby = false ∧ freeUnit d.lawUnits = some u ∧
      earliest (d.laws.zipIdx.filterMap fun x => match x.1.job with
        | some j => if j.phase = .pending then some (x.2, j.deadline) else none
        | none => none) = some n) fun d e =>
    (e.law n).job = (d.law n).job.map (fun j => { j with phase := .running u }) ∧
    (e.lawUnit u).running = some (n, d.now) ∧ (∀ k, k ≠ n → e.law k = d.law k) ∧ (∀ k, k ≠ u → e.lawUnit k = d.lawUnit k) ∧
    OnlyParts [.regs, .laws, .lawUnits] d e) ∧
  (∀ t u n t0 j, Does (.lawJobComplete t u) (fun d => d.isStandby = false ∧ (d.lawUnit u).running = some (n, t0) ∧
      (d.lawUnit u).dropped = false ∧ (d.law n).job = some j ∧ j.phase = .running u ∧ d.now ≤ j.deadline) fun d e =>
    (e.law n).job = some { j with phase := .complete, result := some (lawEval (d.law n).st j.inp) } ∧
    (e.lawUnit u).running = none ∧ (e.lawUnit u).freeAt = d.now ∧ (∀ k, k ≠ n → e.law k = d.law k) ∧
    OnlyParts [.regs, .yards, .laws, .lawUnits, .evt] d e) ∧
  (∀ t u n t0, Does (.lawUnitHung t u) (fun d => d.isStandby = false ∧ (d.lawUnit u).running = some (n, t0) ∧
      (d.lawUnit u).hung = false ∧ t0 + 8 * usEu ≤ d.now) fun d e =>
    (e.lawUnit u).hung = true ∧ OnlyParts [.regs, .yards, .lawUnits, .evt] d e) ∧
  (∀ t n u, Does (.balanceJobDispatch t) (fun d => d.isStandby = false ∧ freeUnit d.balUnits = some u ∧
      earliest (d.bals.zipIdx.filterMap fun x => match x.1 with
        | some j => if j.phase = .pending then some (x.2, j.deadline) else none
        | none => none) = some n) fun d e =>
    e.bals.getD n none = (d.bals.getD n none).map (fun j => { j with phase := .running u }) ∧
    (e.balUnit u).running = some (n, d.now) ∧ (∀ k, k ≠ u → e.balUnit k = d.balUnit k) ∧ OnlyParts [.bals, .balUnits] d e) ∧
  (∀ t u n t0 j, Does (.balanceJobComplete t u) (fun d => d.isStandby = false ∧ (d.balUnit u).running = some (n, t0) ∧
      (d.balUnit u).dropped = false ∧ d.bals.getD n none = some j ∧ j.phase = .running u ∧ d.now ≤ j.deadline) fun d e =>
    e.bals = d.bals.set n none ∧ (e.balUnit u).running = none ∧ (e.balUnit u).freeAt = d.now ∧
    (∀ s, s < d.stalls.length → (e.stall s).trim =
      (if (d.stall s).state = .conducting ∧ (d.stall s).entered ≤ j.since then
        (j.trims.filter fun x => x.1 = s).getLast?.elim (d.stall s).trim (·.2) else (d.stall s).trim)) ∧
    OnlyParts [.regs, .stalls, .yards, .bals, .balUnits, .evt] d e)

/-- R97, R123, R98, R101: a due EDGE frame whose slot meets the bound is sent and remembered, a late one is counted as dropped, a
stop frame that is owed leaves once its period's on-time has passed, and an UP lane's HOLD carries the lane time of its slot.
The model's own readings behind it: log entry 36.
Each clause concludes that `exec` answers a next state (`Does`, `Completes`: Safety.lean). -/
def Obligations.FramesLeaveForTheStages : Prop :=
  (∀ t s start n, Does (.edgeFrameSend t s start) (fun d => d.isStandby = false ∧ s < d.stalls.length ∧
      (List.range 8).find? (fun k => d.edgeDue k s start) = some n ∧ (d.lane (s / 16)).tx = [] ∧
      512 * fitSlot 3 (slotAt (max (start - d.lead) d.now)) ≤ max 1 (edgeBound start (s % 16))) fun d e =>
    (e.stall s).edges.head?.map (·.start) = some start ∧ (e.stall s).started = true ∧ (e.rail n).fired = true ∧
    (e.lane (s / 16)).tx.map (fun g => (g.slot, bfld g.body 63 60, bfld g.body 59 55)) =
      [(fitSlot 3 (slotAt (max (start - d.lead) d.now)), 1, s % 16)] ∧
    OnlyParts [.regs, .lanes, .stalls, .rails] d e) ∧
  (∀ t s start n, Does (.edgeFrameDiscard t s start) (fun d => d.isStandby = false ∧ s < d.stalls.length ∧
      edgeBound start (s % 16) < d.now ∧ (List.range 8).find? (fun k => d.edgeDue k s start) = some n ∧
      (d.lane (s / 16)).tx = []) fun d e =>
    e.regs.cnt.rd (aLANE_EDGEDROP (s / 16)) = d.regs.cnt.rd (aLANE_EDGEDROP (s / 16)) + 1 ∧
    e.regs.act = d.regs.act ∧ e.regs.hold = d.regs.hold ∧ e.regs.stat = d.regs.stat ∧
    (e.stall s).nextFrom = start + (d.viewAt n start).tp n ∧ (e.stall s).edges = (d.stall s).edges ∧
    (∀ k, k ≠ s → e.stall k = d.stall k) ∧ OnlyParts [.regs, .stalls] d e) ∧
  (∀ t s x, Does (.stopFrameSend t s) (fun d => d.isStandby = false ∧ (d.stall s).stopDue = true ∧
      (d.stall s).edges.head? = some x ∧ x.start + x.on ≤ d.now ∧ d.laneUp (s / 16) = true) fun d e =>
    (e.stall s).stopDue = false ∧ (∀ k, k / 16 ≠ s / 16 → e.stall k = d.stall k) ∧
    ((e.lane (s / 16)).tx.any fun g => g.body = cutBody (2 ^ (s % 16)) 0 false 0) = true ∧
    (∀ l, l ≠ s / 16 → e.lane l = d.lane l) ∧ OnlyParts [.regs, .lanes, .stalls, .rails] d e) ∧
  (∀ t l, Does (.holdSend t l) (fun d => d.tb.running = true ∧ (d.lane l).holds? = true ∧ d.now % 2 ^ 32 % 51200 = 0 ∧
      (d.lane l).tx = []) fun d e =>
    (e.lane l).tx = [⟨fitSlot 4 (slotAt d.now), 4, holdBody (512 * fitSlot 4 (slotAt d.now)), 8, 0, false⟩] ∧
    (∀ k, k ≠ l → e.lane k = d.lane k) ∧ OnlyParts [.regs, .lanes] d e)

/-- R84, R92, R93, R260, R474: frames from an UP lane's stages. A TELEM's fields become the stall's; a body whose CRC fails is only
counted; a probe's clean answer settles its request, and a spare that gave it is
available; a CFG_ACK that matches settles its request and a CFG_NAK leaves it
owed; a fault change that fails nothing leaves the flags, and a standby only notes them.
The model's own readings behind it: log entries 36 and 37. -/
def Obligations.FramesFromTheStagesAreTaken : Prop :=
  (∀ t l b, Does (.telemReceive t l b) (fun d => l < 32 ∧ (d.lane l).state = .up ∧ bodyOk b = true ∧ bfld b 63 60 = 8 ∧
      bfld b 59 55 < 16 ∧ 16 * l + bfld b 59 55 < d.stalls.length) fun d e =>
    (e.stall (16 * l + bfld b 59 55)).telemAt = some d.now ∧
    (e.stall (16 * l + bfld b 59 55)).cur = signed 12 (bfld b 54 43) ∧
    (e.stall (16 * l + bfld b 59 55)).temp = bfld b 42 35 ∧ (e.stall (16 * l + bfld b 59 55)).ptag = bfld b 34 27 ∧
    (e.stall (16 * l + bfld b 59 55)).lim = (bfld b 26 26 = 1) ∧ (e.stall (16 * l + bfld b 59 55)).nlim = (bfld b 25 25 = 1) ∧
    (e.stall (16 * l + bfld b 59 55)).otw = (bfld b 24 24 = 1) ∧ (e.stall (16 * l + bfld b 59 55)).flt = (bfld b 23 23 = 1) ∧
    (e.stall (16 * l + bfld b 59 55)).late = (bfld b 22 22 = 1) ∧
    (e.stall (16 * l + bfld b 59 55)).crcDrop = (bfld b 21 21 = 1) ∧
    (∀ k, k ≠ 16 * l + bfld b 59 55 → e.stall k = d.stall k) ∧ OnlyParts [.regs, .stalls, .evt, .mgmt] d e) ∧
  (∀ t l b, Does (.telemReceive t l b) (fun d => l < 32 ∧ (d.lane l).state = .up ∧ bodyOk b = false) fun d e =>
    e.regs.cnt.rd (aLANE_CRCERR l) = d.regs.cnt.rd (aLANE_CRCERR l) + 1 ∧ OnlyParts [.regs] d e) ∧
  (∀ t l b a, Does (.probeAnswer t l b) (fun d => l < 32 ∧ (d.lane l).state = .up ∧ bodyOk b = true ∧ bfld b 63 60 = 9 ∧
      bfld b 59 55 < 16 ∧ bfld b 54 51 = 0 ∧ bfld b 50 43 = 0 ∧
      (d.lane l).owed d.now (bfld b 59 55) AskKind.isProbe = some a ∧ a.kind = .probe 0 ∧
      (d.stall (16 * l + bfld b 59 55)).returning ≠ 1 ∧ d.railOf (16 * l + bfld b 59 55) = none) fun d e =>
    e.lanes = modAt d.lanes l (fun x => { x with asks := x.asks.erase a }) ∧
    e.stalls = modAt d.stalls (16 * l + bfld b 59 55) (fun x => { x with probeOk := true }) ∧
    OnlyParts [.regs, .lanes, .stalls] d e) ∧
  (∀ t l b a, Does (.probeAnswer t l b) (fun d => l < 32 ∧ (d.lane l).state = .up ∧ bodyOk b = true ∧ bfld b 63 60 = 9 ∧
      bfld b 59 55 < 16 ∧ bfld b 54 51 = 0 ∧ bfld b 50 43 ≠ 0 ∧
      (d.lane l).owed d.now (bfld b 59 55) AskKind.isProbe = some a) fun d e => OnlyParts [.regs] d e) ∧
  (∀ t l b a, Does (.cfgAck t l b) (fun d => l < 32 ∧ (d.lane l).state = .up ∧ bodyOk b = true ∧ bfld b 63 60 = 9 ∧
      bfld b 59 55 < 16 ∧ bfld b 54 51 = 1 ∧ (d.lane l).owed d.now (bfld b 59 55) (AskKind.acked b) = some a) fun d e =>
    e.lanes = modAt d.lanes l (fun x => { x with asks := x.asks.erase a }) ∧
    e.pair.checkMiss = (if a.tries = 0 then d.pair.checkMiss.set l 0 else d.pair.checkMiss) ∧
    OnlyParts [.regs, .lanes, .pair] d e) ∧
  (∀ t l b, Does (.cfgNak t l b) (fun d => l < 32 ∧ (d.lane l).state = .up ∧ bodyOk b = true ∧ bfld b 63 60 = 9 ∧
      bfld b 59 55 < 16 ∧ bfld b 54 51 = 2) fun d e =>
    e.regs.cnt.rd (aLANE_RXFR l) = d.regs.cnt.rd (aLANE_RXFR l) + 1 ∧ OnlyParts [.regs] d e) ∧
  (∀ t l b, Does (.faultChange t l b) (fun d => l < 32 ∧ (d.lane l).state = .up ∧ bodyOk b = true ∧ bfld b 63 60 = 9 ∧
      bfld b 59 55 < 16 ∧ bfld b 54 51 = 3 ∧ d.isStandby = true) fun d e =>
    e.stalls = modAt d.stalls (16 * l + bfld b 59 55) (fun x => { x with faults := bfld b 50 43 }) ∧
    OnlyParts [.regs, .stalls] d e) ∧
  (∀ t l b, Does (.faultChange t l b) (fun d => l < 32 ∧ (d.lane l).state = .up ∧ bodyOk b = true ∧ bfld b 63 60 = 9 ∧
      bfld b 59 55 < 16 ∧ bfld b 54 51 = 3 ∧ d.isStandby = false ∧ (bfld b 50 43).testBit 2 = false ∧
      d.faultCause (bfld b 50 43 &&& (255 - (d.stall (16 * l + bfld b 59 55)).faults % 256)) = none) fun d e =>
    e.stalls = modAt d.stalls (16 * l + bfld b 59 55) (fun x => { x with faults := bfld b 50 43, segok := x.segok &&& 15 }) ∧
    OnlyParts [.regs, .lanes, .stalls, .rails, .evt] d e) ∧
  (∀ t l b a, Does (.probeAnswer t l b) (fun d => l < 32 ∧ 16 * l + bfld b 59 55 < d.stalls.length ∧ (d.lane l).state = .up ∧
      bodyOk b = true ∧ bfld b 63 60 = 9 ∧ bfld b 59 55 < 16 ∧ bfld b 54 51 = 0 ∧ bfld b 50 43 = 0 ∧
      (d.lane l).owed d.now (bfld b 59 55) AskKind.isProbe = some a ∧ a.kind = .probe 0 ∧
      (d.stall (16 * l + bfld b 59 55)).returning ≠ 1) fun d e =>
    (e.stall (16 * l + bfld b 59 55)).probeOk = true ∧
    OnlyParts [.regs, .lanes, .stalls, .yards, .lawUnits, .balUnits, .evt, .pair] d e)

/-- R94, R104, R474, R43: a census word that was asked for is recorded and its request settled; a census request whose window
ends is sent again, 3 requests in all for each word, and then the position counts as silent.
The model's own readings behind it: log entries 36, 37 and 77.
Each clause concludes that `exec` answers a next state (`Does`, `Completes`: Safety.lean). -/
def Obligations.CensusRequestsAreSettledOrRepeated : Prop :=
  (∀ t l b a, Does (.censusAnswer t l b) (fun d => l < 32 ∧ (d.lane l).state = .training ∧ bodyOk b = true ∧
      bfld b 63 60 = 10 ∧ bfld b 59 55 < 16 ∧ bfld b 54 54 = 1 ∧
      (d.lane l).owed d.now (bfld b 59 55) (fun k => k = .census (bfld b 53 52)) = some a) fun d e =>
    (e.lane l).census.rd (4 * bfld b 59 55 + bfld b 53 52) = BitVec.ofNat 32 (bfld b 51 20) ∧
    (e.lane l).present.testBit (bfld b 59 55) = true ∧ (e.lane l).asks = (d.lane l).asks.erase a ∧
    (∀ k, k ≠ l → e.lane k = d.lane k) ∧ OnlyParts [.regs, .lanes] d e) ∧
  (∀ t l p a w, Does (.answerWindowExpiry t l p) (fun d =>
      (d.lane l).asks.filter (fun a => a.pos = p && decide (a.due ≤ d.now)) = [a] ∧ a.kind = .census w ∧ a.tries < 3) fun d e =>
    (e.lane l).asks.map (fun a => (a.pos, a.kind, a.tries)) =
      ((d.lane l).asks.erase a).map (fun a => (a.pos, a.kind, a.tries)) ++ [(p, .census w, a.tries + 1)] ∧
    (∀ k, k ≠ l → e.lane k = d.lane k) ∧ OnlyParts [.regs, .lanes] d e) ∧
  (∀ t l p a w, Does (.answerWindowExpiry t l p) (fun d =>
      (d.lane l).asks.filter (fun a => a.pos = p && decide (a.due ≤ d.now)) = [a] ∧ a.kind = .census w ∧ 3 ≤ a.tries) fun d e =>
    e.lanes = modAt d.lanes l (fun x => { x with asks := x.asks.erase a, unanswered := x.unanswered ||| 2 ^ p }) ∧
    OnlyParts [.lanes] d e)

/-- R64, R104, R105, R107, R108, R109: the phases of lane training, those of a wake's retraining, its attempts, the check of a returned frame, and the loss of
lock that takes an UP lane out of use. The model's own readings behind it: log entries 36, 38, 76, 77 and 78.
Each clause concludes that `exec` answers a next state (`Does`, `Completes`: Safety.lean). -/
def Obligations.LanesTrainAndLoseLock : Prop :=
  (∀ t l marks, Does (.laneTrainingPhase t l marks) (fun d => (d.lane l).phase = 1) fun d e =>
    e.lanes = modAt d.lanes l (fun x => { x with phase := 2, markAt := slotAt d.now }) ∧ OnlyParts [.lanes] d e) ∧
  (∀ t l marks rt, Does (.laneTrainingPhase t l marks) (fun d => (d.lane l).phase = 2 ∧ meanRt marks = some rt ∧
      (d.lane l).state ≠ .parked) fun d e =>
    (e.lane l).phase = 3 ∧ (e.lane l).rt = rt ∧ (e.lane l).present = 0 ∧ (e.lane l).unanswered = 0 ∧
    (∀ k, k ≠ l → e.lane k = d.lane k) ∧ OnlyParts [.regs, .lanes] d e) ∧
  (∀ t l marks, Does (.laneTrainingPhase t l marks) (fun d => (d.lane l).phase = 3 ∧ (d.lane l).asks = [] ∧
      d.isStandby = false) fun d e =>
    (e.lane l).phase = 4 ∧ (e.lane l).term = d.claimTerm l ∧ (∀ k, k ≠ l → e.lane k = d.lane k) ∧
    OnlyParts [.regs, .lanes, .stalls] d e) ∧
  (∀ t l marks, Does (.laneTrainingPhase t l marks) (fun d => (d.lane l).phase = 4) fun d e =>
    (e.lane l).phase = 5 ∧ (e.lane l).unacked = 0 ∧ (∀ k, k ≠ l → e.lane k = d.lane k) ∧
    OnlyParts [.regs, .lanes, .stalls, .pair] d e) ∧
  (∀ t l marks, Does (.laneTrainingPhase t l marks) (fun d => (d.lane l).phase = 5 ∧ (d.lane l).asks = [] ∧
      d.inPair = false) fun d e => (e.lane l).phase = 6 ∧ (∀ k, k ≠ l → e.lane k = d.lane k) ∧ OnlyParts [.lanes] d e) ∧
  (∀ t l marks, Does (.laneTrainingPhase t l marks) (fun d => (d.lane l).phase = 6 ∧ (d.lane l).state = .training) fun d e =>
    (e.lane l).state = .up ∧ (e.lane l).phase = 0 ∧ Logs [0x3002] d e ∧ (∀ k, k ≠ l → e.lane k = d.lane k) ∧
    OnlyParts [.regs, .lanes, .evt] d e) ∧
  (∀ t l, Does (.trainingAttemptTimeout t l) (fun d => (d.lane l).phase ≠ 0 ∧
      (d.lane l).attemptAt + 500 * usEu ≤ d.now ∧ (d.lane l).attempt < atLeast1 d.regs.act.LANE_GCFG_TRAIN_TRIES) fun d e =>
    (e.lane l).phase = 1 ∧ (e.lane l).attempt = (d.lane l).attempt + 1 ∧ (e.lane l).attemptAt = d.now ∧
    (e.lane l).state = (d.lane l).state ∧ (e.lane l).asks = [] ∧ (∀ k, k ≠ l → e.lane k = d.lane k) ∧
    OnlyParts [.regs, .lanes] d e) ∧
  (∀ t l slot b dev g, Does (.returnedFrameCheck t l slot b dev) (fun d =>
      (d.lane l).tx.find? (fun g => g.slot = slot) = some g ∧ b ≠ g.body ∧ g.rank ≠ 4) fun d e =>
    e.regs.cnt.rd (aLANE_RETERR l) = d.regs.cnt.rd (aLANE_RETERR l) + 1 ∧ OnlyParts [.regs] d e) ∧
  (∀ t l slot b dev g, Does (.returnedFrameCheck t l slot b dev) (fun d =>
      (d.lane l).tx.find? (fun g => g.slot = slot) = some g ∧ bodyOk b = true ∧ b = g.body ∧ g.rank = 4 ∧
      dev.natAbs ≤ 32 ∧ (((true :: (d.lane l).holds).take 256).filter (!·)).length < 16) fun d e =>
    e.lanes = modAt d.lanes l (fun x => { x with holds := (true :: x.holds).take 256 }) ∧ OnlyParts [.lanes] d e) ∧
  (∀ t l, Does (.lossOfLock t l) (fun d => (d.lane l).state = .up) fun d e =>
    ((e.lane l).state = .down ∨ (e.lane l).state = .retired) ∧
    OnlyParts [.regs, .lanes, .stalls, .yards, .laws, .bals, .lawUnits, .balUnits, .rails, .prot, .meas, .evt, .mgmt,
      .pair] d e) ∧
  (∀ t l marks rt, Does (.laneTrainingPhase t l marks) (fun d => (d.lane l).phase = 2 ∧ meanRt marks = some rt ∧
      (d.lane l).state = .parked) fun d e =>
    e.lanes = modAt d.lanes l (fun x => { x with rt := rt, phase := 6 }) ∧ OnlyParts [.lanes] d e) ∧
  (∀ t l marks w, Does (.laneTrainingPhase t l marks) (fun d => (d.lane l).phase = 6 ∧ (d.lane l).state = .parked ∧
      d.sys.wakeAt = some w ∧ d.now ≤ w + 10 * usEu) fun d e =>
    (e.lane l).state = .up ∧ (e.lane l).phase = 0 ∧ (∀ k, k ≠ l → e.lane k = d.lane k) ∧ OnlyParts [.regs, .lanes, .evt] d e) ∧
  (∀ t l marks w, Does (.laneTrainingPhase t l marks) (fun d => (d.lane l).phase = 6 ∧ (d.lane l).state = .parked ∧
      d.sys.wakeAt = some w ∧ w + 10 * usEu < d.now) fun d e =>
    ((e.lane l).state = .down ∨ (e.lane l).state = .retired) ∧
    OnlyParts [.regs, .lanes, .stalls, .yards, .laws, .bals, .lawUnits, .balUnits, .rails, .prot, .meas, .evt, .mgmt,
      .pair] d e)

/-- R142, R143, R144: at the decision a pending change takes the boundary one lead time away, or is deferred while a transient
is in progress; the boundary advances the epoch; the drain then ends.
The model's own readings behind it: log entries 26 and 27.
Each clause concludes that `exec` answers a next state (`Does`, `Completes`: Safety.lean). -/
def Obligations.EpochBoundariesAreTakenOrDeferred : Prop :=
  (∀ t n, Does (.epochBoundaryDecision t n) (fun d => d.isStandby = false ∧ (d.rail n).state = .reg ∧
      (d.yard n).boundary = none ∧ (d.yard n).pend.filter (fun c => c.since + d.p n ≤ d.now) ≠ [] ∧ d.now % d.p n = 0 ∧
      (d.yard n).drainEnd.getD 0 ≤ d.now + d.lead ∧ (d.rail n).mode = .linear ∧
      (d.yard n).linearSince + d.p n ≤ d.now) fun d e =>
    (e.yard n).boundary = some (d.now + d.lead) ∧ (e.yard n).drainEnd = some (d.now + d.lead + d.tp n) ∧
    (e.yard n).taking = (d.yard n).pend.filter (fun c => c.since + d.p n ≤ d.now) ∧ (e.yard n).epoch = (d.yard n).epoch ∧
    (∀ k, k ≠ n → e.yard k = d.yard k) ∧ OnlyParts [.stalls, .yards] d e) ∧
  (∀ t n, Does (.epochBoundaryDecision t n) (fun d => d.isStandby = false ∧ (d.rail n).state = .reg ∧
      (d.yard n).boundary = none ∧ (d.yard n).pend.filter (fun c => c.since + d.p n ≤ d.now) ≠ [] ∧ d.now % d.p n = 0 ∧
      (d.yard n).drainEnd.getD 0 ≤ d.now + d.lead ∧ ((d.rail n).mode = .burst ∨ (d.rail n).mode = .cut ∨
        d.now < (d.yard n).linearSince + d.p n)) fun d e =>
    e.yards = modAt d.yards n (fun y => { y with deferred := true }) ∧ OnlyParts [.yards] d e) ∧
  (∀ t n b, Does (.epochBoundary t n) (fun d => d.isStandby = false ∧ (d.yard n).boundary = some b ∧ b ≤ d.now) fun d e =>
    (d.yard n).epoch < (e.yard n).epoch ∧ (e.yard n).boundary = none ∧ (e.yard n).taking = [] ∧
    OnlyParts [.regs, .lanes, .stalls, .yards, .laws, .bals, .lawUnits, .balUnits, .rails, .prot, .meas, .evt, .mgmt,
      .pair] d e) ∧
  (∀ t n b, Does (.drainEnd t n) (fun d => d.isStandby = false ∧ (d.yard n).boundary = none ∧ (d.yard n).drainEnd = some b ∧
      b ≤ d.now) fun d e =>
    e.yards = modAt d.yards n (fun y => { y with drainEnd := none }) ∧ OnlyParts [.yards] d e)

/-- R130, R22, R139, R134, R126: a tapered stall is held for eight periods and then shed; one whose TELEM stays away eight
periods fails; a spare is probed at its interval; the wear counters are flushed.
The model's own readings behind it: log entries 27, 28 and 37.
Each clause concludes that `exec` answers a next state (`Does`, `Completes`: Safety.lean). -/
def Obligations.StallsAreShedProbedAndFlushed : Prop :=
  (∀ t s n, Does (.shedProgress t s) (fun d => d.isStandby = false ∧ d.railOf s = some n ∧ (d.stall s).state = .tapering ∧
      (d.stall s).taperFrom + d.regs.act.YARD_SHEDTIME_TAPER n * d.tp n ≤ d.now) fun d e =>
    e.stalls = modAt d.stalls s (fun x => { x with state := .held, heldEnd := d.now + 8 * d.tp n,
                                                   stopDue := x.stopDue || x.edges.head?.any fun f => !f.final }) ∧
    OnlyParts [.stalls] d e) ∧
  (∀ t s n, Does (.shedProgress t s) (fun d => d.isStandby = false ∧ d.railOf s = some n ∧ (d.stall s).state = .held ∧
      (d.stall s).heldEnd ≤ d.now) fun d e =>
    e.stalls = modAt d.stalls s (fun x => { x with state := .shed }) ∧ OnlyParts [.stalls] d e) ∧
  (∀ t s n, Does (.telemTimeout t s) (fun d => d.isStandby = false ∧ d.railOf s = some n ∧ (d.rail n).state = .reg ∧
      (d.stall s).state = .conducting ∧ (d.stall s).fromW ≤ d.now ∧ (∀ y ∈ d.yards, y.pend = []) ∧
      max ((d.stall s).telemAt.getD 0) (d.stall s).entered + 8 * d.tp n ≤ d.now) fun d e =>
    (e.stall s).state = .failed ∧ (e.stall s).cause = 4 ∧
    OnlyParts [.regs, .lanes, .stalls, .yards, .laws, .bals, .lawUnits, .balUnits, .rails, .prot, .meas, .evt, .mgmt,
      .pair] d e) ∧
  (∀ t s, Does (.spareProbe t s) (fun d => d.isStandby = false ∧ d.regs.act.YARD_SPARECFG_PROBE_INT ≠ 0 ∧
      (d.stall s).state = .spare ∧ d.laneUp (s / 16) = true ∧
      (d.stall s).probes + d.regs.act.YARD_SPARECFG_PROBE_INT * msEu ≤ d.now) fun d e =>
    (e.stall s).probes = d.now ∧ (e.stall s).state = .spare ∧ (∀ k, k / 16 ≠ s / 16 → e.stall k = d.stall k) ∧
    (e.lane (s / 16)).asks.map (fun a => (a.pos, a.kind, a.tries)) =
      (d.lane (s / 16)).asks.map (fun a => (a.pos, a.kind, a.tries)) ++ [(s % 16, .probe 0, 1)] ∧
    (∀ k, k ≠ s / 16 → e.lane k = d.lane k) ∧ OnlyParts [.regs, .lanes, .stalls] d e) ∧
  (∀ t, Does (.wearFlush t) (fun d => d.tb.running = true ∧ d.isStandby = true ∧
      d.hsw.wearFlush + atLeast1 d.regs.act.YARD_WEARGCFG_FLUSH * secEu ≤ d.now) fun d e =>
    e.hsw = { d.hsw with wearFlush := d.now } ∧
    (∀ s, s < 512 ∧ s < d.stalls.length →
      (e.stall s).counter = (d.stall s).acc / 2 ^ 32 + d.wearMargin s) ∧
    OnlyParts [.stalls, .hsw, .loft] d e) ∧
  (∀ t, Does (.wearFlush t) (fun d => d.tb.running = true ∧ d.isStandby = false ∧
      d.hsw.wearFlush + atLeast1 d.regs.act.YARD_WEARGCFG_FLUSH * secEu ≤ d.now) fun d e =>
    e.hsw = { d.hsw with wearFlush := d.now } ∧
    OnlyParts [.regs, .lanes, .stalls, .yards, .lawUnits, .balUnits, .hsw, .loft, .evt,
      .pair] d e)

/-- R195, R196, R198, R199, R201, R207: NOP, QUERY, CLRALERT, PSTATE and BAD_REQ on a port in use: the response that each drives, and what
each changes; a partial request leaves LDIO undriven. The model's own readings behind it: log entry 50.
Each clause concludes that `exec` answers a next state (`Does`, `Completes`: Safety.lean). -/
def Obligations.LoadPortsAnswerTheirRequests : Prop :=
  (∀ t k n seq arg, Does (.nop t k n seq arg) (fun d => d.lcpServed = true ∧ k < 4 ∧ d.portEn k = true) fun d e =>
    e.ports = modAt d.ports k (fun p => { p with response := some (respWord 0 seq d.sys.state.code) }) ∧
    e.regs.cnt.rd (aLCP_REQCNT k) = d.regs.cnt.rd (aLCP_REQCNT k) + 1 ∧ OnlyParts [.regs, .ports] d e) ∧
  (∀ t k n seq item, Does (.query t k n seq item) (fun d => d.lcpServed = true ∧ k < 4 ∧ item % 16 < 7 ∧ d.portEn k = true ∧
      (item % 16 = 5 ∨ (d.regs.act.LCP_PORTCFG_READMASK k).testBit n = true)) fun d e =>
    e.ports = modAt d.ports k (fun p => { p with response := some (respWord 0 seq (d.queryItem k n (item % 16))) }) ∧
    OnlyParts [.regs, .ports] d e) ∧
  (∀ t k n seq item, Does (.query t k n seq item) (fun d => d.lcpServed = true ∧ k < 4 ∧ 7 ≤ item % 16) fun d e =>
    e.ports = modAt d.ports k (fun p => { p with response := some (respWord 3 seq 0) }) ∧ OnlyParts [.regs, .ports] d e) ∧
  (∀ t k n seq mask, Does (.clralert t k n seq mask) (fun d => d.lcpServed = true ∧ k < 4 ∧ d.portEn k = true ∧
      (d.port k).last ≠ reqWord 5 n seq ((mask % 32) * 2 ^ 24)) fun d e =>
    e.ports = modAt d.ports k (fun p =>
      { p with response := some (respWord 0 seq ((d.stat (aLCP_ALERT k)).toNat % 32)),
               last := reqWord 5 n seq ((mask % 32) * 2 ^ 24), lastData := (d.stat (aLCP_ALERT k)).toNat % 32 }) ∧
    e.stat (aLCP_ALERT k) = d.stat (aLCP_ALERT k) &&& ~~~(BitVec.ofNat 32 (mask % 32)) ∧ OnlyParts [.regs, .ports] d e) ∧
  (∀ t k n seq hint, Does (.pstate t k n seq hint) (fun d => d.lcpServed = true ∧ k < 4 ∧ d.portEn k = true ∧
      d.owner n = some k ∧ (d.port k).last ≠ reqWord 2 n seq ((hint % 8) * 2 ^ 26)) fun d e =>
    e.rails = modAt d.rails n (fun r => { r with hintNext := some (hint % 8, d.now) }) ∧
    e.ports = modAt d.ports k (fun p =>
      { p with response := some (respWord 0 seq (d.rail n).hint), last := reqWord 2 n seq ((hint % 8) * 2 ^ 26),
               lastData := (d.rail n).hint }) ∧
    OnlyParts [.regs, .rails, .ports] d e) ∧
  (∀ t k raw, Does (.badReq t k raw) (fun d => d.lcpServed = true ∧ k < 4 ∧ rawStatus raw ≠ 0) fun d e =>
    e.ports = modAt d.ports k (fun p => { p with response := some (respWord (rawStatus raw) (raw / 2 ^ 37 % 16) 0) }) ∧
    OnlyParts [.regs, .ports] d e) ∧
  (∀ t k, Does (.lcpAbort t k) (fun d => d.lcpServed = true ∧ k < 4) fun d e =>
    e.ports = modAt d.ports k (fun p => { p with response := none }) ∧
    e.regs.cnt.rd (aLCP_ABORT k) = d.regs.cnt.rd (aLCP_ABORT k) + 1 ∧ OnlyParts [.regs, .ports] d e)

/-- R187, R190, R192, R193, R198: an accepted SETV gives its rail the destination and the class, with its status; a rail that another
source owns, or a code out of range, answers with the error and changes no rail; the same request again is a repeat.
The model's own readings behind it: log entry 50.
Each clause concludes that `exec` answers a next state (`Does`, `Completes`: Safety.lean). -/
def Obligations.SetvMovesTheDestination : Prop :=
  (∀ t k n seq code cls notify, Does (.setv t k n seq code cls notify) (fun d => d.lcpServed = true ∧ k < 4 ∧
      k < d.ports.length ∧ n < d.rails.length ∧ d.portEn k = true ∧ d.owner n = some k ∧ d.inRange n (code % 4096) = true ∧
      (d.port k).last ≠ reqWord 1 n seq ((code % 4096) * 2 ^ 17 + (cls % 16) * 2 ^ 13 + notify.toNat * 2 ^ 12) ∧
      code % 4096 ≠ 0) fun d e =>
    (e.rail n).dest = code % 4096 ∧ (e.rail n).cls = cls % 16 ∧
    (e.rail n).cmd = ⟨seq % 16, if (d.rail n).state = .ramp ∨ (d.rail n).state = .reg then .ramping else .held, k, notify⟩ ∧
    (e.port k).response = some (respWord 0 seq (d.rail n).code) ∧
    OnlyParts [.regs, .sys, .lanes, .stalls, .rails, .ports, .evt, .pair] d e) ∧
  (∀ t k n seq code cls notify, Does (.setv t k n seq code cls notify) (fun d => d.lcpServed = true ∧ k < 4 ∧
      k < d.ports.length ∧ n < d.rails.length ∧ d.portEn k = true ∧ d.owner n = some k ∧
      (d.port k).last ≠ reqWord 1 n seq ((code % 4096) * 2 ^ 17 + (cls % 16) * 2 ^ 13 + notify.toNat * 2 ^ 12) ∧
      code % 4096 = 0) fun d e =>
    (e.rail n).dest = 0 ∧ (e.rail n).warn = none ∧ (e.port k).response = some (respWord 0 seq (d.rail n).code) ∧
    OnlyParts [.regs, .sys, .lanes, .stalls, .yards, .laws, .bals, .lawUnits, .balUnits, .rails, .ports, .prot, .meas, .evt, .mgmt,
      .pair] d e) ∧
  (∀ t k n seq code cls notify, Does (.setv t k n seq code cls notify) (fun d => d.lcpServed = true ∧ k < 4 ∧
      (d.port k).last ≠ reqWord 1 n seq ((code % 4096) * 2 ^ 17 + (cls % 16) * 2 ^ 13 + notify.toNat * 2 ^ 12) ∧
      d.owner n ≠ some k) fun d e =>
    e.ports = modAt d.ports k (fun p => { p with response := some (respWord 4 seq 0) }) ∧ OnlyParts [.regs, .ports] d e) ∧
  (∀ t k n seq code cls notify, Does (.setv t k n seq code cls notify) (fun d => d.lcpServed = true ∧ k < 4 ∧
      d.portEn k = true ∧ d.owner n = some k ∧ d.inRange n (code % 4096) = false ∧
      (d.port k).last ≠ reqWord 1 n seq ((code % 4096) * 2 ^ 17 + (cls % 16) * 2 ^ 13 + notify.toNat * 2 ^ 12)) fun d e =>
    e.ports = modAt d.ports k (fun p => { p with response := some (respWord 5 seq 0) }) ∧ OnlyParts [.regs, .ports] d e) ∧
  (∀ t k n seq code cls notify, Does (.setv t k n seq code cls notify) (fun d => d.lcpServed = true ∧ k < 4 ∧
      (d.port k).last = reqWord 1 n seq ((code % 4096) * 2 ^ 17 + (cls % 16) * 2 ^ 13 + notify.toNat * 2 ^ 12)) fun d e =>
    e.ports = modAt d.ports k (fun p => { p with response := some (respWord 1 seq p.lastData) }) ∧
    OnlyParts [.regs, .ports] d e)

/-- R202, R204, R205, R208: an accepted STEP_AHEAD on a rail in REG puts its warning in force and calls every filled role back; one on a
rail out of REG is turned away; a warning whose step does not come by the first boundary after its grace ends as a miss and
alerts the rail's owner. The model's own readings behind it: log entry 30.
Each clause concludes that `exec` answers a next state (`Does`, `Completes`: Safety.lean). -/
def Obligations.StepAheadWarnsAndIsMissed : Prop :=
  (∀ t k n seq lead dir cls, Does (.stepAhead t k n seq lead dir cls) (fun d => d.lcpServed = true ∧ k < 4 ∧
      k < d.ports.length ∧ d.portEn k = true ∧ d.owner n = some k ∧ cls % 16 ≠ 0 ∧ (d.rail n).state = .reg ∧
      (d.rail n).mode = .linear ∧
      (d.port k).last ≠ reqWord 3 n seq ((lead % 64) * 2 ^ 23 + (dir % 2) * 2 ^ 22 + (cls % 16) * 2 ^ 18)) fun d e =>
    e.rails = modAt d.rails n (fun r =>
      { r with warn := some ⟨d.now, dir % 2, cls % 16, d.now + (lead % 64 + 1) * usEu, r.ir, false⟩ }) ∧
    (e.port k).response = some (respWord 0 seq 0) ∧
    (∀ s, s ∈ d.filled n → s < d.stalls.length → (e.stall s).state = .conducting) ∧
    (n < d.yards.length → (e.yard n).m = (d.filled n).length) ∧
    OnlyParts [.regs, .lanes, .stalls, .yards, .rails, .ports] d e) ∧
  (∀ t k n seq lead dir cls, Does (.stepAhead t k n seq lead dir cls) (fun d => d.lcpServed = true ∧ k < 4 ∧
      d.portEn k = true ∧ d.owner n = some k ∧ cls % 16 ≠ 0 ∧ (d.rail n).state ≠ .reg ∧
      (d.port k).last ≠ reqWord 3 n seq ((lead % 64) * 2 ^ 23 + (dir % 2) * 2 ^ 22 + (cls % 16) * 2 ^ 18)) fun d e =>
    e.ports = modAt d.ports k (fun p => { p with response := some (respWord 6 seq 0) }) ∧ OnlyParts [.regs, .ports] d e) ∧
  (∀ t n w, Does (.stepAheadMiss t n) (fun d => d.isStandby = false ∧ (d.rail n).warn = some w ∧ (d.rail n).state = .reg ∧
      d.now % d.p n = 0 ∧ w.ts + d.regs.act.LCP_STEPCFG_GRACE n * usEu ≤ d.now) fun d e =>
    e.rails = modAt d.rails n (fun r => { r with warn := none, offt := 0 }) ∧
    e.regs.cnt.rd (aLCP_STEPMISS n) = d.regs.cnt.rd (aLCP_STEPMISS n) + 1 ∧
    (∀ k, k < 4 → d.owner n = some k → (e.stat (aLCP_ALERT k)).toNat.testBit 2 = true) ∧ OnlyParts [.regs, .rails] d e)

/-- R216, R217, R220, R221: an undershoot whose dwell is met starts a BURST episode, an overshoot a CUT episode, with the on-time held;
frames are renewed while the comparator stays high and have their limit, and an episode ends once it has been low for 20 ns, or
without a frame where its comparator is no longer acted on. The model's own readings behind it: log entries 21 and 114.
Each clause concludes that `exec` answers a next state (`Does`, `Completes`: Safety.lean). -/
def Obligations.EpisodesStartRenewAndEnd : Prop :=
  (∀ t n, Does (.episodeStart t n) (fun d => d.isStandby = false ∧ d.dwellMet n = true ∧ d.dwellMet (8 + n) = false ∧
      (d.rail n).state = .reg ∧ d.regs.act.XNT_CFG_UV_EN n = 1 ∧
      ((d.rail n).episode.any fun x => !x.cut) = false) fun d e =>
    (e.rail n).mode = .burst ∧ (e.rail n).uhold = d.uNow n ∧ (e.rail n).nframes = 1 ∧ (e.rail n).epSample = true ∧
    ((e.rail n).episode.map fun x => (x.cut, x.dur)) = some (false, 16 * atLeast1 (d.regs.act.XNT_BURST_DUR n)) ∧
    (e.comp n).acted = true ∧ (∀ k, k ≠ n →
      { e.rail k with episode := none, crowbar := none } = { d.rail k with episode := none, crowbar := none }) ∧
    OnlyParts [.regs, .lanes, .stalls, .yards, .laws, .rails, .prot] d e) ∧
  (∀ t n, Does (.episodeStart t n) (fun d => d.isStandby = false ∧ d.dwellMet (8 + n) = true ∧
      (d.rail n).state = .reg ∧ d.regs.act.XNT_CFG_OV_EN n = 1 ∧
      ((d.rail n).episode.any fun x => x.cut) = false) fun d e =>
    (e.rail n).mode = .cut ∧ (e.rail n).uhold = d.uNow n ∧ (e.rail n).nframes = 1 ∧
    ((e.rail n).episode.map fun x => (x.cut, x.dur)) = some (true, 16 * atLeast1 (d.regs.act.XNT_CUT_DUR n)) ∧
    (e.comp (8 + n)).acted = true ∧ (∀ k, k ≠ n →
      { e.rail k with episode := none, crowbar := none } = { d.rail k with episode := none, crowbar := none }) ∧
    OnlyParts [.regs, .lanes, .stalls, .yards, .laws, .rails, .prot, .evt] d e) ∧
  (∀ t n x, Does (.episodeRenewal t n) (fun d => d.isStandby = false ∧ (d.rail n).episode = some x ∧ x.ti + x.dur ≤ d.now ∧
      (d.comp (if x.cut then 8 + n else n)).level = true ∧ d.epActs n x = true ∧
      (d.rail n).nframes < atLeast1 (if x.cut then d.regs.act.XNT_CUT_MAXN n else d.regs.act.XNT_BURST_MAXN n)) fun d e =>
    (e.rail n).nframes = (d.rail n).nframes + 1 ∧ (e.rail n).mode = (d.rail n).mode ∧
    ((e.rail n).episode.map fun y => (y.cut, y.set)) = some (x.cut, x.set) ∧ (∀ k, k ≠ n →
      { e.rail k with episode := none, crowbar := none } = { d.rail k with episode := none, crowbar := none }) ∧
    OnlyParts [.regs, .lanes, .stalls, .rails] d e) ∧
  (∀ t n x, Does (.episodeRenewal t n) (fun d => d.isStandby = false ∧ (d.rail n).episode = some x ∧ x.ti + x.dur ≤ d.now ∧
      (d.comp (if x.cut then 8 + n else n)).level = true ∧ d.epActs n x = true ∧
      atLeast1 (if x.cut then d.regs.act.XNT_CUT_MAXN n else d.regs.act.XNT_BURST_MAXN n) ≤ (d.rail n).nframes) fun d e =>
    e.rails = modAt d.rails n (fun r => { r with episode := none }) ∧ Logs [0x2002] d e ∧
    (e.stat (aXNT_STAT n)).toNat.testBit 19 = true ∧ OnlyParts [.regs, .rails, .evt] d e) ∧
  (∀ t n x, Does (.episodeEnd t n) (fun d => d.isStandby = false ∧ (d.rail n).episode = some x ∧
      (d.comp (if x.cut then 8 + n else n)).level = false ∧
      (d.comp (if x.cut then 8 + n else n)).since + 1024 ≤ d.now) fun d e =>
    (e.rail n).episode = none ∧ (∀ k,
      { e.rail k with episode := none, crowbar := none } = { d.rail k with episode := none, crowbar := none }) ∧
    OnlyParts [.regs, .lanes, .stalls, .rails] d e) ∧
  (∀ t n x, Does (.episodeRenewal t n) (fun d => d.isStandby = false ∧ (d.rail n).episode = some x ∧ x.ti + x.dur ≤ d.now ∧
      (d.comp (if x.cut then 8 + n else n)).level = true ∧ d.epActs n x = false) fun d e =>
    e.rails = modAt d.rails n (fun r => { r with episode := none }) ∧ OnlyParts [.rails] d e)

/-- R211, R213, R228, R229, R255: a conversion enters the open sample, clamped to the converter's range; each µs the returned-energy
bucket takes what the rails return, or pays out what they draw and the drain, never below 0.
The model's own readings behind it: log entries 25, 29 and 35.
Each clause concludes that `exec` answers a next state (`Does`, `Completes`: Safety.lean). -/
def Obligations.ConversionsAndReturnedEnergyAccumulate : Prop :=
  (∀ t n code, Does (.errorConversion t n code) (fun d => d.tb.running = true ∧ d.now % 1024 = 0 ∧ d.sys.state ≠ .idle ∧
      n < d.rails.length ∧ ((d.rail n).state ≠ .ramp ∨ (d.rail n).searched = true)) fun d e =>
    (e.rail n).conv = clampI (-256) 255 code ∧ (e.rail n).sum = (d.rail n).sum + clampI (-256) 255 code ∧
    (e.rail n).n = (d.rail n).n + 1 ∧
    (e.rail n).sat = ((d.rail n).sat || decide (code ≤ -256) || decide (255 ≤ code)) ∧
    (∀ k, k ≠ n → e.rail k = d.rail k) ∧ OnlyParts [.regs, .rails, .prot] d e) ∧
  (∀ t n code, Does (.errorConversion t n code) (fun d => d.tb.running = true ∧ d.now % 1024 = 0 ∧ d.sys.state ≠ .idle ∧
      n < d.rails.length ∧ (d.rail n).state = .ramp ∧ (d.rail n).searched = false) fun d e =>
    (e.rail n).conv = clampI (-256) 255 code ∧ (e.rail n).sum = (d.rail n).sum ∧ (e.rail n).n = (d.rail n).n ∧
    (∀ k, k ≠ n → e.rail k = d.rail k) ∧ OnlyParts [.rails, .prot] d e) ∧
  (∀ t, Does (.returnedEnergyUpdate t) (fun d => d.isStandby = false ∧ d.tb.running = true ∧ d.now % usEu = 0 ∧
      d.pnet < 0) fun d e =>
    e.ret.e = d.ret.e + (-d.pnet).toNat ∧ e.ret.total = d.ret.total + (-d.pnet).toNat ∧
    OnlyParts [.regs, .lanes, .stalls, .rails, .prot, .ret, .evt] d e) ∧
  (∀ t, Does (.returnedEnergyUpdate t) (fun d => d.isStandby = false ∧ d.tb.running = true ∧ d.now % usEu = 0 ∧
      0 ≤ d.pnet) fun d e =>
    e.ret.e = ((d.ret.e : Int) - (d.pnet + 32000 * (d.regs.act.XNT_RETCFG2_DRAIN : Nat))).toNat ∧ e.ret.total = d.ret.total ∧
    OnlyParts [.regs, .lanes, .stalls, .rails, .prot, .ret, .evt] d e)

/-- R164, R244, R245, R247, R250, R251, R255, R257, R259, R261: a rail in REG whose run of a cause has reached its limit is turned off: it goes
to HICCUP, or to LATCHED once its retries are spent, with PG low and as its cause the first, in R247's order, of those found at
that instant. The model's own readings behind it: log entry 32.
Each clause concludes that `exec` answers a next state (`Does`, `Completes`: Safety.lean). -/
def Obligations.ProtectionTurnsRailsOff : Prop :=
  (∀ t n, Does (.lawDeadlineTurnOff t n) (fun d => d.isStandby = false ∧ n < 8 ∧ (d.rail n).state = .reg ∧
      d.missMet n = true) fun d e =>
    ((e.rail n).state = .hiccup ∨ (e.rail n).state = .latched) ∧ (e.rail n).pg = false ∧ (e.rail n).episode = none ∧
    causeOrder.find? (d.causesNow n).contains = some (e.rail n).cause ∧
    OnlyParts [.regs, .lanes, .stalls, .yards, .laws, .bals, .lawUnits, .balUnits, .rails, .prot, .meas, .evt, .mgmt,
      .pair] d e) ∧
  (∀ t n, Does (.overcurrentTurnOff t n) (fun d => d.isStandby = false ∧ n < 8 ∧ (d.rail n).state = .reg ∧
      d.ocMet n = true ∧ d.causesNow n = [3] ∧ (d.law n).groups = [] ∧ (d.rail n).retries < d.regs.act.PROT_HIC_RETRY_MAX n) fun d e =>
    (e.rail n).state = .hiccup ∧ (e.rail n).cause = 3 ∧ (e.rail n).retries = (d.rail n).retries + 1 ∧
    (e.rail n).hicEnd = d.now + d.hicTime n ∧ (e.rail n).pg = false ∧ OnlyParts [.regs, .lanes, .stalls, .yards, .laws, .bals, .lawUnits, .balUnits, .rails, .prot, .meas, .evt, .mgmt,
      .pair] d e) ∧
  (∀ t n, Does (.overcurrentTurnOff t n) (fun d => d.isStandby = false ∧ n < 8 ∧ (d.rail n).state = .reg ∧
      d.ocMet n = true ∧ d.causesNow n = [3] ∧ (d.law n).groups = [] ∧ d.regs.act.PROT_HIC_RETRY_MAX n ≤ (d.rail n).retries) fun d e =>
    (e.rail n).state = .latched ∧ (e.rail n).cause = 3 ∧ (e.rail n).pg = false ∧ OnlyParts [.regs, .lanes, .stalls, .yards, .laws, .bals, .lawUnits, .balUnits, .rails, .prot, .meas, .evt, .mgmt,
      .pair] d e) ∧
  (∀ t n, Does (.railOverTemperature t n) (fun d => d.isStandby = false ∧ n < 8 ∧ (d.rail n).state = .reg ∧
      d.otMet n = true) fun d e =>
    ((e.rail n).state = .hiccup ∨ (e.rail n).state = .latched) ∧ (e.rail n).pg = false ∧
    causeOrder.find? (d.causesNow n).contains = some (e.rail n).cause ∧ (d.causesNow n = [6] → (e.rail n).cause = 6) ∧
    OnlyParts [.regs, .lanes, .stalls, .yards, .laws, .bals, .lawUnits, .balUnits, .rails, .prot, .meas, .evt, .mgmt,
      .pair] d e) ∧
  (∀ t n, Does (.overvoltage t n) (fun d => d.isStandby = false ∧ n < 8 ∧ (d.rail n).state = .reg ∧ d.ovMet n = true) fun d e =>
    ((e.rail n).state = .hiccup ∨ (e.rail n).state = .latched) ∧ (e.rail n).crowbar.isSome = true ∧ (e.rail n).pg = false ∧
    causeOrder.find? (d.causesNow n).contains = some (e.rail n).cause ∧
    OnlyParts [.regs, .lanes, .stalls, .yards, .laws, .bals, .lawUnits, .balUnits, .rails, .prot, .meas, .evt, .mgmt,
      .pair] d e) ∧
  (∀ t n, Does (.undervoltage t n) (fun d => d.isStandby = false ∧ n < 8 ∧ (d.rail n).state = .reg ∧
      d.regs.act.PROT_UV_UV_EN n = 1 ∧ atLeast1 (d.regs.act.PROT_UV_UVN n) ≤ (d.rail n).uvRun) fun d e =>
    ((e.rail n).state = .hiccup ∨ (e.rail n).state = .latched) ∧ (e.rail n).pg = false ∧
    causeOrder.find? (d.causesNow n).contains = some (e.rail n).cause ∧ OnlyParts [.regs, .lanes, .stalls, .yards, .laws, .bals, .lawUnits, .balUnits, .rails, .prot, .meas, .evt, .mgmt,
      .pair] d e) ∧
  (∀ t k n, Does (.gpcPersistence t k) (fun d => d.isStandby = false ∧ n < 8 ∧ (d.rail n).state = .reg ∧
      k < 8 ∧ d.gpcMet k = true ∧ d.regs.act.PROT_GPC_ACTION k = 1 ∧ d.regs.act.PROT_GPC_RAILMASK k = 2 ^ n) fun d e =>
    ((e.rail n).state = .hiccup ∨ (e.rail n).state = .latched) ∧ (e.rail n).pg = false ∧
    causeOrder.find? (d.causesNow n).contains = some (e.rail n).cause ∧
    OnlyParts [.regs, .lanes, .stalls, .yards, .laws, .bals, .lawUnits, .balUnits, .rails, .prot, .meas, .evt, .mgmt,
      .pair] d e)

/-- R20, R246, R250, R259, R237, R239, R265, R267, R378: the counts of a period, CROWBAR's next frame and its end, an edge of a comparator, which
before the timebase runs is neither captured, counted nor flagged, the freeze of the rings, and the records' way to the loft.
The model's own readings behind it: log entries 34 and 67.
Each clause concludes that `exec` answers a next state (`Does`, `Completes`: Safety.lean). -/
def Obligations.ProtectionCountsCapturesAndRecords : Prop :=
  (∀ t n, Does (.limitedIntervalCount t n) (fun d => d.tb.running = true ∧ d.now % d.tp n = 0 ∧ (d.rail n).state = .reg ∧
      d.activeSet n = []) fun d e =>
    e.rails = modAt d.rails n (fun r =>
      { r with ocRun := 0, hot := 0, otRun := if d.regs.act.PROT_OT_RAILOT n = 0 then r.otRun + 1 else 0 }) ∧
    OnlyParts [.rails] d e) ∧
  (∀ t n, Does (.limitedIntervalCount t n) (fun d => d.tb.running = true ∧ d.now % d.tp n = 0 ∧ (d.rail n).state = .reg ∧
      d.isStandby = false ∧ d.activeSet n ≠ [] ∧ atLeast1 (d.regs.act.PROT_OC_SHARE n) * (d.activeSet n).length ≤
        ((d.activeSet n).filter d.limOf).length * 256) fun d e =>
    (e.rail n).ocRun = (d.rail n).ocRun + 1 ∧ (e.rail n).state = .reg ∧
    e.regs.cnt.rd (aPROT_LIMP n) = d.regs.cnt.rd (aPROT_LIMP n) + 1 ∧ OnlyParts [.regs, .rails] d e) ∧
  (∀ t n c, Does (.crowbarRenewal t n) (fun d => d.isStandby = false ∧ (d.rail n).crowbar = some c ∧
      c.ti + 16 * c.dur ≤ d.now ∧ c.sent < atLeast1 (d.regs.act.PROT_OV_NCUT n)) fun d e =>
    ((e.rail n).crowbar.map fun y => (y.sent, y.inReg, decide (d.now ≤ y.ti))) = some (c.sent + 1, c.inReg, true) ∧ (∀ k,
      { e.rail k with episode := none, crowbar := none } = { d.rail k with episode := none, crowbar := none }) ∧
    OnlyParts [.regs, .lanes, .stalls, .rails] d e) ∧
  (∀ t n c, Does (.crowbarRenewal t n) (fun d => d.isStandby = false ∧ (d.rail n).crowbar = some c ∧
      c.ti + 16 * c.dur ≤ d.now ∧ atLeast1 (d.regs.act.PROT_OV_NCUT n) ≤ c.sent) fun d e =>
    (e.rail n).crowbar = none ∧ (∀ k,
      { e.rail k with episode := none, crowbar := none } = { d.rail k with episode := none, crowbar := none }) ∧
    OnlyParts [.regs, .lanes, .stalls, .rails] d e) ∧
  (∀ t src level, Does (.comparatorEdge t src level) (fun d => src < 27 ∧ (d.comp src).level ≠ level ∧ d.tb.running = true ∧
      (src < 16 → d.sys.state ≠ .idle)) fun d e =>
    (src < d.prot.comps.length → e.comp src = { level := level, since := d.now, acted := false }) ∧
    ((d.regs.act.PROT_CAPEN_MASK).testBit src = true ∧ d.prot.capture.length < 64 →
      e.prot.capture = d.prot.capture ++ [capEntry src level d.prot.capLost d.now]) ∧
    ((d.regs.act.PROT_CAPEN_MASK).testBit src = false → e.prot.capture = d.prot.capture) ∧
    (level = true → (e.stat aPROT_IRQ).toNat.testBit src = true) ∧ (src ≠ 26 → e.hsw = d.hsw) ∧
    OnlyParts [.regs, .sys, .prot, .hsw, .mgmt] d e) ∧
  (∀ t src level, Does (.comparatorEdge t src level) (fun d => src < 27 ∧ src ≠ 26 ∧ (d.comp src).level ≠ level ∧
      d.tb.running = false ∧ d.compOff src = false) fun d e =>
    e.prot = { d.prot with comps := modAt d.prot.comps src fun _ => { level := level, since := 0, acted := false } } ∧
    OnlyParts [.prot] d e) ∧
  (∀ t t0, Does (.ringFreeze t) (fun d => d.prot.ring = .closing t0 ∧ t0 ≤ d.now) fun d e =>
    e.prot = { d.prot with ring := .frozen } ∧ OnlyParts [.prot] d e) ∧
  (∀ t r rs, Does (.lastFaultRecordWrite t) (fun d => d.prot.pending = r :: rs ∧ d.prot.writing = false ∧
      d.recordReady r = true ∧ (d.prot.scanned = true ∨ d.loft.portOk = true) ∧ d.loft.bp ≠ 3) fun d e =>
    e.prot.writing = true ∧ e.prot.scanned = true ∧ e.prot.pending.length = d.prot.pending.length ∧
    (d.prot.scanned = true → e.prot.lfSlots = d.prot.lfSlots ∧ e.regs = d.regs) ∧
    (e.prot.pending.head?.map (·.seq)) = some (lfHigh e.prot.lfSlots + 1) ∧
    (d.loft.busy = true ∧ d.evt.cur.isSome = true → e.loft.jobs.map (·.tag) = d.loft.jobs.map (·.tag) ++ [.lastFault]) ∧
    OnlyParts [.regs, .prot, .loft] d e) ∧
  (∀ t seq rs slot, Does (.archiveCopyWrite t) (fun d => d.prot.archQueue = seq :: rs ∧ d.prot.archBusy = false ∧ d.loft.portOk = true ∧
      d.prot.lfSlots.findIdx? (· = some seq) = some slot) fun d e =>
    e.prot = { d.prot with archBusy := true } ∧ OnlyParts [.regs, .prot, .loft] d e) ∧
  (∀ t seq rs, Does (.archiveCopyWrite t) (fun d => d.prot.archQueue = seq :: rs ∧ d.prot.archBusy = false ∧ d.loft.portOk = true ∧
      d.prot.lfSlots.findIdx? (· = some seq) = none) fun d e =>
    e.prot = { d.prot with archQueue := rs } ∧ OnlyParts [.prot] d e)

/-- R14, R15, R20, R22, R282, R283, R297, R298: a tick exchanges the readings and, with no limit acting, cools the fault timer; lost
ticks are noticed, the high-voltage die times on by its own oscillator, and they are told of when they return; the intermediate bus
reading goes stale; a metering sample is taken, and before the timebase runs it serves the high-voltage die alone; lifetime
energy is flushed. The model's own readings behind it: log entries 40, 65, 66, 67, 70 and 103.
Each clause concludes that `exec` answers a next state (`Does`, `Completes`: Safety.lean). -/
def Obligations.TicksAndMeteringSamples : Prop :=
  (∀ t vds acting, Does (.hvTick t vds acting) (fun d => d.tb.running = true ∧ d.now % usEu = 0 ∧ d.hsw.tickLost = false ∧
      d.hsw.pendTrip = 0 ∧ d.hsw.pendOn = false)
    fun d e =>
    e.hsw.vibSent = d.hsw.vib ∧ e.hsw.vibAt = d.now ∧ e.hsw.vdsRaw = vds % 1024 ∧ e.hsw.lastTick = d.tb.wall ∧
    e.hsw.sent = (if d.limitsKnown then d.limits else d.hsw.sent) ∧ e.sys.vinStale = false ∧
    (acting = false ∧ d.pins.vbusHv = true → e.hsw.ilim = false ∧ e.hsw.plim = false ∧
      e.hsw.efet = d.hsw.efet - 1000000 * e.hsw.sent.cool) ∧
    OnlyParts [.regs, .sys, .lanes, .stalls, .yards, .laws, .bals, .lawUnits, .balUnits, .rails, .prot, .hsw, .meas, .evt,
      .mgmt, .pair] d e) ∧
  (∀ t, Does (.hvTickLoss t) (fun d => d.tb.running = true ∧ d.hsw.tickLost = false ∧
      d.hsw.lastTick + 4 * usEu ≤ d.tb.wall) fun d e =>
    e.hsw = { d.hsw.onOwn d.hvClock with tickLost := true, ownAt := d.hsw.lastTick } ∧ OnlyParts [.hsw] d e) ∧
  (∀ t, Does (.hvTickResumed t) (fun d => d.hsw.tickLost = true ∧ d.hsw.pendTrip = 0 ∧ d.hsw.pendOn = false ∧
      d.rampOverdue = false ∧ d.busOvDue = false ∧ d.hsw.extCmd = false ∧ d.hsw.armWritten = false) fun d e =>
    e.hsw = { (d.hsw.runOwn d.tb.wall).onTicks d.hvClock with tickLost := false, lastTick := d.tb.wall, seen := true } ∧ Logs [0x200A] d e ∧
    OnlyParts [.regs, .hsw, .meas, .evt] d e) ∧
  (∀ t, Does (.vinStale t) (fun d => d.tb.running = true ∧ d.hsw.vibAt + 4 * usEu ≤ d.now) fun d e =>
    { e.sys with idleSince := none } = { d.sys with vinStale := true, idleSince := none } ∧ OnlyParts [.sys] d e) ∧
  (∀ t v i x, Does (.meteringSample t v i x) (fun d => d.pins.vbusHv = true ∧ d.tb.running = true) fun d e =>
    e.hsw.vraw = v % 65536 ∧ e.hsw.iraw = clampI (-32768) 32767 i ∧ e.hsw.v = d.hsw.cal 0 ((v % 65536 : Nat) : Int) ∧
    e.hsw.i = d.shuntMa (clampI (-32768) 32767 i) ∧ e.hsw.p = e.hsw.v * e.hsw.i / 1000 ∧
    e.hsw.vib = (d.hsw.cal 2 ((x.vib % 4096 : Nat) : Int)).toNat ∧
    e.hsw.ein = d.hsw.ein + 8 * e.hsw.p.toNat ∧ e.hsw.erev = d.hsw.erev + 8 * (-e.hsw.p).toNat ∧
    e.hsw.hvV = e.hsw.hvCal 0 ((v % 65536 : Nat) : Int) ∧ e.hsw.hvI = e.hsw.hvMa (clampI (-32768) 32767 i) ∧
    e.meas.win.ns = d.meas.win.ns + 1 ∧ OnlyParts [.regs, .hsw, .meas, .prot] d e) ∧
  (∀ t v i x, Does (.meteringSample t v i x) (fun d => d.pins.vbusHv = true ∧ d.tb.running = false) fun d e =>
    e.hsw.hvV = d.hsw.hvCal 0 ((v % 65536 : Nat) : Int) ∧ e.hsw.hvI = d.hsw.hvMa (clampI (-32768) 32767 i) ∧
    e.hsw.v = d.hsw.v ∧ e.hsw.i = d.hsw.i ∧ e.hsw.ein = d.hsw.ein ∧ e.hsw.erev = d.hsw.erev ∧ e.hsw.life = d.hsw.life ∧
    OnlyParts [.hsw] d e) ∧
  (∀ t, Does (.lifetimeEnergyFlush t) (fun d => d.tb.running = true ∧ d.evt.released = true ∧
      d.hsw.lifeFlush + atLeast1 d.regs.act.MEAS_INCFG_FLUSH * secEu ≤ d.now) fun d e =>
    e.hsw = { d.hsw with lifeFlush := d.now } ∧
    (d.loft.busy = true ∧ d.evt.cur.isSome = true → e.loft.jobs = d.loft.jobs ++
      [{ prio := 2, tag := .counter, begun := false, steps := [], req := .counter 512 d.hsw.life }]) ∧
    OnlyParts [.hsw] d e)

/-- R14, R15, R279, R280, R281, R283, R284, R285, R286, R287, R302: the gate's way from ARM to ON, and each trip: the cause, the retry
period or the latch, and the gate off; what the control die decides waits while ticks are lost. The model's own readings behind
it: log entries 40, 58, 63, 68 and 69. -/
def Obligations.TheGateRampsAndTrips : Prop :=
  (∀ t, Does (.inputRecordWritten t) (fun d => d.hsw.recDone = true ∧ d.hsw.state = .arm ∧ d.hsw.recEnded = 1 ∧
      d.hsw.tickLost = false) fun d e =>
    e.hsw.state = .ramp ∧ e.hsw.recDone = false ∧ e.hsw.rampAt = d.now ∧ e.hsw.ref = (10 * d.hsw.hvV).toNat ∧
    e.hsw.severe = false ∧
    (d.hsw.ibcFall.isSome = true → e.hsw.ibcEn = false ∧ e.hsw.ibcFall = none) ∧ OnlyParts [.hsw] d e) ∧
  (∀ t, Does (.rampFullyOn t) (fun d => d.hsw.state = .ramp ∧ d.hsw.pendTrip = 0 ∧ d.hsw.tickLost = false ∧ d.mayReport = true ∧
      (d.hsw.vdsLowAt.any fun a => decide (a + 100 * usEu ≤ d.tb.wall)) = true) fun d e =>
    e.hsw.state = .on ∧ e.hsw.onAt = d.now ∧ (d.drivesGate = true → e.hsw.ibcEn = true ∧ e.hsw.ibcFall = none) ∧
    OnlyParts [.regs, .sys, .lanes, .stalls, .yards, .laws, .bals, .lawUnits, .balUnits, .rails, .prot, .meas, .hsw, .loft, .evt,
      .mgmt, .pair] d e) ∧
  (∀ t, Does (.rampFullyOn t) (fun d => d.hsw.state = .ramp ∧ d.hsw.pendTrip = 0 ∧ d.hsw.tickLost = true ∧
      d.fullyOn = true) fun d e =>
    e.hsw = { d.hsw with pendOn := true } ∧ OnlyParts [.hsw] d e) ∧
  (∀ t, Does (.faultTimerTrip t) (fun d => d.hsw.closed = true ∧ d.hsw.tickLost = false ∧ d.hsw.severe = false ∧
      10000000000 * atLeast1 d.regs.act.HSW_BUDGET_EBUDGET ≤ d.hsw.efet ∧
      d.hsw.retries < d.regs.act.HSW_RETRY_RETRY_MAX) fun d e =>
    e.hsw.state = .wait ∧ e.hsw.cause = 1 ∧ e.hsw.retries = d.hsw.retries + 1 ∧ e.hsw.offAt = d.now ∧
    e.hsw.waitEnd = d.now + d.retryPeriod ∧ e.hsw.ilim = false ∧ e.hsw.plim = false ∧
    OnlyParts [.regs, .lanes, .stalls, .yards, .laws, .bals, .lawUnits, .balUnits, .rails, .prot, .meas, .hsw, .evt,
      .mgmt, .pair] d e) ∧
  (∀ t, Does (.faultTimerTrip t) (fun d => d.hsw.closed = true ∧ d.hsw.tickLost = true ∧ d.timerDue = true) fun d e =>
    e.hsw.pendTrip = (if d.hsw.severe then 2 else 1) ∧ e.hsw.state = d.hsw.state ∧ e.hsw.offAt = d.now ∧
    e.hsw.ilim = false ∧ e.hsw.efet = (d.hsw.runOwn d.tb.wall).efet ∧ OnlyParts [.hsw] d e) ∧
  (∀ t, Does (.rampTimeout t) (fun d => d.hsw.state = .ramp ∧ d.hsw.pendTrip = 0 ∧ d.hsw.tickLost = false ∧ d.mayReport = true ∧
      d.hsw.rampAt + atLeast1 d.regs.act.HSW_CFG_TMAX * 10 * msEu ≤ d.now ∧
      d.regs.act.HSW_RETRY_RETRY_MAX ≤ d.hsw.retries) fun d e =>
    e.hsw.state = .latched ∧ e.hsw.cause = 3 ∧ e.hsw.retries = d.hsw.retries ∧ e.hsw.offAt = d.now ∧
    OnlyParts [.regs, .lanes, .stalls, .yards, .laws, .bals, .lawUnits, .balUnits, .rails, .prot, .meas, .hsw, .evt,
      .mgmt, .pair] d e) ∧
  (∀ t, Does (.rampTimeout t) (fun d => d.hsw.tickLost = true) fun d e => OnlyParts [] d e) ∧
  (∀ t, Does (.severeCurrentTrip t) (fun d => d.hsw.closed = true ∧ d.hsw.tickLost = false ∧ d.hsw.severe = true ∧
      d.hsw.retries < d.regs.act.HSW_RETRY_RETRY_MAX) fun d e =>
    e.hsw.state = .wait ∧ e.hsw.cause = 2 ∧ e.hsw.retries = d.hsw.retries + 1 ∧
    e.hsw.waitEnd = d.now + d.retryPeriod ∧
    OnlyParts [.regs, .lanes, .stalls, .yards, .laws, .bals, .lawUnits, .balUnits, .rails, .prot, .meas, .hsw, .evt,
      .mgmt, .pair] d e) ∧
  (∀ t, Does (.busOvTrip t) (fun d => d.hsw.closed = true ∧ d.hsw.tickLost = false ∧ d.mayReport = true ∧ d.rampOverdue = false ∧
      d.regs.act.HSW_BUSCMP_OV_OFF = 1 ∧
      (d.comp 24).level = true ∧ (d.comp 24).since + atLeast1 d.regs.act.HSW_BUSCMP_OVTIME * usEu ≤ d.now) fun d e =>
    e.hsw.state = .off ∧ e.hsw.cause = 4 ∧ e.hsw.ovTripped = true ∧ e.hsw.retries = d.hsw.retries ∧ e.hsw.offAt = d.now ∧
    OnlyParts [.regs, .lanes, .stalls, .yards, .laws, .bals, .lawUnits, .balUnits, .rails, .prot, .meas, .hsw, .evt,
      .mgmt, .pair] d e) ∧
  (∀ t, Does (.busOvTrip t) (fun d => d.hsw.tickLost = true) fun d e => OnlyParts [] d e) ∧
  (∀ t, Does (.inputRecordWritten t) (fun d => d.hsw.recDone = true ∧ d.hsw.state = .arm ∧ d.hsw.recEnded = 1 ∧
      d.hsw.tickLost = true ∧ d.hsw.ibcFall = none) fun d e => OnlyParts [] d e)

/-- R279, R280, R286, R287, R291, R292, R293, R294: the returns from a trip, the fall of IBC_EN, an extraction's gate-off, the bleed and its
end, with which a step 8 that began in it goes on, and the two commands of HSW_CTRL.
The model's own readings behind it: log entries 40, 66 and 71.
Each clause concludes that `exec` answers a next state (`Does`, `Completes`: Safety.lean). -/
def Obligations.TheGateRearmsAndBleeds : Prop :=
  (∀ t, Does (.busOvRearm t) (fun d => d.hsw.ovTripped = true ∧ d.hsw.state = .off ∧
      (d.sys.state = .run ∨ d.sys.state = .start ∧ d.sys.step = 8) ∧
      d.drivesGate = true ∧ d.pins.above = true ∧ (d.comp 24).level = false ∧ (d.comp 24).since + 10 * msEu ≤ d.now) fun d e =>
    e.hsw = { d.hsw with ovTripped := false, state := .arm, ilim := false, plim := false, recDone := false } ∧
    OnlyParts [.regs, .hsw, .evt] d e) ∧
  (∀ t, Does (.retryPeriodExpiry t) (fun d => d.hsw.state = .wait ∧ d.hsw.waitEnd ≤ d.now ∧ d.mayRamp = true ∧
      d.pins.above = true) fun d e =>
    e.hsw = { d.hsw with state := .arm, ilim := false, plim := false, recDone := false } ∧ OnlyParts [.regs, .hsw, .evt] d e) ∧
  (∀ t, Does (.retryPeriodExpiry t) (fun d => d.hsw.state = .wait ∧ d.hsw.waitEnd ≤ d.now ∧
      d.pins.above = false) fun d e => e.hsw = { d.hsw with state := .off } ∧ OnlyParts [.hsw] d e) ∧
  (∀ t, Does (.retriesReset t) (fun d => d.hsw.state = .on ∧ d.hsw.onAt + d.retryPeriod ≤ d.now) fun d e =>
    e.hsw = { d.hsw with retries := 0 } ∧ OnlyParts [.hsw] d e) ∧
  (∀ t t0, Does (.ibcEnReleaseTimeout t) (fun d => d.hsw.ibcFall = some t0 ∧ t0 ≤ d.now) fun d e =>
    e.hsw = { d.hsw with ibcEn := false, ibcFall := none } ∧ OnlyParts [.hsw] d e) ∧
  (∀ t shown t0, Does (.gateOffConfirm t shown) (fun d => d.hsw.offCmd = some t0 ∧
      (shown = true ∨ t0 + 10 * usEu ≤ d.now) ∧ d.regs.act.HSW_BLEED_EN = 1 ∧ d.drivesGate = true ∧
      d.pins.vbusHv = true) fun d e =>
    e.hsw.state = .bleed ∧ e.hsw.extBleed = true ∧ e.hsw.offCmd = none ∧ e.hsw.bleedV = d.hsw.vstop ∧
    e.hsw.bleedEnd = d.hvClock + atLeast1 d.regs.act.HSW_BLEED_TSAFE * 10 * msEu ∧ e.hsw.ibcEn = false ∧
    e.regs.cnt.rd aHSW_BLEEDCNT = d.regs.cnt.rd aHSW_BLEEDCNT + 1 ∧ OnlyParts [.regs, .hsw] d e) ∧
  (∀ t shown t0, Does (.gateOffConfirm t shown) (fun d => d.hsw.offCmd = some t0 ∧
      (shown = true ∨ t0 + 10 * usEu ≤ d.now) ∧ d.regs.act.HSW_BLEED_EN = 0) fun d e =>
    e.hsw = { d.hsw with offCmd := none, state := .off } ∧ OnlyParts [.hsw] d e) ∧
  (∀ t, Does (.bleedStop t) (fun d => d.hsw.state = .bleed ∧ d.hsw.hvV ≤ d.hsw.bleedV ∧ d.sys.state ≠ .start) fun d e =>
    e.hsw = { d.hsw with state := d.hsw.resume, waitEnd := d.now + d.hsw.waitLeft, extBleed := false, step8Due := false } ∧
    OnlyParts [.hsw] d e) ∧
  (∀ t, Does (.bleedStop t) (fun d => d.hsw.state = .bleed ∧ d.hsw.hvV ≤ d.hsw.bleedV ∧ d.sys.state = .start ∧ d.sys.step = 8 ∧
      d.sys.kind ≠ 0 ∧ d.drivesGate = true ∧ d.hsw.resume = .off ∧ d.hsw.step8Due = true) fun d e =>
    e.hsw = { d.hsw with state := .arm, waitEnd := d.now + d.hsw.waitLeft, extBleed := false, step8Due := false,
                         ilim := false, plim := false, recDone := false } ∧
    OnlyParts [.regs, .hsw, .evt] d e) ∧
  (∀ t, Does (.bleedTimeout t) (fun d => d.hsw.state = .bleed ∧ d.hsw.bleedEnd ≤ d.hvClock ∧ d.hsw.bleedV < d.hsw.hvV ∧ d.pins.vbusHv = true ∧
      d.sys.state ≠ .start) fun d e =>
    e.hsw.state = d.hsw.resume ∧ (e.stat aHSW_STATUS).toNat.testBit 19 = true ∧ e.hsw.extBleed = false ∧
    e.hsw.fetShort = (d.hsw.fetShort || (decide (d.hsw.hvDrop ≤ 6) && d.pins.above)) ∧
    OnlyParts [.regs, .hsw, .evt] d e) ∧
  (∀ t, Does (.hswCtrlClear t) (fun d => d.hears = true ∧ d.writeRefusal aHSW_CTRL 0x1 = 0 ∧ d.hsw.state = .latched ∧
      d.pins.above = true ∧ d.drivesGate = true) fun d e =>
    e.hsw = { d.hsw with retries := 0, state := .arm, ilim := false, plim := false, recDone := false } ∧
    OnlyParts [.regs, .hsw, .evt, .acc, .mgmt] d e) ∧
  (∀ t, Does (.hswCtrlBleed t) (fun d => d.hears = true ∧ d.writeRefusal aHSW_CTRL 0x2 = 0 ∧ d.hsw.state = .off ∧
      d.drivesGate = true ∧ d.pins.vbusHv = true) fun d e =>
    e.hsw.state = .bleed ∧ e.hsw.resume = .off ∧ e.hsw.extBleed = false ∧ e.hsw.bleedV = d.hsw.vstop ∧ e.hsw.ibcEn = false ∧
    OnlyParts [.regs, .hsw, .acc, .mgmt] d e) ∧
  (∀ t, Does (.bleedStop t) (fun d => d.hsw.state = .bleed ∧ d.hsw.hvV ≤ d.hsw.bleedV ∧ d.sys.state = .start ∧ d.sys.step = 8 ∧
      d.hsw.step8Due = false) fun d e =>
    e.hsw = { d.hsw with state := d.hsw.resume, waitEnd := d.now + d.hsw.waitLeft, extBleed := false } ∧ OnlyParts [.hsw] d e)

/-- R307, R308, R310, R311, R314, R315, R316, R413: an accepted trigger opens a window and, with steps to convert, a sequence; a result enters its queue; a
path check that passes moves on to the next path; a spare takes over a failed path; the closed window is published.
The model's own readings behind it: log entry 42.
Each clause concludes that `exec` answers a next state (`Does`, `Completes`: Safety.lean). -/
def Obligations.TriggersConvertAndPublish : Prop :=
  (∀ t seq ts rest, Does (.domainSnapshotTrigger t) (fun d => d.dom.snapDue = (seq, ts) :: rest ∧ ts ≤ d.now ∧
      d.tb.running = true ∧ d.meas.seq = none ∧ d.meas.closing = none) fun d e =>
    e.meas.te = ts ∧ e.meas.tseq = seq % 2 ^ 32 ∧ e.meas.win = { start := ts } ∧ e.meas.closing.isSome = true ∧
    e.dom = { d.dom with snapDue := rest } ∧ OnlyParts [.regs, .meas, .dom] d e) ∧
  (∀ t, Does (.measSarctrlTrig t) (fun d => d.hears = true ∧ d.writeRefusal aMEAS_SARCTRL 0x1 = 0 ∧
      d.regs.act.MEAS_SARCFG_SWTRIG = 1 ∧ d.tb.running = true ∧ d.meas.seq = none ∧ d.meas.closing = none) fun d e =>
    e.meas.te = d.now ∧ e.meas.tseq = (d.meas.tseq + 1) % 2 ^ 32 ∧ e.meas.win = { start := d.now } ∧
    e.meas.closing.isSome = true ∧ e.meas.queues = d.meas.queues ∧
    e.regs.cnt.rd aMEAS_TRIGCNT = d.regs.cnt.rd aMEAS_TRIGCNT + 1 ∧ OnlyParts [.regs, .meas, .acc, .mgmt] d e) ∧
  (∀ t conv code q input queue, Does (.sarResult t conv code) (fun d => d.meas.seq = some q ∧
      (q.lists.getD conv [])[q.taken.getD conv 0]? = some (input, queue) ∧
      q.te + 2048 + (q.taken.getD conv 0 + 1) * q.tc ≤ d.now ∧ q.isNext conv = true ∧ queue < d.meas.queues.length ∧
      (d.meas.queues.getD queue []).length < 256) fun d e =>
    e.meas.queues = modAt d.meas.queues queue (· ++
      [entryOf (d.meas.conv.getD conv {}) conv input q.tseq (min 4095 code) (q.taken.getD conv 0 = 0) q.lp]) ∧
    e.regs.cnt.rd (aMEAS_CONV conv) = d.regs.cnt.rd (aMEAS_CONV conv) + 1 ∧ OnlyParts [.regs, .meas] d e) ∧
  (∀ t conv code, Does (.pathCheck t conv code) (fun d => conv < 4 ∧ conv < d.meas.conv.length ∧
      d.regs.act.MEAS_CHKCFG_INT ≠ 0 ∧ d.meas.seq = none ∧ d.tb.running = true ∧
      (d.meas.conv.getD conv {}).lastCheck + d.regs.act.MEAS_CHKCFG_INT * 10 * usEu ≤ d.now ∧
      code = refCode conv ((d.meas.conv.getD conv {}).serves (d.meas.conv.getD conv {}).nextPath)) fun d e =>
    (e.meas.conv.getD conv {}).nextPath = ((d.meas.conv.getD conv {}).nextPath + 1) % 15 ∧
    (e.meas.conv.getD conv {}).lastCheck = d.now ∧
    (e.meas.conv.getD conv {}).failed = (d.meas.conv.getD conv {}).failed ∧ OnlyParts [.meas] d e) ∧
  (∀ t conv p ps, Does (.sparePathSwitch t conv) (fun d => conv < d.meas.conv.length ∧ d.meas.seq = none ∧
      (d.meas.conv.getD conv {}).pendingFail = p :: ps) fun d e =>
    e.meas.conv.getD conv {} = (d.meas.conv.getD conv {}).switch p ((d.meas.conv.getD conv {}).serves p)
      (d.meas.conv.getD conv {}).freeSpare ∧
    Logs [if (d.meas.conv.getD conv {}).freeSpare.isSome then 0x3006 else 0x2010] d e ∧ OnlyParts [.regs, .meas, .evt] d e) ∧
  (∀ t c, Does (.windowPublish t) (fun d => d.meas.closing = some c) fun d e =>
    e.meas = { d.meas with pub := c.published, closing := none } ∧ OnlyParts [.meas] d e)

/-- R315, R318, R325, R326: reading a queue takes its oldest entry, and CLRQ empties it; the low word of a wide value latches the
upper word, which is then read once fresh; PERF_CTRL starts a snapshot, clears the counts, clears the overflow map and sets
one count; a completed snapshot replaces the table. The model's own readings behind it: log entries 47 and 48.
Each clause concludes that `exec` answers a next state (`Does`, `Completes`: Safety.lean). -/
def Obligations.QueuesWideReadsAndCounters : Prop :=
  (∀ t k x xs, Does (.measQueueRead t k) (fun d => k < 4 ∧ d.hears = true ∧ d.meas.queues.getD k [] = x :: xs) fun d e =>
    e.meas.queues = modAt d.meas.queues k List.tail ∧ e.mgmt.answer = leBytes 4 x.toNat ∧
    OnlyParts [.meas, .acc, .mgmt] d e) ∧
  (∀ t mask, Does (.measSarctrlClrq t mask) (fun d => d.hears = true ∧ d.meas.queues.length = 4 ∧
      d.writeRefusal aMEAS_SARCTRL (BitVec.ofNat 32 (mask % 16 * 2)) = 0) fun d e =>
    (∀ k, k < 4 → e.meas.queues.getD k [] = (if mask.testBit k then [] else d.meas.queues.getD k [])) ∧
    OnlyParts [.meas, .acc, .mgmt] d e) ∧
  (∀ t, Does (.splitReadLow t aTB_NOWL) (fun d => d.hears = true ∧ d.regs.hold.rd aTB_NOWL = 0 ∧ d.stat aTB_NOWL = 0) fun d e =>
    e.mgmt.answer = leBytes 4 (d.now % 2 ^ 32) ∧ e.regs.latch.rd aTB_NOWH = BitVec.ofNat 32 (d.now / 2 ^ 32) ∧
    aTB_NOWH ∈ e.regs.fresh ∧ OnlyParts [.regs, .acc, .mgmt] d e) ∧
  (∀ t, Does (.splitReadHigh t aTB_NOWH) (fun d => d.hears = true ∧ aTB_NOWH ∈ d.regs.fresh) fun d e =>
    e.mgmt.answer = leBytes 4 (d.regs.latch.rd aTB_NOWH).toNat ∧ e.regs.fresh = d.regs.fresh.erase aTB_NOWH ∧
    e.regs.stat = d.regs.stat ∧ OnlyParts [.regs, .acc, .mgmt] d e) ∧
  (∀ t, Does (.splitReadHigh t aTB_NOWH) (fun d => d.hears = true ∧ aTB_NOWH ∉ d.regs.fresh) fun d e =>
    e.mgmt.answer = leBytes 4 (d.regs.latch.rd aTB_NOWH).toNat ∧
    e.stat aPERF_RDSTAT = BitVec.ofNat 32 (aTB_NOWH * 256 + 1) ∧ OnlyParts [.regs, .acc, .mgmt] d e) ∧
  (∀ t, Does (.perfCtrlSnap t) (fun d => d.hears = true ∧ d.writeRefusal aPERF_CTRL 0x1 = 0 ∧ d.meas.snapBusy = none)
    fun d e => e.meas = { d.meas with snapBusy := some (d.now, (d.meas.snapSeq + 1) % 2 ^ 32, d.regs.cnt) } ∧
      OnlyParts [.meas, .acc, .mgmt] d e) ∧
  (∀ t, Does (.perfCtrlClrall t) (fun d => d.hears = true ∧ d.writeRefusal aPERF_CTRL 0x2 = 0) fun d e =>
    e.regs = { d.regs with cnt := [] } ∧ OnlyParts [.regs, .acc, .mgmt] d e) ∧
  (∀ t, Does (.perfCtrlClrovf t) (fun d => d.hears = true ∧ d.writeRefusal aPERF_CTRL 0x4 = 0) fun d e =>
    e.regs = { d.regs with ovf := [] } ∧ OnlyParts [.regs, .acc, .mgmt] d e) ∧
  (∀ t r, Does (.perfCtrlWrite t) (fun d => d.hears = true ∧ d.writeRefusal aPERF_CTRL 0x8 = 0 ∧
      findDesc (d.regs.act.PERF_WADDR_ADDR / 4 * 4) = some r ∧ r.kind = .counter) fun d e =>
    e.regs.cnt.rd (d.regs.act.PERF_WADDR_ADDR / 4 * 4) = BitVec.ofNat 32 d.regs.act.PERF_WDATA_DATA ∧
    (∀ a, a ≠ d.regs.act.PERF_WADDR_ADDR / 4 * 4 → e.regs.cnt.rd a = d.regs.cnt.rd a) ∧ OnlyParts [.regs, .acc, .mgmt] d e) ∧
  (∀ t ts label table, Does (.perfSnapshotComplete t) (fun d => d.meas.snapBusy = some (ts, label, table)) fun d e =>
    e.regs = { d.regs with snap := table } ∧
    e.meas = { d.meas with snapBusy := none, snapSeq := label, snapTime := ts } ∧ OnlyParts [.regs, .meas] d e)

/-- R25, R386, R387, R389, R392, R394, R396, R397, R403, R405, R417, R418: what a member of a pair does with the messages of its link,
which come as blocks while it is up (R386): a HELLO is kept, a primary's RC, DC, JOIN and DELTAS act in STANDBY, an ACK clears what it
names, TAKEN of a greater TERM takes the authority and sends the member to a warm start, OWNER hands the input over, and blocks that are
no intact message are counted and change nothing else. The model's own readings behind it: log entries 52, 53 and 95.
Each clause concludes that `exec` answers a next state (`Does`, `Completes`: Safety.lean). -/
def Obligations.PairMessagesAreTaken : Prop :=
  (∀ t bs m, Does (.hello t bs m) (fun d => carries bs 1 = true ∧ d.inPair = true ∧ d.pair.link.state = 2 ∧
      d.awaitsRole = false ∧ d.leading = false) fun d e =>
    e.pair.partner.hello = some m ∧ e.pair.partner.lastAt = some d.now ∧
    e.pair.partner.started = (d.pair.partner.started || decide (m.state = 0)) ∧
    (d.dom.valid = false ∨ d.pair.partner.hello.map (·.domid) = some m.domid → e.dom = d.dom) ∧ OnlyParts [.pair, .dom] d e) ∧
  (∀ t bs m, Does (.rc t bs m) (fun d => carries bs 2 = true ∧ d.pair.link.state = 2 ∧ d.standing = true ∧ m.rail < 8 ∧
      m.rail < d.rails.length ∧ d.pair.dcAt < d.instantOf (d.p m.rail) m.boundary) fun d e =>
    (e.rail m.rail).state = railStateOf m.state ∧ (e.rail m.rail).dest = m.dest ∧ (e.rail m.rail).pos = m.pos ∧
    (m.rail < d.laws.length → (e.law m.rail).u = m.u ∧ (e.law m.rail).vc = m.vc ∧ (e.law m.rail).st.s = m.s) ∧
    e.pair.missRun = 0 ∧ e.pair.rcAt = d.pair.rcAt.set m.rail (d.instantOf (d.p m.rail) m.boundary) ∧
    e.regs.cnt.rd aPAIR_RCCNT = d.regs.cnt.rd aPAIR_RCCNT + 1 ∧
    (∀ k, k ≠ m.rail → e.rail k = d.rail k) ∧ OnlyParts [.regs, .stalls, .yards, .laws, .rails, .pair] d e) ∧
  (∀ t bs m, Does (.dc t bs m) (fun d => carries bs 3 = true ∧ d.pair.link.state = 2 ∧ d.standing = true ∧
      m.unusable = false) fun d e =>
    e.pair.dc = some m ∧ e.pair.dcAt = d.instantOf usEu m.tick ∧ e.pair.missRun = 0 ∧ e.ret.e = 2000 * m.retAcc ∧
    e.dom.delta = m.delta ∧ e.regs.cnt.rd aPAIR_DCCNT = d.regs.cnt.rd aPAIR_DCCNT + 1 ∧
    OnlyParts [.regs, .rails, .ret, .pair, .dom] d e) ∧
  (∀ t bs m, Does (.join t bs m) (fun d => carries bs 5 = true ∧ d.pair.link.state = 2 ∧ d.standing = true ∧ m.index = 0 ∧
      m.items = [] ∧ m.final = true) fun d e =>
    e.pair.joined = true ∧ e.pair.joinNext = 1 ∧ e.pair.ack = (m.firstDelta + 65535) % 65536 ∧ e.pair.gapAt = none ∧
    e.regs.cnt.rd aPAIR_JOINCNT = d.regs.cnt.rd aPAIR_JOINCNT + 1 ∧ OnlyParts [.regs, .pair] d e) ∧
  (∀ t bs a k d0, Does (.deltas t bs ((d0 + 1) % 65536) [.count a k]) (fun d => carries bs 9 = true ∧ d.pair.link.state = 2 ∧
      d.standing = true ∧ d.pair.ack = d0 ∧ d0 < 65536) fun d e =>
    e.pair.ack = (d0 + 1) % 65536 ∧ e.pair.gapAt = none ∧
    e.regs.cnt.rd a = d.regs.cnt.rd a + BitVec.ofNat 32 k ∧ OnlyParts [.regs, .pair] d e) ∧
  (∀ t bs seq, Does (.ack t bs seq true) (fun d => carries bs 4 = true ∧ d.pair.link.state = 2 ∧ d.leading = true) fun d e =>
    e.pair.ack = seq ∧ e.pair.partnerArmed = true ∧ e.pair.joinAt = none ∧
    (d.pair.unacked.filter fun x => decide (32768 ≤ (seq + 65536 - x.seq) % 65536)) <+: e.pair.unacked ∧
    OnlyParts [.regs, .pair] d e) ∧
  (∀ t bs term, Does (.taken t bs term) (fun d => carries bs 6 = true ∧ d.pair.link.state = 2 ∧ d.inPair = true ∧
      (d.sys.state ≠ .run ∨ term ≤ d.pair.term)) fun d e =>
    e.pair.partner.lastAt = some d.now ∧ e.pair.primary = d.pair.primary ∧ OnlyParts [.pair] d e) ∧
  (∀ t bs, Does (.owner t bs true) (fun d => carries bs 8 = true ∧ d.pair.link.state = 2 ∧ d.inPair = true ∧
      d.pair.owner = true ∧ d.pair.offered = true ∧ d.isStandby = true) fun d e =>
    e.pair.owner = false ∧ e.pair.offered = false ∧ e.hsw.state = .off ∧ OnlyParts [.hsw, .pair] d e) ∧
  (∀ t bs, Does (.owner t bs false) (fun d => carries bs 8 = true ∧ d.pair.link.state = 2 ∧ d.leading = true ∧
      d.pair.owner = false) fun d e =>
    e.pair.owner = true ∧ e.hsw.state = .on ∧ e.hsw.ibcEn = true ∧ OnlyParts [.hsw, .pair] d e) ∧
  (∀ t bs m, Does (.hello t bs m) (fun d => msgIntact bs = false ∧ d.inPair = true ∧ d.pair.link.state = 2) fun d e =>
    e.regs.cnt.rd aPAIR_CRCERR = d.regs.cnt.rd aPAIR_CRCERR + 1 ∧ OnlyParts [.regs] d e) ∧
  (∀ t bs term, Does (.taken t bs term) (fun d => carries bs 6 = true ∧ d.pair.link.state = 2 ∧ d.inPair = true ∧
      d.sys.state = .run ∧ d.pair.term < term) fun d e =>
    e.sys.state = .start ∧ e.sys.kind = 2 ∧ e.pair.authority = false ∧ e.pair.handoverAt = none ∧
    (e.stat aPAIR_STAT).toNat.testBit 11 = true ∧ (∀ n, n < 8 → n < d.rails.length → (e.rail n).state = .off) ∧
    OnlyParts [.regs, .sys, .tb, .lanes, .stalls, .yards, .laws, .bals, .lawUnits, .balUnits, .rails, .prot, .ret, .meas, .loft, .evt,
      .acc, .mgmt, .pair, .dom] d e) ∧
  (∀ t bs m, Does (.rc t bs m) (fun d => msgIntact bs = false ∧ d.inPair = true ∧ d.pair.link.state = 2) fun d e =>
    e.regs.cnt.rd aPAIR_CRCERR = d.regs.cnt.rd aPAIR_CRCERR + 1 ∧ OnlyParts [.regs] d e) ∧
  (∀ t bs m, Does (.dc t bs m) (fun d => msgIntact bs = false ∧ d.inPair = true ∧ d.pair.link.state = 2) fun d e =>
    e.regs.cnt.rd aPAIR_CRCERR = d.regs.cnt.rd aPAIR_CRCERR + 1 ∧ OnlyParts [.regs] d e) ∧
  (∀ t bs m, Does (.join t bs m) (fun d => msgIntact bs = false ∧ d.inPair = true ∧ d.pair.link.state = 2) fun d e =>
    e.regs.cnt.rd aPAIR_CRCERR = d.regs.cnt.rd aPAIR_CRCERR + 1 ∧ OnlyParts [.regs] d e) ∧
  (∀ t bs first ds, Does (.deltas t bs first ds) (fun d => msgIntact bs = false ∧ d.inPair = true ∧ d.pair.link.state = 2) fun d e =>
    e.regs.cnt.rd aPAIR_CRCERR = d.regs.cnt.rd aPAIR_CRCERR + 1 ∧ OnlyParts [.regs] d e) ∧
  (∀ t bs seq armed, Does (.ack t bs seq armed) (fun d => msgIntact bs = false ∧ d.inPair = true ∧ d.pair.link.state = 2)
    fun d e => e.regs.cnt.rd aPAIR_CRCERR = d.regs.cnt.rd aPAIR_CRCERR + 1 ∧ OnlyParts [.regs] d e) ∧
  (∀ t bs term, Does (.taken t bs term) (fun d => msgIntact bs = false ∧ d.inPair = true ∧ d.pair.link.state = 2) fun d e =>
    e.regs.cnt.rd aPAIR_CRCERR = d.regs.cnt.rd aPAIR_CRCERR + 1 ∧ OnlyParts [.regs] d e) ∧
  (∀ t bs accept, Does (.owner t bs accept) (fun d => msgIntact bs = false ∧ d.inPair = true ∧ d.pair.link.state = 2) fun d e =>
    e.regs.cnt.rd aPAIR_CRCERR = d.regs.cnt.rd aPAIR_CRCERR + 1 ∧ OnlyParts [.regs] d e) ∧
  (∀ t bs, Does (.handover t bs) (fun d => msgIntact bs = false ∧ d.inPair = true ∧ d.pair.link.state = 2) fun d e =>
    e.regs.cnt.rd aPAIR_CRCERR = d.regs.cnt.rd aPAIR_CRCERR + 1 ∧ OnlyParts [.regs] d e)

/-- R386, R387, R393, R396, R397, R400, R403, R405: what a member sends: HELLO, DC each µs, ACK each µs, TAKEN after a takeover, deltas that have gone
10 µs without an acknowledgement, the check of its authority, and the offer of the input; and a link that loses lock trains
again. The model's own readings behind it: log entry 52.
Each clause concludes that `exec` answers a next state (`Does`, `Completes`: Safety.lean). -/
def Obligations.PairMembersSend : Prop :=
  (∀ t, Does (.helloSend t) (fun d => d.inPair = true ∧ d.pair.helloSent ≠ some d.helloMsg) fun d e =>
    e.pair.helloSent = some d.helloMsg ∧ e.pair.helloAt = d.now ∧ OnlyParts [.pair] d e) ∧
  (∀ t, Does (.dcSend t) (fun d => d.leading = true ∧ d.now % usEu = 0 ∧ d.mirrors = false) fun d e =>
    e.pair.sent = [.dc d.dcMsg] ∧ e.regs.cnt.rd aPAIR_DCCNT = d.regs.cnt.rd aPAIR_DCCNT + 1 ∧ OnlyParts [.regs] d e) ∧
  (∀ t, Does (.ackSend t) (fun d => d.standing = true ∧ d.now % usEu = 0 ∧ d.mirrors = false) fun d e =>
    e.pair.sent = [.ack d.pair.ack d.pair.armed] ∧ OnlyParts [] d e) ∧
  (∀ t u, Does (.takenSend t) (fun d => d.leading = true ∧ d.pair.takenUntil = some u ∧ d.now ≤ u ∧
      (u - d.now) % usEu = 0 ∧ d.mirrors = false) fun d e => e.pair.sent = [.taken d.pair.term] ∧ OnlyParts [] d e) ∧
  (∀ t x xs, Does (.deltaResend t) (fun d => d.leading = true ∧ d.mirrors = false ∧
      (d.pair.unacked.takeWhile fun x => decide (x.latest + 10 * usEu ≤ d.now)).take 8 = x :: xs) fun d e =>
    e.pair.sent = [.deltas x.seq (x.d :: xs.map (·.d))] ∧ e.pair.unacked.length = d.pair.unacked.length ∧
    e.regs.cnt.rd aPAIR_RETXCNT = d.regs.cnt.rd aPAIR_RETXCNT + BitVec.ofNat 32 (xs.length + 1) ∧ OnlyParts [.regs] d e) ∧
  (∀ t, Does (.armedLoss t) (fun d => d.leading = true ∧
      d.pair.unacked.any (fun x => decide (x.first + 64 * usEu ≤ d.now)) = true) fun d e =>
    e.pair.partnerArmed = false ∧ OnlyParts [.pair] d e) ∧
  (∀ t, Does (.armedLoss t) (fun d => d.standing = true ∧ d.leading = false ∧
      d.pair.gapAt.all (fun a => decide (a + 64 * usEu ≤ d.now)) = true) fun d e =>
    e.pair.armed = false ∧ e.pair.joined = false ∧ OnlyParts [.pair] d e) ∧
  (∀ t l, Does (.authorityCheck t) (fun d => d.leading = true ∧ d.now % (atLeast1 d.regs.act.PAIR_CFG_ACHK * usEu) = 0 ∧
      d.upLanes = [l] ∧ d.answering l ≠ []) fun d e =>
    (e.lane l).asks.length = (d.lane l).asks.length + 1 ∧ (∀ k, k ≠ l → e.lane k = d.lane k) ∧
    OnlyParts [.regs, .lanes, .stalls, .pair] d e) ∧
  (∀ t, Does (.ownerOffer t) (fun d => d.mayOffer = true) fun d e => e.pair.offered = true ∧ OnlyParts [.pair] d e) ∧
  (∀ t, Does (.pairLinkLossOfLock t) (fun d => d.inPair = true ∧ d.pair.link.state = 2) fun d e =>
    e.pair.link.state = 1 ∧ OnlyParts [.pair] d e)

/-- R398, R399, R400, R404: an armed or unarmed standby whose takeover is allowed takes over: at PFLT# held low, unless the last DC shows the partner's
loft unusable, at HANDOVER, and at the third message
that has not come; a shorter run of misses only counts; a hand-over that brings no TAKEN in 5 µs ends in a warm start.
The model's own readings behind it: log entries 52 and 95.
Each clause concludes that `exec` answers a next state (`Does`, `Completes`: Safety.lean). -/
def Obligations.StandbyTakesOver : Prop :=
  (∀ t t0, Does (.pfltPersistence t) (fun d => d.standing = true ∧ d.regs.act.PAIR_CFG_TAKE_EN = 1 ∧
      d.pair.pfltLowAt = some t0 ∧ t0 + atLeast1 d.regs.act.PAIR_CFG_FLTN * 512 ≤ d.now ∧ d.pair.dc.any (·.unusable) = false) fun d e =>
    e.sys.state = .run ∧ e.pair.primary = true ∧ e.pair.authority = true ∧ e.pair.term = (d.pair.term + 1) % 65536 ∧
    e.pair.armed = false ∧
    OnlyParts [.regs, .sys, .lanes, .stalls, .yards, .laws, .bals, .lawUnits, .balUnits, .rails, .prot, .ret, .meas, .hsw, .evt, .mgmt,
      .pair, .dom] d e) ∧
  (∀ t bs, Does (.handover t bs) (fun d => carries bs 7 = true ∧ d.pair.link.state = 2 ∧ d.standing = true ∧ d.regs.act.PAIR_CFG_TAKE_EN = 1) fun d e =>
    e.sys.state = .run ∧ e.pair.primary = true ∧ e.pair.authority = true ∧ e.pair.term = (d.pair.term + 1) % 65536 ∧
    OnlyParts [.regs, .sys, .lanes, .stalls, .yards, .laws, .bals, .lawUnits, .balUnits, .rails, .prot, .ret, .meas, .hsw, .evt, .mgmt,
      .pair, .dom] d e) ∧
  (∀ t bs, Does (.handover t bs) (fun d => carries bs 7 = true ∧ d.pair.link.state = 2 ∧ d.standing = true ∧ d.regs.act.PAIR_CFG_TAKE_EN = 0) fun d e =>
    e.sys.state = .standby ∧ OnlyParts [.pair] d e) ∧
  (∀ t, Does (.messageDueMissed t none) (fun d => d.standing = true ∧ 56320 ≤ d.now ∧ (d.now - 56320) % usEu = 0 ∧
      d.pair.dcAt < d.now - 56320 ∧ d.pair.missRun < 2) fun d e =>
    e.pair.missRun = d.pair.missRun + 1 ∧ e.sys.state = .standby ∧
    e.regs.cnt.rd aPAIR_MISS = d.regs.cnt.rd aPAIR_MISS + 1 ∧ OnlyParts [.regs, .pair] d e) ∧
  (∀ t, Does (.messageDueMissed t none) (fun d => d.standing = true ∧ 56320 ≤ d.now ∧ (d.now - 56320) % usEu = 0 ∧
      d.pair.dcAt < d.now - 56320 ∧ d.pair.missRun = 2 ∧ d.regs.act.PAIR_CFG_TAKE_EN = 1) fun d e =>
    e.sys.state = .run ∧ e.pair.primary = true ∧ e.pair.term = (d.pair.term + 1) % 65536 ∧
    OnlyParts [.regs, .sys, .lanes, .stalls, .yards, .laws, .bals, .lawUnits, .balUnits, .rails, .prot, .ret, .meas, .hsw, .evt, .mgmt,
      .pair, .dom] d e) ∧
  (∀ t t0, Does (.handoverWaitExpiry t) (fun d => d.pair.handoverAt = some t0 ∧ d.sys.state = .run ∧
      t0 + 5 * usEu ≤ d.now) fun d e =>
    e.sys.state = .start ∧ e.sys.kind = 1 ∧ e.pair.handoverAt = none ∧
    OnlyParts [.regs, .sys, .tb, .lanes, .stalls, .yards, .laws, .bals, .lawUnits, .balUnits, .rails, .prot, .ret, .meas, .loft, .evt,
      .acc, .mgmt, .pair, .dom] d e)

/-- R386, R408, R409, R411, R412, R413, R414, R420: the domain: a member takes its ID and range, the settled range is divided, a report
is passed upward, an epoch is passed on and adopted at its instant, ILV is passed on and names a member's Δ, a snapshot is passed on and
due, and an alarm goes up; blocks that are no intact message are counted and change nothing else.
The model's own readings behind it: log entries 54 and 95.
Each clause concludes that `exec` answers a next state (`Does`, `Completes`: Safety.lean). -/
def Obligations.DomainMembersFollowTheirRoot : Prop :=
  (∀ t bs base size depth, Does (.enum t bs base size depth) (fun d => carries bs 1 = true ∧ d.dom.dup.state = 2 ∧
      d.pins.domRoot = false ∧ d.dom.valid = false ∧
      d.imageHeld = false) fun d e =>
    e.dom = { d.dom with enumGot := some (base, size, depth) } ∧ OnlyParts [.dom] d e) ∧
  (∀ t bs base size depth, Does (.enum t bs base size depth) (fun d => carries bs 1 = true ∧ d.dom.dup.state = 2 ∧
      d.pins.domRoot = false ∧ d.dom.valid = false ∧
      d.imageHeld = true ∧ d.regs.act.DOM_CFG_MODE = 1 ∧ 0 < size) fun d e =>
    e.dom.id = base % 65536 ∧ e.dom.valid = true ∧ e.dom.range = size ∧ e.dom.depth = depth ∧
    e.dom.settleAt = some (d.now + atLeast1 d.regs.act.DOM_CFG_SETTLE * msEu)) ∧
  (∀ t t0, Does (.settleExpiry t) (fun d => d.dom.settleAt = some t0 ∧ t0 ≤ d.now ∧ d.dom.ddn0.state = 2 ∧
      d.dom.ddn1.state = 2 ∧ d.dom.depth < 16) fun d e =>
    e.dom.settleAt = none ∧ e.dom.divided = true ∧
    e.dom.sent0 = [.enum (d.dom.id + 1) ((d.dom.range - 1) / 2) (d.dom.depth + 1)] ∧
    e.dom.sent1 = [.enum (d.dom.id + 1 + (d.dom.range - 1) / 2) (d.dom.range - 1 - (d.dom.range - 1) / 2) (d.dom.depth + 1)] ∧
    OnlyParts [.dom] d e) ∧
  (∀ t bs r, Does (.report t .ddn0 bs r) (fun d => carries bs 7 = true ∧ d.dom.ddn0.state = 2 ∧ d.pins.domRoot = false) fun d e =>
    e.dom = { d.dom with sentUp := [.report r] } ∧ OnlyParts [.dom] d e) ∧
  (∀ t bs count at_, Does (.epoch t bs count at_) (fun d => carries bs 3 = true ∧ d.dom.dup.state = 2 ∧ d.pins.domRoot = false) fun d e =>
    e.dom.epochs = d.dom.epochs ++ [(count % 2 ^ 32, at_)] ∧ e.regs.cnt.rd aDOM_EPOCHRX = d.regs.cnt.rd aDOM_EPOCHRX + 1 ∧ e.dom.epoch = d.dom.epoch ∧
    e.dom.sent0 = (if d.dom.ddn0.state = 2 then [.epoch count at_] else []) ∧ OnlyParts [.regs, .sys, .lanes, .dom] d e) ∧
  (∀ t n at_, Does (.epochAdopt t) (fun d => (d.dom.epochs.find? fun x => decide (x.2 ≤ d.now)) = some (n, at_) ∧
      d.dom.ilvNext = none) fun d e =>
    e.dom = { d.dom with epoch := n, ownEpoch := n, epochs := d.dom.epochs.erase (n, at_) } ∧ OnlyParts [.dom] d e) ∧
  (∀ t bs target group delta, Does (.ilv t bs target group delta) (fun d => carries bs 4 = true ∧ d.dom.dup.state = 2 ∧
      d.pins.domRoot = false ∧ d.dom.valid = true ∧ d.dom.id = target) fun d e =>
    e.dom.ilvNext = some delta ∧ e.dom.delta = d.dom.delta ∧
    e.dom.sent0 = (if d.dom.ddn0.state = 2 then [.ilv target group delta] else []) ∧ OnlyParts [.dom] d e) ∧
  (∀ t bs seq ts, Does (.snap t bs seq ts) (fun d => carries bs 5 = true ∧ d.dom.dup.state = 2 ∧ d.pins.domRoot = false ∧
      d.now + 5120 ≤ ts ∧
      d.regs.act.MEAS_SARCFG_DOMTRIG = 1) fun d e =>
    e.dom.snapSeq = seq % 2 ^ 32 ∧ e.dom.snapDue = d.dom.snapDue ++ [(seq, ts)] ∧
    e.dom.sent0 = (if d.dom.ddn0.state = 2 then [.snap seq ts] else []) ∧
    e.dom.sent1 = (if d.dom.ddn1.state = 2 then [.snap seq ts] else []) ∧ OnlyParts [.regs, .dom] d e) ∧
  (∀ t, Does (.alarmSend t) (fun d => d.pins.domRoot = false ∧ d.dom.alarmSent ≠ some d.subAlarm) fun d e =>
    e.dom.alarmSent = some d.subAlarm ∧ e.dom.alarmAt = d.now ∧
    e.dom.sentUp = [.alarm d.subAlarm.1 d.subAlarm.2.1 d.subAlarm.2.2] ∧ OnlyParts [.dom] d e) ∧
  (∀ t bs word count low, Does (.alarm t .ddn0 bs word count low) (fun d => carries bs 6 = true ∧ d.dom.ddn0.state = 2) fun d e =>
    e.dom = { d.dom with child0 := (word, count, low) } ∧ OnlyParts [.regs, .sys, .lanes, .dom] d e) ∧
  (∀ t bs seq ts, Does (.snap t bs seq ts) (fun d => msgIntact bs = false ∧ d.dom.dup.state = 2 ∧ d.pins.domRoot = false) fun d e =>
    e.regs.cnt.rd aDOM_MSGERR = d.regs.cnt.rd aDOM_MSGERR + 1 ∧ OnlyParts [.regs] d e) ∧
  (∀ t bs count at_, Does (.epoch t bs count at_) (fun d => msgIntact bs = false ∧ d.dom.dup.state = 2 ∧ d.pins.domRoot = false)
    fun d e => e.regs.cnt.rd aDOM_MSGERR = d.regs.cnt.rd aDOM_MSGERR + 1 ∧ OnlyParts [.regs] d e)

/-- R407, R408, R410, R411, R413, R415, R440: the links of the domain, the root's TIME, a member's step 2, in which TIME
is kept and the SYNC_IN edge that follows it locks (log entry 96; what is left of a back-off runs from there), the intervals at which the root
advances the epoch and starts a snapshot, and the three commands of DOM_CTRL.
The model's own readings behind it: log entries 16, 46, 54 and 96.
Each clause concludes that `exec` answers a next state (`Does`, `Completes`: Safety.lean). -/
def Obligations.DomainLinksTimeAndRootCommands : Prop :=
  (∀ t rt, Does (.linkTraining t .dup rt) (fun d => d.dom.dup.state = 1) fun d e =>
    e.dom = { d.dom with dup := { state := 2, rt := rt } } ∧ OnlyParts [.dom] d e) ∧
  (∀ t rt, Does (.linkTraining t .mirb rt) (fun d => d.inPair = true ∧ d.pair.link.state = 1) fun d e =>
    e.pair.link.state = 2 ∧ e.pair.link.rt = rt ∧ OnlyParts [.pair] d e) ∧
  (∀ t, Does (.domainLinkLoss t .dup) (fun d => d.dom.dup.state = 2) fun d e =>
    e.dom = { d.dom with dup := d.dom.dup.lose, aligned := false } ∧
    e.regs.cnt.rd aDOM_LINKDOWN = d.regs.cnt.rd aDOM_LINKDOWN + 1 ∧ OnlyParts [.regs, .dom] d e) ∧
  (∀ t, Does (.timeSend t) (fun d => d.tb.running = true ∧ d.pins.domRoot = true ∧ d.now % msEu = 0 ∧
      d.dom.ddn0.state = 2) fun d e => e.dom.sent0 = [.time d.now] ∧ OnlyParts [.dom, .pair] d e) ∧
  (∀ t bs sender, Does (.time t .dup bs sender) (fun d => carries bs 2 = true ∧ d.dom.dup.state = 2 ∧ d.pins.domRoot = false ∧
      d.locking = true ∧ d.tb.mult ≠ 0 ∧ d.tb.timeGot = none) fun d e =>
    e.tb = { d.tb with timeGot := some (d.tb.wall, sender + d.dom.dup.rt / 2) } ∧ OnlyParts [.tb] d e) ∧
  (∀ t bs sender, Does (.time t .dup bs sender) (fun d => carries bs 2 = true ∧ d.dom.dup.state = 2 ∧ d.pins.domRoot = false ∧
      d.locking = false ∧ d.tb.running = true ∧
      d.tb.slewing = false ∧ d.dom.aligned = true ∧ ((d.now : Int) - (sender + d.dom.dup.rt / 2 : Nat)).natAbs ≤ 16) fun d e =>
    e.now = d.now ∧ e.dom.terr = (d.now : Int) - (sender + d.dom.dup.rt / 2 : Nat) ∧ OnlyParts [.dom] d e) ∧
  (∀ t, Does (.epochInterval t) (fun d => d.regs.act.DOM_EPOCHCFG_LEN ≠ 0 ∧ d.tb.running = true ∧ d.pins.domRoot = true ∧
      d.dom.epochAt + d.regs.act.DOM_EPOCHCFG_LEN * msEu ≤ d.now) fun d e =>
    (e.dom.epochs.map fun x => x.1) = (d.dom.epochs.map fun x => x.1) ++
      [((d.dom.epochs.getLast?.elim d.dom.epoch fun x => x.1) + 1) % 2 ^ 32] ∧ e.dom.epochAt = d.now ∧
    OnlyParts [.dom] d e) ∧
  (∀ t, Does (.snapshotPeriod t) (fun d => d.regs.act.DOM_SNAPCFG_PERIOD ≠ 0 ∧ d.tb.running = true ∧ d.pins.domRoot = true ∧
      d.dom.snapAt + d.regs.act.DOM_SNAPCFG_PERIOD * msEu ≤ d.now) fun d e =>
    e.dom.snapSeq = (d.dom.snapSeq + 1) % 2 ^ 32 ∧ e.dom.snapAt = d.now ∧ OnlyParts [.dom] d e) ∧
  (∀ t, Does (.domCtrlSnap t) (fun d => d.hears = true ∧ d.writeRefusal aDOM_CTRL 0x1 = 0 ∧ d.pins.domRoot = true) fun d e =>
    e.dom.snapSeq = (d.dom.snapSeq + 1) % 2 ^ 32 ∧ e.dom.snapAt = d.dom.snapAt ∧ OnlyParts [.dom, .acc, .mgmt] d e) ∧
  (∀ t, Does (.domCtrlEpoch t) (fun d => d.hears = true ∧ d.writeRefusal aDOM_CTRL 0x2 = 0 ∧ d.pins.domRoot = true)
    fun d e => (e.dom.epochs.map fun x => x.1) = (d.dom.epochs.map fun x => x.1) ++
      [((d.dom.epochs.getLast?.elim d.dom.epoch fun x => x.1) + 1) % 2 ^ 32] ∧ e.dom.epochAt = d.now ∧
    OnlyParts [.dom, .acc, .mgmt] d e) ∧
  (∀ t, Does (.domCtrlAlmclr t) (fun d => d.hears = true ∧ d.writeRefusal aDOM_CTRL 0x4 = 0) fun d e =>
    e.dom = { d.dom with sticky := 0 } ∧ OnlyParts [.dom, .acc, .mgmt] d e) ∧
  (∀ t hz k w time, Does (.timebaseLock t hz) (fun d => multOf hz = some k ∧ d.locking = true ∧ d.tb.mult ≠ 0 ∧
      d.tb.timeGot = some (w, time) ∧ d.tb.edgeAfter w ≤ d.tb.wall) fun d e =>
    e.now = time + (d.tb.wall - w) ∧ e.tb.lock = true ∧ e.tb.running = true ∧ e.tb.timeGot = none ∧
    e.dom = { d.dom with aligned := true } ∧ e.sys.step = 3 ∧
    e.acc = { d.acc with backEnd := d.acc.backEnd + (time + (d.tb.wall - w)) } ∧
    OnlyParts [.regs, .sys, .tb, .prot, .hsw, .meas, .acc, .pair, .dom] d e) ∧
  (∀ t, Does (.domainLinkLoss t .ddn0) (fun d => d.dom.ddn0.state = 2) fun d e =>
    e.dom = { d.dom with ddn0 := d.dom.ddn0.lose, sticky := d.dom.sticky ||| 0x100 } ∧
    e.regs.cnt.rd aDOM_LINKDOWN = d.regs.cnt.rd aDOM_LINKDOWN + 1 ∧ OnlyParts [.regs, .dom] d e)

/-- R335, R339, R358: the last step of a job, unremapped and within one page, is programmed into the array where it is addressed,
nothing else of the array changes, and a host's own step ends with BUSY and CODE at 0; a step below the protected range's end is refused and stores nothing.
The model's own readings behind it: log entry 43. -/
def Obligations.LoftStepsStoreTheirBytes : Prop :=
  (∀ t s a bs j js, (s.seen (.loftStepComplete t [] [])).loft.busy = true ∧
      (s.seen (.loftStepComplete t [] [])).loft.jobs = j :: js ∧ j.steps = [(a, bs)] ∧
      protEnd (s.seen (.loftStepComplete t [] [])).loft.bp ≤ a ∧ (s.seen (.loftStepComplete t [] [])).loft.remap = [] ∧
      (s.seen (.loftStepComplete t [] [])).loft.remapping = none ∧
      a % 512 + bs.length ≤ 512 ∧ bs ≠ [] →
    ∃ s', exec (.loftStepComplete t [] []) s = .next s' ∧ s'.pending = s.pending ∧
      (∀ i, i < bs.length → s'.array.rd (a + i) = bs.getD i 0) ∧
      (∀ b, b < a ∨ a + bs.length ≤ b → s'.array.rd b = s.array.rd b) ∧
      (j.tag = .host → s'.dev.loft.hostBusy = false ∧ s'.dev.loft.hostCode = 0)) ∧
  (∀ t f1 f2 s a bs rest j js, (s.seen (.loftStepComplete t f1 f2)).loft.busy = true ∧
      (s.seen (.loftStepComplete t f1 f2)).loft.jobs = j :: js ∧ j.steps = (a, bs) :: rest ∧ j.tag = .host ∧
      (s.seen (.loftStepComplete t f1 f2)).loft.remapping = none ∧ a < protEnd (s.seen (.loftStepComplete t f1 f2)).loft.bp →
    ∃ s', exec (.loftStepComplete t f1 f2) s = .next s' ∧ s'.pending = s.pending ∧ s'.array = s.array ∧
      s'.dev.loft.hostBusy = false ∧ s'.dev.loft.hostCode = 2 ∧
      OnlyParts [.regs, .loft] (s.seen (.loftStepComplete t f1 f2)) s'.dev)

/-- R340, R356, R368, R370, R373, R375: a port that does not answer makes the loft unusable until a retry is answered; a written record leaves the queue
and EVT_HEAD advances; a clear of the log begins, and ends once counter 515 has followed its record; BP is raised
once its word is programmed. The model's own readings behind it: log entries 44 and 117.
Each clause concludes that `exec` answers a next state (`Does`, `Completes`: Safety.lean). -/
def Obligations.TheRecorderAndItsPort : Prop :=
  (∀ t s, (s.seen (.loftPortTimeout t)).loft.portOk = true ∧ (s.seen (.loftPortTimeout t)).loft.busy = false ∧
      (s.seen (.loftPortTimeout t)).sys.state ≠ .start ∧
      (s.seen (.loftPortTimeout t)).sys.tail = false →
    ∃ s', exec (.loftPortTimeout t) s = .next s' ∧ s'.pending = s.pending ∧ s'.array = s.array ∧
      s'.dev.loft.portOk = false ∧ s'.dev.evt.unusable = true ∧ s'.dev.evt.clearing = false ∧
      OnlyParts [.regs, .loft, .evt] (s.seen (.loftPortTimeout t)) s'.dev) ∧
  (∀ t answered, Does (.loftPortRetry t answered) (fun d => d.loft.portOk = false ∧ d.evt.unusable = true ∧
      d.loft.portRetry + msEu ≤ d.now) fun d e =>
    e.loft.portOk = answered ∧ e.loft.portRetry = d.now ∧ OnlyParts [.loft] d e) ∧
  (∀ t x xs ev pos, Does (.eventRecordWritten t) (fun d => d.evt.cur = some ⟨.queue 0, ev, pos, some .done⟩ ∧
      d.evt.queue = x :: xs ∧ d.evt.hold = [] ∧ d.evt.unusable = false ∧ d.evt.lwWritten = 0) fun d e =>
    e.evt.queue = xs ∧ e.evt.head = d.evt.head + 1 ∧
    e.regs.cnt.rd aEVT_RECCNT = d.regs.cnt.rd aEVT_RECCNT + 1 ∧ OnlyParts [.regs, .evt] d e) ∧
  (∀ t ev pos x xs, Does (.eventRecordWritten t) (fun d => d.evt.cur = some ⟨.latch, ev, pos, some .done⟩ ∧
      d.evt.latches = x :: xs ∧ xs ≠ []) fun d e =>
    e.evt.latches = xs ∧ e.evt.lwWritten = d.evt.lwWritten + 1 ∧ e.evt.head = d.evt.head + 1 ∧
    e.evt.queue = d.evt.queue ∧ OnlyParts [.regs, .evt] d e) ∧
  (∀ t, Does (.evtCtrlClear t) (fun d => d.hears = true ∧ d.writeRefusal aEVT_CTRL 0x1 = 0 ∧ d.clearRefusal = 0) fun d e =>
    e.evt.clearing = true ∧ e.evt.clearSession = d.acc.session ∧ OnlyParts [.evt, .acc, .mgmt] d e) ∧
  (∀ t, Does (.evtCtrlClear t) (fun d => d.hears = true ∧ d.writeRefusal aEVT_CTRL 0x1 = 0 ∧ d.clearRefusal ≠ 0) fun d e =>
    e.evt.clearCode = d.clearRefusal ∧ e.evt.clearing = d.evt.clearing ∧ OnlyParts [.evt, .acc, .mgmt] d e) ∧
  (∀ t ev pos, Does (.logClearComplete t) (fun d => d.evt.clearing = true ∧
      d.evt.cleared = false ∧
      d.evt.cur = some ⟨.cleared, ev, pos, some .done⟩) fun d e =>
    e.evt.head = pos + 1 ∧ e.evt.clearing = true ∧ e.evt.cleared = true ∧
    e.regs.cnt.rd aEVT_RECCNT = d.regs.cnt.rd aEVT_RECCNT + 1 ∧ OnlyParts [.regs, .loft, .evt] d e) ∧
  (∀ t bp, Does (.loftProtWrite t bp) (fun d => d.hears = true ∧
      d.writeRefusal aLOFT_PROT (BitVec.ofNat 32 (bp % 4)) = 0) fun d e =>
    e.loft.protPend = (if d.loft.bp < bp % 4 then some (bp % 4) else none) ∧ e.loft.bp = d.loft.bp ∧
    e.loft.bpWord = (if d.loft.bp < bp % 4 then d.loft.bpWord else bp % 4) ∧ Logs [0x4106] d e ∧
    OnlyParts [.regs, .loft, .evt, .acc, .mgmt] d e) ∧
  (∀ t bp, Does (.protectionWordProgrammed t) (fun d => d.loft.protPend = some bp ∧ d.loft.busy = false) fun d e =>
    e.loft.bp = bp ∧ e.loft.bpWord = bp ∧ e.loft.protPend = none ∧ OnlyParts [.loft] d e) ∧
  (∀ t, Does (.logClearComplete t) (fun d => d.evt.clearing = true ∧ d.evt.cleared = true ∧ d.loft.counting 515 = false)
    fun d e => e.evt.clearing = false ∧ e.evt.cleared = false ∧ e.evt.clearCode = 0 ∧ e.evt.head = d.evt.head ∧
      OnlyParts [.evt] d e)

/-- R241, R318, R358, R372, R381: the reads that act, and the host's window into the loft: PROT_CAPL takes the oldest capture entry, EVT_RDATA0 the record at EVT_RPOS, EVT_LWDATA
the word selected, LOFT_RDATA the word at LOFT_RADDR; words buffered become one step at GO, or are dropped at DISCARD.
The model's own readings behind it: log entries 17, 43, 47, 50, 51 and 92.
Each clause concludes that `exec` answers a next state (`Does`, `Completes`: Safety.lean). -/
def Obligations.ReadsThatActAndTheHostStep : Prop :=
  (∀ t x xs, Does (.protCaplRead t) (fun d => d.hears = true ∧ d.prot.capture = x :: xs) fun d e =>
    e.mgmt.answer = leBytes 4 (x.toNat % 2 ^ 32) ∧ e.prot.capture = xs ∧
    e.regs.latch.rd aPROT_CAPH = BitVec.ofNat 32 (x.toNat / 2 ^ 32) ∧ aPROT_CAPH ∈ e.regs.fresh ∧
    OnlyParts [.regs, .prot, .acc, .mgmt] d e) ∧
  (∀ t, Does (.evtRdata0Read t) (fun d => d.hears = true ∧ d.readsOnly = false ∧ 1 ≤ d.acc.level) fun d e =>
    e.rpos = (d.rpos + 1) % 2 ^ 48 ∧ e.evt.rslot = d.rpos % logSlots ∧ aEVT_RDATA 0 ∈ e.regs.fresh ∧
    e.mgmt.answer = leBytes 4 (e.evt.rwords.headD 0).toNat ∧
    (d.evt.head ≤ d.rpos → e.evt.rvalid = false ∧ e.evt.rwords = List.replicate 16 0) ∧
    OnlyParts [.regs, .loft, .evt, .acc, .mgmt] d e) ∧
  (∀ t, Does (.evtLwdataRead t) (fun d => d.hears = true) fun d e =>
    e.mgmt.answer = leBytes 4 (d.latchWord.getD 0).toNat ∧
    e.regs.act.EVT_LWSEL_WORD = (if 14 ≤ d.regs.act.EVT_LWSEL_WORD then 0 else d.regs.act.EVT_LWSEL_WORD + 1) ∧
    OnlyParts [.regs, .acc, .mgmt] d e) ∧
  (∀ t s, (s.seen (.loftRdataRead t)).hears = true ∧ (s.seen (.loftRdataRead t)).readsOnly = false ∧
      1 ≤ (s.seen (.loftRdataRead t)).acc.level ∧ (s.seen (.loftRdataRead t)).loft.portOk = true →
    Completes (.loftRdataRead t) s fun d e =>
      e.mgmt.answer = leBytes 4 (d.loft.hostWord s.array (4 * d.regs.act.LOFT_RADDR_ADDR)).toNat ∧
      e.regs.act.LOFT_RADDR_ADDR = (d.regs.act.LOFT_RADDR_ADDR + 1) % 2 ^ 24 ∧
      OnlyParts [.regs, .loft, .acc, .mgmt] d e) ∧
  (∀ t w, Does (.loftWdataWrite t w) (fun d => d.hears = true ∧ d.writeRefusal aLOFT_WDATA w = 0 ∧
      d.loft.hostBuf.length < 1024) fun d e =>
    e.loft.hostBuf = d.loft.hostBuf ++ [w] ∧ OnlyParts [.loft, .acc, .mgmt] d e) ∧
  (∀ t, Does (.loftWctlGo t) (fun d => d.hears = true ∧ d.writeRefusal aLOFT_WCTL 0x1 = 0 ∧ d.hostStarts = true ∧
      d.hostFits = true) fun d e =>
    e.loft.hostBusy = true ∧ e.loft.hostBuf = [] ∧
    (d.loft.busy = true ∧ d.evt.cur.isSome = true → e.loft.jobs = d.loft.jobs ++
      [{ prio := 4, tag := .host, begun := false, req := .plain, steps := [(d.hostAddr, wordBytes d.loft.hostBuf)] }]) ∧
    OnlyParts [.loft, .acc, .mgmt] d e) ∧
  (∀ t, Does (.loftWctlDiscard t) (fun d => d.hears = true ∧ d.writeRefusal aLOFT_WCTL 0x2 = 0) fun d e =>
    e.loft.hostBuf = [] ∧ e.loft.hostOver = false ∧ OnlyParts [.loft, .acc, .mgmt] d e)

/-- R333, R358, and the model's choice of log entry 20: an accepted GO whose buffered words would run past the last byte of the
array is a fault, by whichever of the four commands that can carry it it comes. -/
def Obligations.AStepPastTheArrayFaults : Prop :=
  (∀ t s, (s.seen (.loftWctlGo t)).hears = true ∧ (s.seen (.loftWctlGo t)).writeRefusal aLOFT_WCTL 0x1 = 0 ∧
      (s.seen (.loftWctlGo t)).hostStarts = true ∧ (s.seen (.loftWctlGo t)).hostFits = false →
    exec (.loftWctlGo t) s = .fault .loftBeyondArray) ∧
  (∀ t v s, (s.seen (.registerWrite t aLOFT_WCTL v)).hears = true ∧ sets v 0x1 = true ∧
      (s.seen (.registerWrite t aLOFT_WCTL v)).writeRefusal aLOFT_WCTL v = 0 ∧
      (s.seen (.registerWrite t aLOFT_WCTL v)).hostStarts = true ∧
      (s.seen (.registerWrite t aLOFT_WCTL v)).hostFits = false →
    exec (.registerWrite t aLOFT_WCTL v) s = .fault .loftBeyondArray) ∧
  (∀ t x v s, let d := s.seen (.regWrite t x)
    d.takesWrite 0xD2 x = true ∧ x.data = leBytes 3 aLOFT_WCTL ++ leBytes 4 v ∧ sets (BitVec.ofNat 32 v) 0x1 = true ∧
      d.writeRefusal aLOFT_WCTL (BitVec.ofNat 32 v) = 0 ∧ d.hostStarts = true ∧ d.hostFits = false →
    exec (.regWrite t x) s = .fault .loftBeyondArray) ∧
  (∀ t x v s, let d := s.seen (.regData t x)
    d.takesWrite 0xD1 x = true ∧ x.data = leBytes 4 v ∧ d.mgmt.window = aLOFT_WCTL ∧ sets (BitVec.ofNat 32 v) 0x1 = true ∧
      d.writeRefusal aLOFT_WCTL (BitVec.ofNat 32 v) = 0 ∧ d.hostStarts = true ∧ d.hostFits = false →
    exec (.regData t x) s = .fault .loftBeyondArray)

/-- R431, R432, R433, R434: the register window: REG_ADDR sets it, REG_DATA reads through it and moves it on by AUTOINC, REG_READ answers with the
register named, REG_BURST answers with eight words and moves it by 32, and REG_WRITE and REGISTER_WRITE land in the fields of
the register they name; a write that is refused leaves every register's fields.
The model's own readings behind it: log entries 47, 48 and 50.
Each clause concludes that `exec` answers a next state (`Does`, `Completes`: Safety.lean). -/
def Obligations.TheRegisterWindow : Prop :=
  (∀ t x, Does (.regAddr t x) (fun d => d.takesWrite 0xD0 x = true ∧ x.data.length = 3 ∧ d.bars .other = false) fun d e =>
    e.mgmt.window = leNat x.data ∧ OnlyParts [.acc, .mgmt] d e) ∧
  (∀ t x, Does (.regData t x) (fun d => d.takesRead x = true ∧ d.mgmt.window = aSYS_STATE) fun d e =>
    e.mgmt.answer = leBytes 4 (d.reg aSYS_STATE).toNat ∧
    e.mgmt.window = (if d.regs.act.ACC_SMBCFG_AUTOINC = 1 then aSYS_STATE + 4 else aSYS_STATE) ∧
    OnlyParts [.acc, .mgmt] d e) ∧
  (∀ t x, Does (.regRead t x) (fun d => d.takesRead x = true ∧ x.data = leBytes 3 aSYS_STATE) fun d e =>
    e.mgmt.answer = leBytes 4 (d.reg aSYS_STATE).toNat ∧ e.mgmt.window = d.mgmt.window ∧ OnlyParts [.acc, .mgmt] d e) ∧
  (∀ t x, Does (.regBurst t x) (fun d => d.takesRead x = true) fun d e =>
    e.mgmt.answer.length = 32 ∧ e.mgmt.window = (d.mgmt.window + 32) % 2 ^ 24 ∧
    OnlyParts [.regs, .prot, .meas, .loft, .evt, .acc, .mgmt] d e) ∧
  (∀ t x a v, Does (.regWrite t x) (fun d => d.takesWrite 0xD2 x = true ∧ x.data = leBytes 3 a ++ leBytes 4 v ∧
      a ∈ [aPROT_CAPEN, aPROT_ALERTEN, aDOM_ALERTEN, aPERF_WADDR, aPERF_WDATA] ∧
      d.writeRefusal a (BitVec.ofNat 32 v) = 0) fun d e =>
    (∀ r, findDesc a = some r → e.regs.act.rd a = blend r.rw (d.regs.act.rd a) (BitVec.ofNat 32 v) ∧
      e.regs.hold.rd a = blend r.rw (d.regs.hold.rd a) (BitVec.ofNat 32 v)) ∧
    (∀ b, b ≠ a → e.regs.act.rd b = d.regs.act.rd b) ∧ OnlyParts [.regs, .acc, .mgmt] d e) ∧
  (∀ t a v, Does (.registerWrite t a v) (fun d => d.hears = true ∧
      a ∈ [aPROT_CAPEN, aPROT_ALERTEN, aDOM_ALERTEN, aPERF_WADDR, aPERF_WDATA] ∧ d.writeRefusal a v = 0) fun d e =>
    (∀ r, findDesc a = some r → e.regs.act.rd a = blend r.rw (d.regs.act.rd a) v ∧
      e.regs.hold.rd a = blend r.rw (d.regs.hold.rd a) v) ∧
    (∀ b, b ≠ a → e.regs.act.rd b = d.regs.act.rd b) ∧ OnlyParts [.regs, .acc, .mgmt] d e) ∧
  (∀ t addr v, Does (.registerWrite t addr v) (fun d => d.hears = true ∧
      d.writeRefusal (addr % 2 ^ 24 / 4 * 4) v ≠ 0) fun d e =>
    e.regs.act = d.regs.act ∧ e.regs.hold = d.regs.hold ∧
    e.stat aACC_LASTERR = BitVec.ofNat 32 (d.writeRefusal (addr % 2 ^ 24 / 4 * 4) v + 256 * 0xD2) ∧
    OnlyParts [.regs, .evt, .acc, .mgmt] d e)

/-- R25, R119, R174, R431, R435: GROUP_COMMIT of a group that is none, or of a yard not enabled, leaves its code; one of a law-engine group whose checks
pass waits for the rail's boundary; WARM in RUN starts the device warm, and outside RUN is refused.
The model's own readings behind it: log entries 47 and 49.
Each clause concludes that `exec` answers a next state (`Does`, `Completes`: Safety.lean). -/
def Obligations.GroupCommitAndWarm : Prop :=
  (∀ t x, Does (.groupCommit t x) (fun d => d.takesWrite 0xD5 x = true ∧ x.data.length = 2 ∧
      d.writeRefusal aSYS_GCOMMIT (BitVec.ofNat 32 (leNat x.data)) = 0 ∧ (groupKnown (leNat x.data % 256) = false ∨
        d.regs.act.YARD_CFG_EN (leNat x.data / 256 % 8) = 0)) fun d e =>
    e.stat aSYS_GCSTAT = pk [(0, 8, 0x30), (8, 8, leNat x.data % 256), (16, 3, leNat x.data / 256 % 8)] ∧
    e.regs.act = d.regs.act ∧ OnlyParts [.regs, .acc, .mgmt] d e) ∧
  (∀ t x, Does (.groupCommit t x) (fun d => d.takesWrite 0xD5 x = true ∧ x.data.length = 2 ∧
      d.writeRefusal aSYS_GCOMMIT (BitVec.ofNat 32 (leNat x.data)) = 0 ∧ leNat x.data % 256 ≤ 9 ∧
      leNat x.data / 256 % 8 < d.laws.length ∧ d.regs.act.YARD_CFG_EN (leNat x.data / 256 % 8) ≠ 0 ∧
      d.engCheck (leNat x.data / 256 % 8) (leNat x.data % 256) = 0 ∧
      (d.rail (leNat x.data / 256 % 8)).state = .reg) fun d e =>
    (e.law (leNat x.data / 256 % 8)).groups = (d.law (leNat x.data / 256 % 8)).groups ++
      [⟨leNat x.data % 256, d.engStaged (leNat x.data / 256 % 8) (leNat x.data % 256), []⟩] ∧
    e.stat aSYS_GCSTAT = pk [(0, 8, 0), (8, 8, leNat x.data % 256), (16, 3, leNat x.data / 256 % 8)] ∧
    OnlyParts [.regs, .laws, .acc, .mgmt] d e) ∧
  (∀ t x, Does (.warm t x) (fun d => d.takesWrite 0xD6 x = true ∧ x.data = [0xA5] ∧ d.sys.state = .run ∧ 1 ≤ d.acc.level ∧
      d.pair.partnerArmed = false) fun d e =>
    e.sys.state = .start ∧ e.sys.kind = 1 ∧ (∀ n, n < 8 → n < d.rails.length → (e.rail n).state = .off) ∧
    OnlyParts [.regs, .sys, .tb, .lanes, .stalls, .yards, .laws, .bals, .lawUnits, .balUnits, .rails, .prot, .ret, .meas, .loft, .evt,
      .acc, .mgmt, .pair, .dom] d e) ∧
  (∀ t x, Does (.warm t x) (fun d => d.takesWrite 0xD6 x = true ∧ x.data = [0xA5] ∧ d.sys.state ≠ .run ∧
      1 ≤ d.acc.level) fun d e =>
    e.sys.state = d.sys.state ∧ e.stat aACC_LASTERR = BitVec.ofNat 32 (6 + 256 * 0xD6) ∧ OnlyParts [.regs, .acc, .mgmt] d e)

/-- R436, R437, R438, R439, R440, R441, R431: the attempts at a session and its end: a right password opens one at read-and-write level, a wrong one fails and starts the
back-off of min(2^(k − 1), 64) s, within which none is tried and at whose end one is; a new password is salted and hashed; a challenge is fresh and expires; LOCK and UNLOCK
change the key area; LOGOUT and idleness close. The model's own readings behind it: log entries 5, 46 and 47.
Each clause concludes that `exec` answers a next state (`Does`, `Completes`: Safety.lean). -/
def Obligations.SessionsOpenAndClose : Prop :=
  (∀ t x, Does (.login t x) (fun d => d.takesWrite 0xD7 x = true ∧ x.data.head? = some 1 ∧ isPassword x.data.tail = true ∧
      d.bars .session = false ∧ d.inBackoff = false ∧
      passwordHash d.acc.key.salt x.data.tail = d.acc.key.hash ∧ d.acc.level = 0) fun d e =>
    e.acc.level = 1 ∧ e.acc.fails = 0 ∧ e.acc.begun = d.acc.begun + 1 ∧ Logs [0x5001] d e ∧
    OnlyParts [.regs, .evt, .acc, .mgmt] d e) ∧
  (∀ t x, Does (.login t x) (fun d => d.takesWrite 0xD7 x = true ∧ x.data.head? = some 1 ∧ isPassword x.data.tail = true ∧
      d.bars .session = false ∧ d.inBackoff = false ∧
      passwordHash d.acc.key.salt x.data.tail ≠ d.acc.key.hash) fun d e =>
    e.acc.level = d.acc.level ∧ e.acc.fails = min 15 (d.acc.fails + 1) ∧
    e.acc.backEnd = d.now + min 64 (2 ^ (min 15 (d.acc.fails + 1) - 1)) * secEu ∧ Logs [0x5003] d e ∧
    OnlyParts [.regs, .evt, .acc, .mgmt] d e) ∧
  (∀ t x, Does (.login t x) (fun d => d.takesWrite 0xD7 x = true ∧ x.data.head? = some 1 ∧ isPassword x.data.tail = true ∧
      d.bars .session = false ∧ d.inBackoff = true) fun d e =>
    e.acc.level = d.acc.level ∧ e.acc.fails = d.acc.fails ∧ Logs [0x5004] d e ∧
    OnlyParts [.regs, .evt, .acc, .mgmt] d e) ∧
  (∀ t x, Does (.passwordSet t x) (fun d => d.takesWrite 0xD7 x = true ∧ x.data.head? = some 2 ∧ isPassword x.data.tail = true ∧
      d.bars .session = false ∧ d.acc.level = 2 ∧ d.loft.bp = 0) fun d e =>
    e.acc.key.salt = randomBytes d.acc.draws ∧ e.acc.key.hash = passwordHash (randomBytes d.acc.draws) x.data.tail ∧
    e.acc.key.pwSet = true ∧ e.acc.key.gen = (d.acc.key.gen + 1) % 2 ^ 32 ∧ Logs [0x5007] d e ∧
    OnlyParts [.regs, .evt, .acc, .mgmt] d e) ∧
  (∀ t x, Does (.challenge t x) (fun d => d.takesRead x = true) fun d e =>
    e.acc.chal = some (randomBytes d.acc.draws, d.now) ∧ e.acc.draws = d.acc.draws + 1 ∧
    e.mgmt.answer = randomBytes d.acc.draws ∧ OnlyParts [.acc, .mgmt] d e) ∧
  (∀ t c t0, Does (.challengeExpiry t) (fun d => d.acc.chal = some (c, t0) ∧ t0 + 60 * secEu ≤ d.now) fun d e =>
    e.acc = { d.acc with chal := none } ∧ OnlyParts [.acc] d e) ∧
  (∀ t x s, (s.seen (.response t x)).takesWrite 0xD9 x = true ∧ x.data.length = 32 ∧ (s.seen (.response t x)).bars .session = false ∧
      (s.seen (.response t x)).inBackoff = false ∧ (s.seen (.response t x)).responseOk s.array x.data = true →
    Completes (.response t x) s fun d e => e.acc.level = max 2 d.acc.level ∧ e.acc.chal = none ∧ e.acc.fails = 0 ∧
      OnlyParts [.regs, .evt, .acc, .mgmt] d e) ∧
  (∀ t x s, (s.seen (.response t x)).takesWrite 0xD9 x = true ∧ x.data.length = 32 ∧ (s.seen (.response t x)).bars .session = false ∧
      (s.seen (.response t x)).inBackoff = false ∧ (s.seen (.response t x)).responseOk s.array x.data = false →
    Completes (.response t x) s fun d e => e.acc.level = d.acc.level ∧ e.acc.chal = none ∧
      e.acc.fails = min 15 (d.acc.fails + 1) ∧ e.acc.backEnd = d.now + min 64 (2 ^ (min 15 (d.acc.fails + 1) - 1)) * secEu ∧
      OnlyParts [.regs, .evt, .acc, .mgmt] d e) ∧
  (∀ t x, Does (.logout t x) (fun d => d.takesWrite 0xDA x = true ∧ x.data = [] ∧ d.bars .session = false ∧ d.acc.level ≠ 0 ∧
      d.acc.key.lock = true ∧ d.acc.inst.active = false) fun d e =>
    e.acc.level = 0 ∧ e.acc.session = 0 ∧ Logs [0x5002] d e ∧ OnlyParts [.regs, .evt, .acc, .mgmt] d e) ∧
  (∀ t, Does (.sessionIdleTimeout t) (fun d => d.acc.lastTxn + 300 * secEu ≤ d.now ∧ d.acc.level ≠ 0 ∧
      d.acc.key.lock = true ∧ d.acc.inst.active = false) fun d e =>
    e.acc.level = 0 ∧ e.acc.session = 0 ∧ Logs [0x5002] d e ∧ OnlyParts [.regs, .evt, .acc] d e) ∧
  (∀ t x, Does (.accessStatus t x) (fun d => d.takesRead x = true) fun d e =>
    e.mgmt.answer = leBytes 2 d.accessWord ∧ OnlyParts [.acc, .mgmt] d e) ∧
  (∀ t, Does (.accCtrlLock t) (fun d => d.hears = true ∧ d.writeRefusal aACC_CTRL 0x2 = 0 ∧ d.acc.key.lock = false ∧
      d.acc.inst.active = false) fun d e =>
    e.acc.key.lock = true ∧ e.acc.level = 0 ∧ e.acc.key.gen = (d.acc.key.gen + 1) % 2 ^ 32 ∧
    OnlyParts [.regs, .evt, .acc, .mgmt] d e) ∧
  (∀ t, Does (.accCtrlUnlock t) (fun d => d.hears = true ∧ d.writeRefusal aACC_CTRL 0x4 = 0 ∧ d.acc.key.lock = true) fun d e =>
    e.acc.key.lock = false ∧ e.acc.level = d.acc.level ∧ e.acc.key.gen = (d.acc.key.gen + 1) % 2 ^ 32 ∧ Logs [0x5006] d e ∧
    OnlyParts [.regs, .evt, .acc, .mgmt] d e) ∧
  (∀ t x, Does (.login t x) (fun d => d.takesWrite 0xD7 x = true ∧ x.data.head? = some 1 ∧ isPassword x.data.tail = true ∧
      d.bars .session = false ∧ d.acc.lost = false ∧ d.acc.fails ≠ 0 ∧ d.now = d.acc.backEnd ∧
      passwordHash d.acc.key.salt x.data.tail = d.acc.key.hash ∧ d.acc.level = 0) fun d e =>
    e.acc.level = 1 ∧ e.acc.fails = 0 ∧ OnlyParts [.regs, .evt, .acc, .mgmt] d e)

/-- R443, R444, R445, R446: an install begins for the copy not in use, takes its words, ends DONE once its writes have ended, or
REJECTED when it is aborted or a check fails; a certificate of the wrong length is refused, one that passes its checks becomes a
record to write, and with the record written it is PENDING and logged. The model's own readings behind it: log entry 45.
Each clause concludes that `exec` answers a next state (`Does`, `Completes`: Safety.lean). -/
def Obligations.InstallsReceiveCommitAndEnd : Prop :=
  (∀ t dual, Does (.installBegin t dual) (fun d => d.hears = true ∧
      d.writeRefusal aACC_INSTCTL (if dual then 0x9 else 0x1) = 0 ∧ d.acc.inst.active = false) fun d e =>
    e.acc.inst = { state := .receiving, dual := dual, copyB := !d.sys.imageB, seq := d.loft.nextImageSeq, session := d.acc.session } ∧
    e.loft.installing = true ∧ OnlyParts [.loft, .acc, .mgmt] d e) ∧
  (∀ t x, Does (.instData t x) (fun d => d.takesWrite 0xDC x = true ∧ x.data.length = 4 ∧ d.bars .install = false ∧
      d.acc.level = 2 ∧ d.acc.inst.state = .receiving ∧ d.acc.inst.words < 128) fun d e =>
    e.acc.inst.words = d.acc.inst.words + 1 ∧ e.acc.inst.header = d.acc.inst.header ++ [BitVec.ofNat 32 (leNat x.data)] ∧
    e.acc.inst.buffer = d.acc.inst.buffer ∧ OnlyParts [.acc, .mgmt] d e) ∧
  (∀ t, Does (.installCommit t) (fun d => d.hears = true ∧ d.writeRefusal aACC_INSTCTL 0x2 = 0 ∧
      d.acc.inst.state = .receiving ∧ d.commitCheck = 0) fun d e =>
    e.acc.inst.state = .writing ∧ e.acc.inst.code = 0 ∧ e.acc.inst.buffer = [] ∧ OnlyParts [.loft, .acc, .mgmt] d e) ∧
  (∀ t, Does (.installCommit t) (fun d => d.hears = true ∧ d.writeRefusal aACC_INSTCTL 0x2 = 0 ∧
      d.acc.inst.state = .receiving ∧ d.commitCheck ≠ 0) fun d e =>
    e.acc.inst.state = .rejected ∧ e.acc.inst.code = d.commitCheck ∧ e.loft.installing = false ∧ Logs [0x4102] d e ∧
    OnlyParts [.regs, .loft, .evt, .acc, .mgmt] d e) ∧
  (∀ t, Does (.installAbort t) (fun d => d.hears = true ∧ d.writeRefusal aACC_INSTCTL 0x4 = 0 ∧
      d.acc.inst.active = true) fun d e =>
    e.acc.inst.state = .rejected ∧ e.acc.inst.code = 8 ∧ e.loft.installing = false ∧ Logs [0x4102] d e ∧
    OnlyParts [.regs, .loft, .evt, .acc, .mgmt] d e) ∧
  (∀ t, Does (.imageInstallComplete t) (fun d => d.loft.jobs = [] ∧ d.acc.inst.second = false ∧
      d.acc.inst.state = .writing ∧ d.acc.inst.failed = false ∧ d.acc.inst.dual = false) fun d e =>
    e.acc.inst = { d.acc.inst with state := .done } ∧ e.loft.installing = false ∧
    (if d.acc.inst.copyB then e.loft.imgSeqB else e.loft.imgSeqA) = d.acc.inst.seq ∧ Logs [0x4101] d e ∧
    OnlyParts [.regs, .loft, .evt, .acc] d e) ∧
  (∀ t, Does (.certificateInstall t) (fun d => d.hears = true ∧ d.writeRefusal aACC_INSTCTL 0x10 = 0 ∧
      d.acc.inst.certWords.length ≠ 24) fun d e =>
    e.acc.inst.code = 0x12 ∧ e.acc.inst.certWords = [] ∧ Logs [0x4104] d e ∧
    OnlyParts [.regs, .evt, .acc, .mgmt] d e) ∧
  (∀ t p, Does (.certificateInstall t) (fun d => d.hears = true ∧ d.writeRefusal aACC_INSTCTL 0x10 = 0 ∧
      d.acc.inst.certWords.length = 24 ∧ p = wordBytes d.acc.inst.certWords ∧ d.streamCodeOk p = true ∧ certFieldsOk p = true ∧
      d.loft.bp = 0 ∧ (d.loft.winner (.cert (numAt p 0 2))).elim 0 (·.seq) + (d.loft.jobs.filter fun j =>
        j.tag = .rec2 (.cert (numAt p 0 2))).length < 0xFFFFFFFF) fun d e =>
    e.acc.inst.certWords = [] ∧ e.acc.inst.code = d.acc.inst.code ∧
    (d.loft.busy = true ∧ d.evt.cur.isSome = true → e.loft.jobs = d.loft.jobs ++
      [{ prio := 4, tag := .rec2 (.cert (numAt p 0 2)), begun := false, steps := [],
         req := .rec2 (.cert (numAt p 0 2)) (p.take 0x24 ++ d.stamp ++ (p.drop 0x2E).take 0x12 ++
           hmac d.deviceKey (p.take 0x24 ++ d.stamp ++ (p.drop 0x2E).take 0x12)) }]) ∧
    OnlyParts [.loft, .acc, .mgmt] d e) ∧
  (∀ t s a bs j js path payload, let d := s.seen (.loftStepComplete t [] [])
    d.loft.busy = true ∧ d.loft.jobs = j :: js ∧ j.steps = [(a, bs)] ∧ j.tag = .rec2 (.cert path) ∧
      j.req = .rec2 (.cert path) payload ∧ protEnd d.loft.bp ≤ a ∧ d.loft.remap = [] ∧ d.loft.remapping = none ∧
      a % 512 + bs.length ≤ 512 ∧ bs ≠ [] →
    ∃ s', exec (.loftStepComplete t [] []) s = .next s' ∧ s'.pending = s.pending ∧
      (∀ i, i < bs.length → s'.array.rd (a + i) = bs.getD i 0) ∧ s'.dev.hsw.calPending.testBit path = true ∧
      Logs [0x4103] d s'.dev ∧ OnlyParts [.regs, .hsw, .loft, .evt] d s'.dev)

/-- R424, R426, R429, R433: the status commands: a read answers with the page's rail or the device, and a write of 1 at read-and-write level clears
the sticky bits named and no others. The model's own readings behind it: log entries 24, 47 and 48.
Each clause concludes that `exec` answers a next state (`Does`, `Completes`: Safety.lean). -/
def Obligations.StatusCommandsReadAndClear : Prop :=
  (∀ t x, Does (.statusByte t x) (fun d => d.takesRead x = true ∧ d.mgmt.page ≠ 0xFF ∧ d.regs.act.YARD_CFG_EN d.mgmt.page ≠ 0) fun d e =>
    e.mgmt.answer = leBytes 1 (d.stByte d.mgmt.page) ∧ OnlyParts [.acc, .mgmt] d e) ∧
  (∀ t x, Does (.statusWord t x) (fun d => d.takesRead x = true ∧ d.mgmt.page ≠ 0xFF ∧ d.regs.act.YARD_CFG_EN d.mgmt.page ≠ 0) fun d e =>
    e.mgmt.answer = leBytes 2 (d.stWord d.mgmt.page) ∧ OnlyParts [.acc, .mgmt] d e) ∧
  (∀ t x, Does (.statusVout t x) (fun d => d.takesRead x = true ∧ d.mgmt.page ≠ 0xFF ∧ d.regs.act.YARD_CFG_EN d.mgmt.page ≠ 0) fun d e =>
    e.mgmt.answer = leBytes 1 (d.stVout d.mgmt.page) ∧ OnlyParts [.acc, .mgmt] d e) ∧
  (∀ t x, Does (.statusIout t x) (fun d => d.takesRead x = true ∧ d.mgmt.page ≠ 0xFF ∧ d.regs.act.YARD_CFG_EN d.mgmt.page ≠ 0) fun d e =>
    e.mgmt.answer = leBytes 1 (d.stIout d.mgmt.page) ∧ OnlyParts [.acc, .mgmt] d e) ∧
  (∀ t x, Does (.statusTemperature t x) (fun d => d.takesRead x = true ∧ d.mgmt.page ≠ 0xFF ∧ d.regs.act.YARD_CFG_EN d.mgmt.page ≠ 0) fun d e =>
    e.mgmt.answer = leBytes 1 (d.stTemp d.mgmt.page) ∧ OnlyParts [.acc, .mgmt] d e) ∧
  (∀ t x, Does (.statusMfrSpecific t x) (fun d => d.takesRead x = true ∧ d.mgmt.page ≠ 0xFF ∧ d.regs.act.YARD_CFG_EN d.mgmt.page ≠ 0) fun d e =>
    e.mgmt.answer = leBytes 1 (d.stMfr d.mgmt.page) ∧ OnlyParts [.acc, .mgmt] d e) ∧
  (∀ t x, Does (.statusInput t x) (fun d => d.takesRead x = true) fun d e =>
    e.mgmt.answer = leBytes 1 d.stInput ∧ OnlyParts [.acc, .mgmt] d e) ∧
  (∀ t x, Does (.statusCml t x) (fun d => d.takesRead x = true) fun d e =>
    e.mgmt.answer = leBytes 1 d.mgmt.cml ∧ OnlyParts [.acc, .mgmt] d e) ∧
  (∀ t x, Does (.statusVout t x) (fun d => d.takesWrite 0x7A x = true ∧ x.data.length = 1 ∧ d.bars .other = false ∧ 1 ≤ d.acc.level ∧ d.mgmt.page ≠ 0xFF) fun d e =>
    e.mgmt.vout = modAt d.mgmt.vout d.mgmt.page (without · (leNat x.data)) ∧
    { e.mgmt with vout := d.mgmt.vout, answer := d.mgmt.answer, acked := d.mgmt.acked, pec := d.mgmt.pec, cmd := d.mgmt.cmd } = d.mgmt ∧
    OnlyParts [.acc, .mgmt] d e) ∧
  (∀ t x, Does (.statusIout t x) (fun d => d.takesWrite 0x7B x = true ∧ x.data.length = 1 ∧ d.bars .other = false ∧ 1 ≤ d.acc.level ∧ d.mgmt.page ≠ 0xFF) fun d e =>
    e.mgmt.iout = modAt d.mgmt.iout d.mgmt.page (without · (leNat x.data)) ∧
    { e.mgmt with iout := d.mgmt.iout, answer := d.mgmt.answer, acked := d.mgmt.acked, pec := d.mgmt.pec, cmd := d.mgmt.cmd } = d.mgmt ∧
    OnlyParts [.acc, .mgmt] d e) ∧
  (∀ t x, Does (.statusTemperature t x) (fun d => d.takesWrite 0x7D x = true ∧ x.data.length = 1 ∧ d.bars .other = false ∧ 1 ≤ d.acc.level ∧ d.mgmt.page ≠ 0xFF) fun d e =>
    e.mgmt.temp = modAt d.mgmt.temp d.mgmt.page (without · (leNat x.data)) ∧
    { e.mgmt with temp := d.mgmt.temp, answer := d.mgmt.answer, acked := d.mgmt.acked, pec := d.mgmt.pec, cmd := d.mgmt.cmd } = d.mgmt ∧
    OnlyParts [.acc, .mgmt] d e) ∧
  (∀ t x, Does (.statusMfrSpecific t x) (fun d => d.takesWrite 0x80 x = true ∧ x.data.length = 1 ∧ d.bars .other = false ∧ 1 ≤ d.acc.level ∧ d.mgmt.page ≠ 0xFF) fun d e =>
    e.mgmt.mfr = modAt d.mgmt.mfr d.mgmt.page (without · (leNat x.data)) ∧
    { e.mgmt with mfr := d.mgmt.mfr, answer := d.mgmt.answer, acked := d.mgmt.acked, pec := d.mgmt.pec, cmd := d.mgmt.cmd } = d.mgmt ∧
    OnlyParts [.acc, .mgmt] d e) ∧
  (∀ t x, Does (.statusInput t x) (fun d => d.takesWrite 0x7C x = true ∧ x.data.length = 1 ∧ d.bars .other = false ∧ 1 ≤ d.acc.level) fun d e =>
    e.mgmt.input = without d.mgmt.input (leNat x.data) ∧ e.mgmt.vout = d.mgmt.vout ∧ e.mgmt.mfr = d.mgmt.mfr ∧
    OnlyParts [.acc, .mgmt] d e) ∧
  (∀ t x, Does (.statusCml t x) (fun d => d.takesWrite 0x7E x = true ∧ x.data.length = 1 ∧ d.bars .other = false ∧ 1 ≤ d.acc.level) fun d e =>
    e.mgmt.cml = without d.mgmt.cml (leNat x.data) ∧ e.mgmt.vout = d.mgmt.vout ∧ e.mgmt.mfr = d.mgmt.mfr ∧
    OnlyParts [.acc, .mgmt] d e) ∧
  (∀ t x, Does (.statusWord t x) (fun d => d.takesWrite 0x79 x = true ∧ x.data.length = 2 ∧ d.bars .other = false ∧ 1 ≤ d.acc.level ∧ d.mgmt.page ≠ 0xFF ∧ leNat x.data = 2 ^ 15) fun d e =>
    e.mgmt.vout = modAt d.mgmt.vout d.mgmt.page (without · 0xFF) ∧ e.mgmt.cml = without d.mgmt.cml 0 ∧ OnlyParts [.acc, .mgmt] d e) ∧
  (∀ t x, Does (.clearFaults t x) (fun d => d.takesWrite 0x03 x = true ∧ x.data = [] ∧ d.bars .other = false ∧ 1 ≤ d.acc.level ∧
      d.mgmt.page ≠ 0xFF) fun d e =>
    e.mgmt.vout = modAt d.mgmt.vout d.mgmt.page (without · 0xFF) ∧ e.mgmt.mfr = modAt d.mgmt.mfr d.mgmt.page (without · 0xFF) ∧
    e.mgmt.input = without d.mgmt.input 0xFF ∧ e.mgmt.cml = without d.mgmt.cml 0xFF ∧
    (d.isStandby = false → (e.rail d.mgmt.page).state ≠ .latched) ∧
    ((∀ r ∈ d.rails, r.state ≠ .latched) → OnlyParts [.regs, .lanes, .stalls, .rails, .evt, .acc, .mgmt] d e))

/-- R320, R321, R322: telemetry: each read answers in its format with the quantity and the rail that its rule gives; one with no
rail, or with a rail not enabled, answers with zeros. The model's own readings behind it: log entries 18, 19, 42 and 47.
Each clause concludes that `exec` answers a next state (`Does`, `Completes`: Safety.lean). -/
def Obligations.TelemetryReadsAnswer : Prop :=
  (∀ t x, Does (.readVin t x) (fun d => d.takesRead x = true) fun d e =>
    e.mgmt.answer = leBytes 2 (linear11 ((d.hsw.v : Int)) 1000) ∧ OnlyParts [.acc, .mgmt] d e) ∧
  (∀ t x, Does (.readIin t x) (fun d => d.takesRead x = true) fun d e =>
    e.mgmt.answer = leBytes 2 (linear11 (d.hsw.i) 1000) ∧ OnlyParts [.acc, .mgmt] d e) ∧
  (∀ t x, Does (.readPin t x) (fun d => d.takesRead x = true) fun d e =>
    e.mgmt.answer = leBytes 2 (linear11 (d.hsw.p) 1000) ∧ OnlyParts [.acc, .mgmt] d e) ∧
  (∀ t x, Does (.readVout t x) (fun d => d.takesRead x = true ∧ d.mgmt.page ≠ 0xFF ∧ d.regs.act.YARD_CFG_EN d.mgmt.page ≠ 0) fun d e =>
    e.mgmt.answer = leBytes 2 (voutWord (d.voutCode d.mgmt.page)) ∧ OnlyParts [.acc, .mgmt] d e) ∧
  (∀ t x, Does (.readIout t x) (fun d => d.takesRead x = true ∧ d.mgmt.page ≠ 0xFF ∧ d.regs.act.YARD_CFG_EN d.mgmt.page ≠ 0) fun d e =>
    e.mgmt.answer = leBytes 2 (linear11 (d.ioutFine d.mgmt.page) (2 ^ 19)) ∧ OnlyParts [.acc, .mgmt] d e) ∧
  (∀ t x, Does (.readPout t x) (fun d => d.takesRead x = true ∧ d.mgmt.page ≠ 0xFF ∧ d.regs.act.YARD_CFG_EN d.mgmt.page ≠ 0) fun d e =>
    e.mgmt.answer = leBytes 2 (linear11 (d.voutCode d.mgmt.page * d.ioutFine d.mgmt.page) (2000 * 2 ^ 19)) ∧ OnlyParts [.acc, .mgmt] d e) ∧
  (∀ t x, Does (.readTemperature1 t x) (fun d => d.takesRead x = true ∧ d.mgmt.page ≠ 0xFF ∧ d.regs.act.YARD_CFG_EN d.mgmt.page ≠ 0) fun d e =>
    e.mgmt.answer = leBytes 2 (linear11 (((d.rail d.mgmt.page).hot : Int) - 64) 1) ∧ OnlyParts [.acc, .mgmt] d e) ∧
  (∀ t x, Does (.readTemperature2 t x) (fun d => d.takesRead x = true) fun d e =>
    e.mgmt.answer = leBytes 2 (linear11 (if d.meas.dieTaken then 25 * (d.meas.dieTemp : Int) - 54630 else 0) 200) ∧ OnlyParts [.acc, .mgmt] d e) ∧
  (∀ t x, Does (.readFrequency t x) (fun d => d.takesRead x = true ∧ d.mgmt.page ≠ 0xFF ∧ d.regs.act.YARD_CFG_EN d.mgmt.page ≠ 0) fun d e =>
    e.mgmt.answer = leBytes 2 (linear11 51200000 (d.tp d.mgmt.page)) ∧ OnlyParts [.acc, .mgmt] d e) ∧
  (∀ t x, Does (.readVout t x) (fun d => d.takesRead x = true ∧
      (d.mgmt.page = 0xFF ∨ d.regs.act.YARD_CFG_EN d.mgmt.page = 0)) fun d e =>
    e.mgmt.answer = [0, 0] ∧ e.stat aACC_LASTERR = BitVec.ofNat 32 (2 + 256 * 0x8B) ∧ OnlyParts [.regs, .acc, .mgmt] d e)

/-- R320, R344, R421, R422, R425, R430: the fixed answers and the identity's, the alert response, the clock-low timeout, and a command that the
device does not support. The model's own readings behind it: log entries 47 and 50.
Each clause concludes that `exec` answers a next state (`Does`, `Completes`: Safety.lean). -/
def Obligations.FixedAnswersAndTheBus : Prop :=
  (∀ t x, Does (.capability t x) (fun d => d.takesRead x = true) fun d e =>
    e.mgmt.answer = [0xD0] ∧ OnlyParts [.acc, .mgmt] d e) ∧
  (∀ t x, Does (.voutMode t x) (fun d => d.takesRead x = true) fun d e =>
    e.mgmt.answer = [0x14] ∧ OnlyParts [.acc, .mgmt] d e) ∧
  (∀ t x, Does (.pmbusRevision t x) (fun d => d.takesRead x = true) fun d e =>
    e.mgmt.answer = [0x44] ∧ OnlyParts [.acc, .mgmt] d e) ∧
  (∀ t x, Does (.mfrId t x) (fun d => d.takesRead x = true) fun d e =>
    e.mgmt.answer = [0x44, 0x52, 0x41, 0x56, 0x4E, 0x45, 0x4E] ∧ OnlyParts [.acc, .mgmt] d e) ∧
  (∀ t x, Does (.mfrModel t x) (fun d => d.takesRead x = true) fun d e =>
    e.mgmt.answer = [0x51, 0x58, 0x38, 0x2D, 0x35, 0x31, 0x32] ∧ OnlyParts [.acc, .mgmt] d e) ∧
  (∀ t x, Does (.mfrRevision t x) (fun d => d.takesRead x = true) fun d e =>
    e.mgmt.answer = [0x42, 0x32] ∧ OnlyParts [.acc, .mgmt] d e) ∧
  (∀ t x s, (s.seen (.mfrSerial t x)).takesRead x = true → Completes (.mfrSerial t x) s fun d e =>
    e.mgmt.answer = leBytes 8 (numAt (d.loft.identity s.array) 0 8) ∧ OnlyParts [.acc, .mgmt] d e) ∧
  (∀ t x s, (s.seen (.icDeviceId t x)).takesRead x = true → Completes (.icDeviceId t x) s fun d e =>
    e.mgmt.answer = [0x51, 0x58, 0x38, 0x2D, 0x35, 0x31, 0x32, 0x2D] ++ leBytes 1 (numAt (d.loft.identity s.array) 0x0D 1) ∧ OnlyParts [.acc, .mgmt] d e) ∧
  (∀ t x s, (s.seen (.icDeviceRev t x)).takesRead x = true → Completes (.icDeviceRev t x) s fun d e =>
    e.mgmt.answer = leBytes 1 (numAt (d.loft.identity s.array) 0x0C 1) ∧ OnlyParts [.acc, .mgmt] d e) ∧
  (∀ t, Does (.smbusAlertResponse t) (fun d => d.hears = true ∧ d.malertLow = true) fun d e =>
    e.mgmt = { d.mgmt with answer := [BitVec.ofNat 8 (2 * d.busAddr)], acked := true, pec := none } ∧ OnlyParts [.mgmt] d e) ∧
  (∀ t, Does (.smbusAlertResponse t) (fun d => d.hears = true ∧ d.malertLow = false) fun d e =>
    e.mgmt = { d.mgmt with answer := [], acked := false, pec := none } ∧ OnlyParts [.mgmt] d e) ∧
  (∀ t, Does (.smbusClockLowTimeout t) (fun _ => True) fun d e =>
    e.mgmt = { d.mgmt with answer := [], pec := none } ∧ OnlyParts [.mgmt] d e) ∧
  (∀ t code x, Does (.unsupportedCommand t code x) (fun d => d.takesRead x = true ∧
      supportedCodes.contains (code % 256) = false) fun d e =>
    e.mgmt.cml = d.mgmt.cml ||| 0x80 ∧ e.stat aACC_LASTERR = BitVec.ofNat 32 (1 + 256 * (code % 256)) ∧
    OnlyParts [.regs, .acc, .mgmt] d e)

/-- R187, R190, R254, R425, R426, R427, R428, R433: PAGE selects a rail; OPERATION and ON_OFF_CONFIG write the enables of the page's rails; VOUT_COMMAND
moves the destination of a rail that PMBus owns; VOUT_MAX and VOUT_MIN write its limits; a write without the level is refused.
The model's own readings behind it: log entries 26, 47 and 50.
Each clause concludes that `exec` answers a next state (`Does`, `Completes`: Safety.lean). -/
def Obligations.PmbusControlsTheRails : Prop :=
  (∀ t x, Does (.page t x) (fun d => d.takesWrite 0x00 x = true ∧ x.data.length = 1 ∧ d.bars .page = false ∧
      (leNat x.data ≤ 7 ∨ leNat x.data = 0xFF)) fun d e => e.mgmt.page = leNat x.data ∧ OnlyParts [.acc, .mgmt] d e) ∧
  (∀ t x, Does (.page t x) (fun d => d.takesWrite 0x00 x = true ∧ x.data.length = 1 ∧ d.bars .page = false ∧
      7 < leNat x.data ∧ leNat x.data ≠ 0xFF) fun d e => e.mgmt.page = d.mgmt.page ∧ OnlyParts [.regs, .acc, .mgmt] d e) ∧
  (∀ t x n, Does (.operation t x) (fun d => d.takesWrite 0x01 x = true ∧ x.data = [0x80] ∧ d.bars .other = false ∧
      1 ≤ d.acc.level ∧ n < 8 ∧ d.mgmt.page = n ∧ d.regs.act.rd (aSYS_RAILEN n) = d.regs.hold.rd (aSYS_RAILEN n) ∧
      (d.regs.act.SYS_RAILEN_ONOFF n).testBit 4 = true ∧ (d.regs.act.SYS_RAILEN_ONOFF n).testBit 3 = true) fun d e =>
    e.regs.act.SYS_RAILEN_OPER n = 0x80 ∧ e.regs.hold.SYS_RAILEN_OPER n = 0x80 ∧
    e.regs.act.SYS_RAILEN_ONOFF n = d.regs.act.SYS_RAILEN_ONOFF n ∧
    OnlyParts [.regs, .sys, .lanes, .stalls, .rails, .evt, .acc, .mgmt] d e) ∧
  (∀ t x n, Does (.operation t x) (fun d => d.takesWrite 0x01 x = true ∧ x.data = [0x40] ∧ d.isStandby = false ∧ d.bars .other = false ∧
      1 ≤ d.acc.level ∧ n < 8 ∧ d.mgmt.page = n ∧ d.regs.act.rd (aSYS_RAILEN n) = d.regs.hold.rd (aSYS_RAILEN n) ∧
      (d.regs.act.SYS_RAILEN_ONOFF n).testBit 4 = true ∧ (d.regs.act.SYS_RAILEN_ONOFF n).testBit 3 = true ∧
      (d.regs.act.SYS_RAILEN_ONOFF n).testBit 2 = false ∧ d.regs.act.SYS_RAILEN_OPER n = 0x80 ∧
      (d.rail n).state = .reg ∧ (d.rail n).fired = true ∧ d.leaderOf n = none ∧ d.causesNow n = []) fun d e =>
    (e.rail n).state = .stop ∧ (e.rail n).cause = 1 ∧ (e.rail n).pg = false ∧
    OnlyParts [.regs, .sys, .lanes, .stalls, .yards, .laws, .bals, .lawUnits, .balUnits, .rails, .prot, .meas, .evt, .acc, .mgmt,
      .pair] d e) ∧
  (∀ t x n, Does (.onOffConfig t x) (fun d => d.takesWrite 0x02 x = true ∧ x.data.length = 1 ∧ (leNat x.data).testBit 1 = true ∧
      (leNat x.data).testBit 4 = false ∧ d.bars .other = false ∧ 1 ≤ d.acc.level ∧ n < 8 ∧ d.mgmt.page = n ∧
      (d.regs.act.SYS_RAILEN_ONOFF n).testBit 4 = false) fun d e =>
    e.regs.act.SYS_RAILEN_ONOFF n = leNat x.data % 32 ∧ e.regs.hold.SYS_RAILEN_ONOFF n = leNat x.data % 32 ∧
    e.regs.hold.SYS_RAILEN_OPER n = d.regs.hold.SYS_RAILEN_OPER n ∧ OnlyParts [.regs, .acc, .mgmt] d e) ∧
  (∀ t x, Does (.onOffConfig t x) (fun d => d.takesWrite 0x02 x = true ∧ x.data.length = 1 ∧ (leNat x.data).testBit 1 = false ∧
      d.bars .other = false ∧ 1 ≤ d.acc.level) fun d e =>
    e.regs.act = d.regs.act ∧ e.stat aACC_LASTERR = BitVec.ofNat 32 (2 + 256 * 0x02) ∧ OnlyParts [.regs, .acc, .mgmt] d e) ∧
  (∀ t x n, Does (.voutCommand t x) (fun d => d.takesWrite 0x21 x = true ∧ x.data.length = 2 ∧ d.bars .other = false ∧
      1 ≤ d.acc.level ∧ n < d.rails.length ∧ d.mgmt.page = n ∧ n ≠ 0xFF ∧ d.owner n = some 4 ∧
      d.inRange n (codeOfWord (leNat x.data)) = true ∧ codeOfWord (leNat x.data) ≠ 0) fun d e =>
    (e.rail n).dest = codeOfWord (leNat x.data) ∧ (e.rail n).cls = d.regs.act.LCP_RAILCFG_PM_SLEW n ∧
    (e.rail n).cmd.src = 4 ∧ OnlyParts [.regs, .lanes, .stalls, .rails, .evt, .acc, .mgmt] d e) ∧
  (∀ t x n, Does (.voutCommand t x) (fun d => d.takesWrite 0x21 x = true ∧ x.data.length = 2 ∧ d.bars .other = false ∧
      1 ≤ d.acc.level ∧ d.mgmt.page = n ∧ n ≠ 0xFF ∧ d.owner n ≠ some 4) fun d e =>
    e.stat aACC_LASTERR = BitVec.ofNat 32 (5 + 256 * 0x21) ∧ OnlyParts [.regs, .acc, .mgmt] d e) ∧
  (∀ t x n, Does (.voutMax t x) (fun d => d.takesWrite 0x24 x = true ∧ x.data.length = 2 ∧ d.bars .other = false ∧
      1 ≤ d.acc.level ∧ n < 8 ∧ d.mgmt.page = n ∧ codeOfWord (leNat x.data) ≤ 4095) fun d e =>
    e.regs.hold.LCP_LIM_VMAX n = codeOfWord (leNat x.data) ∧ e.regs.hold.LCP_LIM_VMIN n = d.regs.hold.LCP_LIM_VMIN n ∧
    OnlyParts [.regs, .acc, .mgmt] d e) ∧
  (∀ t x n, Does (.voutMin t x) (fun d => d.takesWrite 0x2B x = true ∧ x.data.length = 2 ∧ d.bars .other = false ∧
      1 ≤ d.acc.level ∧ n < 8 ∧ d.mgmt.page = n ∧ codeOfWord (leNat x.data) ≤ 4095) fun d e =>
    e.regs.hold.LCP_LIM_VMIN n = codeOfWord (leNat x.data) ∧ e.regs.hold.LCP_LIM_VMAX n = d.regs.hold.LCP_LIM_VMAX n ∧
    OnlyParts [.regs, .acc, .mgmt] d e) ∧
  (∀ t x, Does (.clearFaults t x) (fun d => d.takesWrite 0x03 x = true ∧ x.data = [] ∧ d.bars .other = false ∧
      d.acc.level = 0) fun d e =>
    e.stat aACC_LASTERR = BitVec.ofNat 32 (4 + 256 * 0x03) ∧ e.mgmt.vout = d.mgmt.vout ∧ e.mgmt.iout = d.mgmt.iout ∧
    OnlyParts [.regs, .acc, .mgmt] d e)

/-- A step takes the command at the front of the queue and runs it on the rest; an empty queue idles (the model's choice,
log entry 1). -/
def Obligations.StepRunsTheFrontCommand : Prop :=
  (∀ c cs s, s.pending = c :: cs → step s = exec c { s with pending := cs }) ∧ (∀ s, s.pending = [] → step s = .next s)

/-- R41, R345: no command touches the queue, and none changes what the fuses hold: what waits when a command begins waits when it
ends. -/
def Obligations.CommandsKeepTheQueueAndTheFuses : Prop :=
  ∀ c s s', exec c s = .next s' →
    s'.pending = s.pending ∧ s'.dev.deviceKey = s.dev.deviceKey ∧ s'.dev.fuseSerial = s.dev.fuseSerial

/-- R335, R356: only the end of a loft step, a port that stops answering, and the events that cut a step short store into the
loft's array. -/
def Obligations.OnlyLoftStepsReachTheArray : Prop :=
  ∀ c s s', storesArray c = false → exec c s = .next s' → s'.array = s.array

/-- Every step keeps the loft's array in its canonical form. The model's own readings behind it: log entry 3. -/
def Obligations.EveryStepKeepsTheArrayCanonical : Prop :=
  ∀ s s', s.arrayWf = true → step s = .next s' → s'.arrayWf = true

/-- R239, R314, R376, R358, R433: every step keeps the bounded queues within their depths. -/
def Obligations.EveryStepKeepsQueuesWithinTheirDepths : Prop :=
  ∀ s s', s.dev.queuesBounded → step s = .next s' → s'.dev.queuesBounded

/-- R25, R35, R111: after reset the device stands at step 1 of a cold start with every rail off, no session open, a stopped
timebase and nothing waiting; every stored register and every counter reads 0.
The model's own readings behind it: log entry 2. -/
def Obligations.ResetIsAColdStartAtStepOne : Prop :=
  State.reset.dev.sys.state = .start ∧ State.reset.dev.sys.step = 1 ∧ State.reset.dev.sys.kind = 0 ∧
  (∀ r ∈ State.reset.dev.rails, r.state = .off) ∧ State.reset.dev.acc.level = 0 ∧ State.reset.dev.tb.running = false ∧
  State.reset.dev.hsw.state = .off ∧ (∀ a, State.reset.dev.regs.act.rd a = 0 ∧ State.reset.dev.stat a = 0 ∧
    State.reset.dev.regs.cnt.rd a = 0 ∧ State.reset.dev.regs.snap.rd a = 0) ∧ State.reset.pending = [] ∧ State.reset.arrayWf = true ∧
  State.reset.dev.queuesBounded

/-- Every command completes on every state: `exec` answers a next state, with the queue as it was. The four that carry a step of
the host into the array do so where the step, if the words buffered make one, ends within the array (R333, R358); past its end
they fault. The model's own readings behind it: log entry 20. -/
def Obligations.CommandsStopOnlyPastTheArray : Prop :=
  (∀ c s, (match c with
      | .loftWctlGo .. | .registerWrite .. | .regWrite .. | .regData .. => (s.seen c).hostStarts = false ∨ (s.seen c).hostFits = true
      | _ => True) → ∃ s', exec c s = .next s' ∧ s'.pending = s.pending) ∧
  (∀ c s, (∃ s', exec c s = .next s') ∨ exec c s = .fault .loftBeyondArray) ∧
  (∀ c s, exec c s = .fault .loftBeyondArray → match c with
    | .loftWctlGo .. | .registerWrite .. | .regWrite .. | .regData .. => True
    | _ => False)

/-- R25: the device changes state only on the events of the table, each move on those that it names for it (`mayMove`). -/
def Obligations.DeviceStateMovesAsTheTableSays : Prop :=
  ∀ c s s', exec c s = .next s' → s'.dev.sys.state ≠ (s.seen c).sys.state →
    mayMove c (s.seen c).sys.state s'.dev.sys.state = true

/-- R83, R86 to R91, R94, R95: every frame the device builds carries its TYPE, its POS, its fields and a CRC that checks. -/
def Obligations.FrameBodiesCarryTheirFields : Prop :=
  crc8 [0x31, 0x32, 0x33, 0x34, 0x35, 0x36, 0x37, 0x38, 0x39] = 0xF4 ∧
  (∀ b : Body, bodyOk b = true ↔
    crc8 [bodyBits b 63 56, bodyBits b 55 48, bodyBits b 47 40, bodyBits b 39 32,
      bodyBits b 31 24, bodyBits b 23 16, bodyBits b 15 8] = bodyBits b 7 0) ∧
  (∀ pos start on seg nlim final, pos < 32 → let b := edgeBody pos start on seg nlim final
    bodyOk b = true ∧ bodyBits b 63 60 = 1 ∧ bodyBits b 59 55 = pos ∧
    bodyBits b 54 35 = start % 2 ^ 20 ∧ bodyBits b 34 19 = on % 2 ^ 16 ∧ bodyBits b 18 15 = seg % 16 ∧
    bodyBits b 14 12 = nlim % 8 ∧ bodyBits b 11 11 = final.toNat ∧ bodyBits b 10 8 = 0) ∧
  (∀ posmask dur seg, let b := burstBody posmask dur seg
    bodyOk b = true ∧ bodyBits b 63 60 = 2 ∧ bodyBits b 59 55 = 31 ∧
    bodyBits b 54 39 = posmask % 2 ^ 16 ∧ bodyBits b 38 23 = dur % 2 ^ 16 ∧
    bodyBits b 22 19 = seg % 16 ∧ bodyBits b 18 8 = 0) ∧
  (∀ posmask dur lson nlim, let b := cutBody posmask dur lson nlim
    bodyOk b = true ∧ bodyBits b 63 60 = 3 ∧ bodyBits b 59 55 = 31 ∧
    bodyBits b 54 39 = posmask % 2 ^ 16 ∧ bodyBits b 38 23 = dur % 2 ^ 16 ∧
    bodyBits b 22 22 = lson.toNat ∧ bodyBits b 21 19 = nlim % 8 ∧ bodyBits b 18 8 = 0) ∧
  (∀ t, let b := holdBody t
    bodyOk b = true ∧ bodyBits b 63 60 = 4 ∧ bodyBits b 59 55 = 31 ∧ bodyBits b 54 23 = t % 2 ^ 32 ∧
    bodyBits b 22 8 = 0) ∧
  (∀ pos kind, pos < 32 → let b := probeBody pos kind
    bodyOk b = true ∧ bodyBits b 63 60 = 5 ∧ bodyBits b 59 55 = pos ∧ bodyBits b 54 52 = kind % 8 ∧ bodyBits b 51 8 = 0) ∧
  (∀ pos param value, pos < 32 → let b := cfgBody pos param value
    bodyOk b = true ∧ bodyBits b 63 60 = 6 ∧ bodyBits b 59 55 = pos ∧ bodyBits b 54 47 = param % 256 ∧
    bodyBits b 46 15 = value % 2 ^ 32 ∧ bodyBits b 14 8 = 0) ∧
  (∀ pos word, pos < 32 → let b := censusBody pos word
    bodyOk b = true ∧ bodyBits b 63 60 = 10 ∧ bodyBits b 59 55 = pos ∧ bodyBits b 54 54 = 0 ∧
    bodyBits b 53 52 = word % 4 ∧ bodyBits b 51 8 = 0) ∧
  (∀ term domid, let b := claimBody term domid
    bodyOk b = true ∧ bodyBits b 63 60 = 15 ∧ bodyBits b 59 55 = 31 ∧ bodyBits b 54 52 = 0 ∧
    bodyBits b 51 36 = term % 2 ^ 16 ∧ bodyBits b 35 20 = domid % 2 ^ 16 ∧ bodyBits b 19 8 = 0)

/-- R188: SLEWQ of the sixteen slew classes, in 0.25 mV/µs. A class moves a rail by SLEWQ / 4 codes in a sample at E1's rate, and
the same table governs the ramp by SS_SLEW, the ramp down by STOP_SLEW, the class of a destination command (that of a SETV or
PM_SLEW), and the pre-position class of STEP_AHEAD. The clauses on a boundary follow R189 and R203; inc is SLEWQ × RATE / 25 in
1/256 of a code. -/
def Obligations.SlewClassesFollowTheTable : Prop :=
  (List.range 16).map slewq = [2, 3, 4, 5, 6, 8, 12, 16, 24, 32, 48, 64, 96, 128, 192, 256] ∧
  (∀ (d : Dev) n c, d.rate n = 1600 → 4 * d.inc n c = 256 * slewq c) ∧
  (∀ (d : Dev) n track, (d.rail n).state = .ramp → (d.rail n).searched = true → (d.rail n).following = false →
    (d.rail n).cmdAt = none → (d.rail n).pos < 256 * (d.rail n).rdest →
    ((d.rampStep n track).rail n).pos =
      min ((d.rail n).pos + slewq (d.regs.act.SYS_RAILSTART_SS_SLEW n) * d.rate n / 25) (256 * (d.rail n).rdest)) ∧
  (∀ (d : Dev) n track, (d.rail n).state = .reg → (d.rail n).cmdAt = none → (d.rail n).pos < 256 * (d.rail n).rdest →
    ((d.rampStep n track).rail n).pos =
      min ((d.rail n).pos + slewq (d.rail n).rcls * d.rate n / 25) (256 * (d.rail n).rdest)) ∧
  (∀ (d : Dev) n track ta, (d.rail n).state = .reg → (d.rail n).cmdAt = some ta → ta + 1024 ≤ d.now →
    ((d.rampStep n track).rail n).rcls = (d.rail n).cls) ∧
  (∀ (d : Dev) n track, (d.rail n).state = .stop → (d.rail n).coast = false → (d.rail n).following = false →
    d.regs.act.XNT_RETCFG_EN = 0 →
    256 * (4 * d.regs.act.SYS_RAILSTART_STOP_FLOOR n) + slewq (d.regs.act.SYS_RAILSTART_STOP_SLEW n) * d.rate n / 25 <
      (d.rail n).pos →
    ((d.rampStep n track).rail n).pos = (d.rail n).pos - slewq (d.regs.act.SYS_RAILSTART_STOP_SLEW n) * d.rate n / 25) ∧
  (∀ (d : Dev) n code cls seq src notify, n < d.rails.length → code ≠ 0 →
    ((d.setDest n code cls seq src notify).rail n).cls = cls ∧ ((d.setDest n code cls seq src notify).rail n).dest = code) ∧
  (∀ (d : Dev) n, let stp : Int := ((max 1 (slewq (d.regs.act.LCP_STEPCFG_PSLEW n) * d.rate n / 6400) : Nat) : Int)
    (d.rail n).mode = .prepos → d.vmin n ≤ (d.rail n).code → 0 ≤ (d.rail n).off → (d.rail n).off + stp ≤ (d.rail n).offt →
    ((d.rail n).code : Int) + (d.rail n).off + stp ≤ d.vmax n →
    ((d.offStep n).rail n).off = (d.rail n).off + stp)

/-- R4, and the layouts of R5 and R6: the global address word of each kind of object carries KIND, the domain ID, the stall number and the segment, and
its reserved bits are 0. -/
def Obligations.AddressWordsCarryTheirFields : Prop :=
  (∀ (d : Dev) kind stall seg, kind < 8 → let w := (d.gaWord kind stall seg).toNat
    w / 2 ^ 29 = kind ∧ w / 2 ^ 27 % 4 = 0 ∧ w / 2 ^ 11 % 2 ^ 16 = d.dom.id % 2 ^ 16 ∧ w / 4 % 2 ^ 9 = stall % 2 ^ 9 ∧
    w % 4 = seg % 4) ∧
  (∀ (d : Dev) lane pos, lane < 32 → pos < 16 → let w := (d.gaStall (lane * 16 + pos)).toNat
    w / 2 ^ 29 = 1 ∧ w / 64 % 32 = lane ∧ w / 4 % 16 = pos ∧ w % 4 = 0) ∧
  (∀ (d : Dev) lane, lane < 32 → let w := (d.gaLane lane).toNat
    w / 2 ^ 29 = 2 ∧ w / 64 % 32 = lane ∧ w / 4 % 16 = 0 ∧ w % 4 = 0) ∧
  (∀ (d : Dev) rail, rail < 8 → let w := (d.gaRail rail).toNat
    w / 2 ^ 29 = 3 ∧ w / 4 % 8 = rail ∧ w / 32 % 64 = 0 ∧ w % 4 = 0) ∧
  (∀ d : Dev, let w := d.gaDev.toNat
    w / 2 ^ 29 = 4 ∧ w / 4 % 2 ^ 9 = 0 ∧ w % 4 = 0)

/-- R72: the ratio of a measured SYNC_IN is a whole number from 64 to 320, within 0.12 percent, and no other whole number of
the range is nearer; the six frequencies of the table have their ratios, and one outside 10 to 50 MHz has none. -/
def Obligations.TheRatioIsTheNearestWholeNumber : Prop :=
  (∀ hz m, multOf hz = some m → 10000000 ≤ hz ∧ hz ≤ 50000000 ∧ 64 ≤ m ∧ m ≤ 320 ∧
    (m * hz - 3200000000) * 10000 ≤ 12 * 3200000000 ∧ (3200000000 - m * hz) * 10000 ≤ 12 * 3200000000 ∧
    ∀ k, ((m * hz : Int) - 3200000000).natAbs ≤ ((k * hz : Int) - 3200000000).natAbs) ∧
  (∀ hz, hz < 10000000 ∨ 50000000 < hz → multOf hz = none) ∧
  [10000000, 12500000, 20000000, 25000000, 40000000, 50000000].map multOf =
    [some 320, some 256, some 160, some 128, some 80, some 64] ∧
  (∀ m, 64 ≤ m → m ≤ 320 → 3200000000 % m = 0 → multOf (3200000000 / m) = some m)

/-- R350: a spread counter reads the VALUE of its newest valid cell; without a newest one, the greatest VALUE among its
valid cells; and 0 with no valid cell. One never written reads 0. `base` is the counter's base of R333 and R334. -/
def Obligations.SpreadCountersReadTheirNewestCell : Prop :=
  ∀ (l : Loft) (m : Memory) (k : Nat), m.wf = true → k < 516 → let base := 0x2000000 + 0x80 * k
    (∀ j, l.cellNewest m base j → l.counterVal m k = l.cellWord m base j % 2 ^ 48) ∧
    ((¬ ∃ j, l.cellNewest m base j) → (∃ j < 16, l.cellValid m base j) →
      ∃ j < 16, l.cellValid m base j ∧ l.counterVal m k = l.cellWord m base j % 2 ^ 48 ∧
        l.newest m k = some (j, l.cellWord m base j / 2 ^ 48 % 256, l.cellWord m base j % 2 ^ 48) ∧
        ∀ i < 16, l.cellValid m base i →
          l.cellWord m base i % 2 ^ 48 < l.cellWord m base j % 2 ^ 48 ∨
          (l.cellWord m base i % 2 ^ 48 = l.cellWord m base j % 2 ^ 48 ∧ j ≤ i)) ∧
    ((∀ j < 16, ¬ l.cellValid m base j) → l.counterVal m k = 0) ∧
    ((∀ j < 16, l.cellWord m base j = 0 ∧ l.failsIn (base + 8 * j) 8 = []) →
      l.newest m k = some (0, 0, 0) ∧ l.counterVal m k = 0)

/-- R351: a new value of a spread counter is one step of eight bytes, an aligned word, and a counter whose step is programmed reads that
value, where the counter had a newest valid cell or no valid cell. The model's own readings behind it: log entries 3 and 43. -/
def Obligations.SpreadCountersReadBackWhatIsWritten : Prop :=
  ∀ (m : Memory) (d : Dev) (k v fuel : Nat), m.wf = true → k < 516 → v < 2 ^ 48 →
    ((∃ j, d.loft.cellNewest m (0x2000000 + 0x80 * k) j) ∨
      ∀ j < 16, ¬ d.loft.cellValid m (0x2000000 + 0x80 * k) j) →
    let x := d.loft.counterStep m k v
    let r := programPages [] [] (fuel + 2) x.1 x.2 m d
    x.2.length = 8 ∧ x.1 % 8 = 0 ∧ r.2.2 = .whole ∧ r.1.wf = true ∧ r.2.1.loft.counterVal r.1 k = v
end

