-- ==== Sys2Proof/Laws/Cells.lean ====
section
/-! SUPPORT. The laws of the sparse maps: a read after a store, and that every store keeps the canonical form. -/

namespace Sys2Proof.Machine

-- One proof after another: a worker thread for each would pass the memory limit.
set_option Elab.async false

variable {α : Type} [DecidableEq α] {z : α}

omit [DecidableEq α] in
theorem Cells.get_without (m : List (Nat × α)) (a b : Nat) :
    Cells.get z (Cells.without m a) b = if b = a then z else Cells.get z m b := by
  induction m with
  | nil => simp [Cells.without, Cells.get]
  | cons c m ih =>
    obtain ⟨k, w⟩ := c
    simp only [Cells.without, List.filter_cons] at ih ⊢
    by_cases h : k = a
    · subst h; simp only [ne_eq, not_true_eq_false, decide_false, Bool.false_eq_true, if_false, ih, Cells.get]
      split <;> rfl
    · simp only [ne_eq, h, not_false_eq_true, decide_true, if_true, Cells.get, ih]
      by_cases hb : b = k
      · subst hb; simp [h]
      · simp [hb]

/-- A read after a store gives the value stored, and every other key reads as before. -/
theorem Cells.get_set (m : List (Nat × α)) (a b : Nat) (v : α) :
    Cells.get z (Cells.set z m a v) b = if b = a then v else Cells.get z m b := by
  induction m with
  | nil => by_cases h : v = z <;> simp [Cells.set, Cells.get, h]
  | cons c m ih =>
    obtain ⟨k, w⟩ := c
    unfold Cells.set
    split
    · rename_i hk
      simp only [Cells.get, ih]
      by_cases hb : b = k
      · subst hb; simp [Nat.ne_of_lt hk]
      · simp [hb]
    · split
      · rename_i hv; rw [Cells.get_without]; simp [hv]
      · rw [Cells.get]; split
        · rfl
        · rw [Cells.get_without]; simp [*]

theorem Cells.wfFrom_mono {m : List (Nat × α)} {lo lo' : Nat} (h : lo' ≤ lo) (w : Cells.wfFrom z lo m = true) :
    Cells.wfFrom z lo' m = true := by
  cases m with
  | nil => rfl
  | cons c m => simp only [Cells.wfFrom, Bool.and_eq_true, decide_eq_true_eq] at w ⊢; exact ⟨⟨by omega, w.1.2⟩, w.2⟩

theorem Cells.wfFrom_without {m : List (Nat × α)} {lo : Nat} (a : Nat) (w : Cells.wfFrom z lo m = true) :
    Cells.wfFrom z lo (Cells.without m a) = true := by
  induction m generalizing lo with
  | nil => rfl
  | cons c m ih =>
    simp only [Cells.wfFrom, Bool.and_eq_true, decide_eq_true_eq] at w
    simp only [Cells.without, List.filter_cons] at ih ⊢
    split
    · simp only [Cells.wfFrom, Bool.and_eq_true, decide_eq_true_eq]; exact ⟨w.1, ih w.2⟩
    · exact Cells.wfFrom_mono (by omega) (ih w.2)

/-- No key below the bound of a canonical map is listed. -/
theorem Cells.without_below {m : List (Nat × α)} {lo a : Nat} (h : a < lo) (w : Cells.wfFrom z lo m = true) :
    Cells.without m a = m := by
  induction m generalizing lo with
  | nil => rfl
  | cons c m ih =>
    simp only [Cells.wfFrom, Bool.and_eq_true, decide_eq_true_eq] at w
    simp only [Cells.without, List.filter_cons] at ih ⊢
    have : c.1 ≠ a := by omega
    simp only [ne_eq, this, not_false_eq_true, decide_true, if_true, ih (by omega : a < c.1 + 1) w.2]

/-- A store keeps the canonical form. -/
theorem Cells.wfFrom_set {m : List (Nat × α)} {lo a : Nat} (v : α) (h : lo ≤ a) (w : Cells.wfFrom z lo m = true) :
    Cells.wfFrom z lo (Cells.set z m a v) = true := by
  induction m generalizing lo with
  | nil => by_cases hv : v = z <;> simp [Cells.set, Cells.wfFrom, hv, h]
  | cons c m ih =>
    obtain ⟨k, x⟩ := c
    have w0 := w
    simp only [Cells.wfFrom, Bool.and_eq_true, decide_eq_true_eq] at w
    unfold Cells.set
    split
    · simp only [Cells.wfFrom, Bool.and_eq_true, decide_eq_true_eq]; exact ⟨w.1, ih (by omega) w.2⟩
    · split
      · exact Cells.wfFrom_without a w0
      · rename_i hk hv
        simp only [Cells.wfFrom, Bool.and_eq_true, decide_eq_true_eq]
        refine ⟨⟨h, hv⟩, ?_⟩
        by_cases e : k = a
        · subst e
          have : Cells.without ((k, x) :: m) k = Cells.without m k := by simp [Cells.without]
          rw [this]; exact Cells.wfFrom_without k w.2
        · exact Cells.wfFrom_without a (Cells.wfFrom_mono (m := (k, x) :: m) (by omega : a + 1 ≤ k)
            (by simp [Cells.wfFrom, w.1.2, w.2]))

/-! ### Register maps -/

@[simp] theorem RMap.rd_wr (m : RMap) (a b : Nat) (v : Word) : (m.wr a v).rd b = if b = a then v else m.rd b :=
  Cells.get_set m a b v
@[simp] theorem RMap.rd_nil (a : Nat) : RMap.rd [] a = 0 := rfl

/-! ### The loft's array -/

@[simp] theorem Memory.rd_wr (m : Memory) (a b : Nat) (v : Byte) : (m.wr a v).rd b = if b = a then v else m.rd b :=
  Cells.get_set m a b v
@[simp] theorem Memory.rd_nil (a : Nat) : Memory.rd [] a = 0 := rfl
@[simp] theorem Memory.wf_nil : Memory.wf [] = true := rfl

theorem Memory.wf_wr {m : Memory} (a : Nat) (v : Byte) (w : m.wf = true) : (m.wr a v).wf = true :=
  Cells.wfFrom_set v (Nat.zero_le _) w

theorem Memory.wf_wrs {m : Memory} (a : Nat) (bs : List Byte) (w : m.wf = true) : (m.wrs a bs).wf = true := by
  induction bs generalizing m a with
  | nil => exact w
  | cons b bs ih => exact ih _ (Memory.wf_wr _ _ w)

/-- What storing bytes from `a` up leaves at address `b`. -/
theorem Memory.rd_wrs (m : Memory) (a b : Nat) (bs : List Byte) :
    (m.wrs a bs).rd b = if a ≤ b ∧ b < a + bs.length then bs.getD (b - a) 0 else m.rd b := by
  induction bs generalizing m a with
  | nil => simp only [Memory.wrs, List.length_nil]; rw [if_neg (by omega)]
  | cons c bs ih =>
    rw [Memory.wrs, ih, Memory.rd_wr, List.length_cons]
    by_cases h : a + 1 ≤ b ∧ b < a + 1 + bs.length
    · rw [if_pos h, if_pos ⟨by omega, by omega⟩]
      have : b - a = b - (a + 1) + 1 := by omega
      rw [this, List.getD_cons_succ]
    · rw [if_neg h]
      by_cases e : b = a
      · subst e; simp
      · rw [if_neg e, if_neg (by omega)]

omit [DecidableEq α] in
theorem Cells.get_dropWhile {m : List (Nat × α)} {a b : Nat} (h : a ≤ b) :
    Cells.get z (m.dropWhile fun c => decide (c.1 < a)) b = Cells.get z m b := by
  induction m with
  | nil => rfl
  | cons c m ih =>
    rw [List.dropWhile_cons]
    by_cases k : c.1 < a
    · simp only [k, decide_true, if_true, ih, Cells.get]; rw [if_neg (by omega)]
    · simp [k]

theorem Cells.wfFrom_dropWhile {m : List (Nat × α)} {lo : Nat} (a : Nat) (w : Cells.wfFrom z lo m = true) :
    Cells.wfFrom z a (m.dropWhile fun c => decide (c.1 < a)) = true := by
  induction m generalizing lo with
  | nil => rfl
  | cons c m ih =>
    simp only [Cells.wfFrom, Bool.and_eq_true, decide_eq_true_eq] at w
    rw [List.dropWhile_cons]
    by_cases k : c.1 < a
    · simp only [k, decide_true, if_true]; exact ih w.2
    · simp only [k, decide_false, Bool.false_eq_true, if_false, Cells.wfFrom, Bool.and_eq_true, decide_eq_true_eq]
      exact ⟨⟨by omega, w.1.2⟩, w.2⟩

theorem Cells.get_below {m : List (Nat × α)} {lo a : Nat} (h : a < lo) (w : Cells.wfFrom z lo m = true) :
    Cells.get z m a = z := by
  induction m generalizing lo with
  | nil => rfl
  | cons c m ih =>
    simp only [Cells.wfFrom, Bool.and_eq_true, decide_eq_true_eq] at w
    rw [Cells.get, if_neg (by omega), ih (by omega : a < c.1 + 1) w.2]

theorem Cells.run_eq {m : List (Nat × α)} (n a : Nat) (w : Cells.wfFrom z a m = true) :
    Cells.run z n a m = (List.range n).map fun i => Cells.get z m (a + i) := by
  induction n generalizing a m with
  | zero => simp [Cells.run]
  | succ n ih =>
    rw [List.range_succ_eq_map, List.map_cons, List.map_map]
    cases m with
    | nil =>
      rw [Cells.run, ih (a + 1) rfl]
      simp [Cells.get, Function.comp_def]
    | cons c m =>
      obtain ⟨b, v⟩ := c
      have w0 := w
      simp only [Cells.wfFrom, Bool.and_eq_true, decide_eq_true_eq] at w
      rw [Cells.run]
      by_cases e : a = b
      · subst e
        rw [if_pos rfl, ih (a + 1) w.2]
        simp only [Cells.get, Nat.add_zero, if_true, List.cons.injEq, true_and]
        apply List.map_congr_left
        intro i _
        simp only [Function.comp, Nat.succ_eq_add_one]
        rw [if_neg (by omega), show a + 1 + i = a + (i + 1) by omega]
      · rw [if_neg e, ih (a + 1) (by simp only [Cells.wfFrom, Bool.and_eq_true, decide_eq_true_eq]; exact ⟨⟨by omega, w.1.2⟩, w.2⟩)]
        have g : Cells.get z ((b, v) :: m) a = z := by
          rw [Cells.get, if_neg e, Cells.get_below (by omega : a < b + 1) w.2]
        show _ = Cells.get z ((b, v) :: m) a :: _
        rw [g]
        simp only [List.cons.injEq, true_and]
        apply List.map_congr_left
        intro i _
        simp only [Function.comp, Nat.succ_eq_add_one]
        rw [show a + 1 + i = a + (i + 1) by omega]

/-- Reading bytes of a canonical array in one pass is reading them one by one. -/
theorem Memory.rds_eq {m : Memory} (a n : Nat) (w : m.wf = true) : m.rds a n = (List.range n).map fun i => m.rd (a + i) := by
  unfold Memory.rds
  rw [Cells.run_eq n a (Cells.wfFrom_dropWhile a w)]
  apply List.map_congr_left
  intro i _
  exact Cells.get_dropWhile (by omega)

theorem State.arrayWf_reset : State.reset.arrayWf = true := rfl

/-! ### Elements of lists -/

/-- Element `j` after element `i` was changed. -/
theorem modAt_getD {β : Type} (l : List β) (i j : Nat) (f : β → β) (x : β) :
    (modAt l i f).getD j x = if i = j ∧ j < l.length then f (l.getD j x) else l.getD j x := by
  unfold modAt
  by_cases h : j < l.length
  · simp only [List.getD_eq_getElem?_getD, List.getElem?_modify, h, and_true]
    by_cases k : i = j <;> simp [k, h]
  · simp only [List.getD_eq_getElem?_getD, List.getElem?_modify, h, and_false, if_false]
    have : l[j]? = none := List.getElem?_eq_none (by omega)
    simp [this]

@[simp] theorem modAt_length {β : Type} (l : List β) (i : Nat) (f : β → β) : (modAt l i f).length = l.length := by
  simp [modAt]

end Sys2Proof.Machine
end

