-- ==== Sys2Proof/Laws/Array.lean ====
section
/-! SUPPORT. Every operation that stores into the loft's array keeps it canonical, and stores only what it says. -/

namespace Sys2Proof.Machine

-- One proof after another: a worker thread for each would pass the memory limit.
set_option Elab.async false

/-- Storing bytes one by one, each at an address of its own, keeps the canonical form. -/
theorem Memory.wf_scatter {m : Memory} (f : Nat → Nat) (g : Nat → Byte) (l : List Nat) (w : m.wf = true) :
    (l.foldl (fun m i => m.wr (f i) (g i)) m).wf = true := by
  induction l generalizing m with
  | nil => exact w
  | cons i l ih => exact ih (Memory.wf_wr _ _ w)

theorem remapPage_wf (fail1 fail2 : List Nat) (p : Nat) (content : List Byte) (left : Nat × List Byte) (fuel : Nat)
    (table : List RemapEntry) {r : Memory × Dev} (w : r.1.wf = true) :
    (remapPage fail1 fail2 p content left fuel table r).1.wf = true := by
  induction fuel generalizing table r with
  | zero => exact w
  | succ n ih =>
    rw [remapPage]
    generalize spareFree table = o
    cases o with
    | none => exact w
    | some i =>
      rw [remapTry]; split
      · exact ih _ w
      · exact Memory.wf_wrs _ _ w

theorem programPage_wf (fail1 fail2 : List Nat) (p a : Nat) (bs : List Byte) (left : Nat × List Byte) {m : Memory} (d : Dev)
    (w : m.wf = true) : (programPage fail1 fail2 p a bs left m d).1.wf = true := by
  unfold programPage; dsimp only; split
  · split
    · exact w
    · exact remapPage_wf _ _ _ _ _ _ _ w
  · exact Memory.wf_wrs _ _ w

theorem programPages_wf (fail1 fail2 : List Nat) (fuel a : Nat) (bs : List Byte) {m : Memory} (d : Dev) (w : m.wf = true) :
    (programPages fail1 fail2 fuel a bs m d).1.wf = true := by
  induction fuel generalizing a bs m d with
  | zero => exact w
  | succ n ih =>
    unfold programPages; dsimp only
    split
    · exact w
    · split
      · exact ih _ _ _ (programPage_wf _ _ _ _ _ _ _ w)
      · exact programPage_wf _ _ _ _ _ _ _ w

theorem remapStep_wf (fail1 fail2 : List Nat) (x : RemapWrite) {m : Memory} (d : Dev) (w : m.wf = true) :
    (remapStep fail1 fail2 x m d).1.wf = true := by
  unfold remapStep; split
  · exact w
  · dsimp only; split
    · exact programPages_wf _ _ _ _ _ _ w
    · split <;> exact programPages_wf _ _ _ _ _ _ w

theorem programStep_wf (fail1 fail2 : List Nat) (x : Nat × List Byte) {m : Memory} (d : Dev) (w : m.wf = true) :
    (programStep fail1 fail2 x m d).1.wf = true := by
  unfold programStep; split
  · exact w
  · dsimp only; split <;> exact programPages_wf _ _ _ _ _ _ w

theorem cutStep_wf (a : Nat) (bs : List Byte) {m : Memory} (l : Loft) (w : m.wf = true) : (cutStep a bs m l).1.wf = true := by
  unfold cutStep; dsimp only; exact Memory.wf_scatter _ _ _ w

theorem Dev.cutLoft_wf {m : Memory} (d : Dev) (w : m.wf = true) : (d.cutLoft m).1.wf = true := by
  unfold Dev.cutLoft
  split
  · split
    · exact w
    · exact cutStep_wf _ _ _ w
  · exact w

/-- A page that verifies stores its bytes from its physical address up, and nothing else of the array changes. -/
theorem programPage_stores (p a : Nat) (bs : List Byte) (left : Nat × List Byte) (m : Memory) (d : Dev) (b : Nat) :
    (programPage [] [] p a bs left m d).1.rd b =
      (if d.loft.pageOf p * 512 + a % 512 ≤ b ∧ b < d.loft.pageOf p * 512 + a % 512 + bs.length
        then bs.getD (b - (d.loft.pageOf p * 512 + a % 512)) 0 else m.rd b) := by
  unfold programPage; simp only [List.contains_nil, Bool.false_and, Bool.false_eq_true, if_false, Memory.rd_wrs]

end Sys2Proof.Machine
end

