-- ==== Sys2Proof/Laws/State.lean ====
section
/-! SUPPORT. One lemma for each field of the device that a shared update leaves alone, true by unfolding, so that no later
proof unfolds a record update. Each is written `(rfl)`, so that simp keeps its proof and may use it for the side goal of a loop. -/

namespace Sys2Proof.Machine

-- One proof after another: a worker thread for each would pass the memory limit.
set_option Elab.async false

variable (d : Dev)

@[simp] theorem Dev.slew_regs (b : Int) : (d.slew b).regs = d.regs := (rfl)
@[simp] theorem Dev.slew_pins (b : Int) : (d.slew b).pins = d.pins := (rfl)
@[simp] theorem Dev.slew_sys (b : Int) : (d.slew b).sys = d.sys := (rfl)
@[simp] theorem Dev.slew_lanes (b : Int) : (d.slew b).lanes = d.lanes := (rfl)
@[simp] theorem Dev.slew_stalls (b : Int) : (d.slew b).stalls = d.stalls := (rfl)
@[simp] theorem Dev.slew_yards (b : Int) : (d.slew b).yards = d.yards := (rfl)
@[simp] theorem Dev.slew_laws (b : Int) : (d.slew b).laws = d.laws := (rfl)
@[simp] theorem Dev.slew_bals (b : Int) : (d.slew b).bals = d.bals := (rfl)
@[simp] theorem Dev.slew_lawUnits (b : Int) : (d.slew b).lawUnits = d.lawUnits := (rfl)
@[simp] theorem Dev.slew_balUnits (b : Int) : (d.slew b).balUnits = d.balUnits := (rfl)
@[simp] theorem Dev.slew_rails (b : Int) : (d.slew b).rails = d.rails := (rfl)
@[simp] theorem Dev.slew_ports (b : Int) : (d.slew b).ports = d.ports := (rfl)
@[simp] theorem Dev.slew_prot (b : Int) : (d.slew b).prot = d.prot := (rfl)
@[simp] theorem Dev.slew_ret (b : Int) : (d.slew b).ret = d.ret := (rfl)
@[simp] theorem Dev.slew_hsw (b : Int) : (d.slew b).hsw = d.hsw := (rfl)
@[simp] theorem Dev.slew_meas (b : Int) : (d.slew b).meas = d.meas := (rfl)
@[simp] theorem Dev.slew_loft (b : Int) : (d.slew b).loft = d.loft := (rfl)
@[simp] theorem Dev.slew_evt (b : Int) : (d.slew b).evt = d.evt := (rfl)
@[simp] theorem Dev.slew_acc (b : Int) : (d.slew b).acc = d.acc := (rfl)
@[simp] theorem Dev.slew_mgmt (b : Int) : (d.slew b).mgmt = d.mgmt := (rfl)
@[simp] theorem Dev.slew_pair (b : Int) : (d.slew b).pair = d.pair := (rfl)
@[simp] theorem Dev.slew_dom (b : Int) : (d.slew b).dom = d.dom := (rfl)
@[simp] theorem Dev.slew_deviceKey (b : Int) : (d.slew b).deviceKey = d.deviceKey := (rfl)
@[simp] theorem Dev.slew_fuseSerial (b : Int) : (d.slew b).fuseSerial = d.fuseSerial := (rfl)

@[simp] theorem Dev.onRail_regs (n : Nat) (f : Rail → Rail) : (d.onRail n f).regs = d.regs := (rfl)
@[simp] theorem Dev.onRail_pins (n : Nat) (f : Rail → Rail) : (d.onRail n f).pins = d.pins := (rfl)
@[simp] theorem Dev.onRail_sys (n : Nat) (f : Rail → Rail) : (d.onRail n f).sys = d.sys := (rfl)
@[simp] theorem Dev.onRail_tb (n : Nat) (f : Rail → Rail) : (d.onRail n f).tb = d.tb := (rfl)
@[simp] theorem Dev.onRail_lanes (n : Nat) (f : Rail → Rail) : (d.onRail n f).lanes = d.lanes := (rfl)
@[simp] theorem Dev.onRail_stalls (n : Nat) (f : Rail → Rail) : (d.onRail n f).stalls = d.stalls := (rfl)
@[simp] theorem Dev.onRail_yards (n : Nat) (f : Rail → Rail) : (d.onRail n f).yards = d.yards := (rfl)
@[simp] theorem Dev.onRail_laws (n : Nat) (f : Rail → Rail) : (d.onRail n f).laws = d.laws := (rfl)
@[simp] theorem Dev.onRail_bals (n : Nat) (f : Rail → Rail) : (d.onRail n f).bals = d.bals := (rfl)
@[simp] theorem Dev.onRail_lawUnits (n : Nat) (f : Rail → Rail) : (d.onRail n f).lawUnits = d.lawUnits := (rfl)
@[simp] theorem Dev.onRail_balUnits (n : Nat) (f : Rail → Rail) : (d.onRail n f).balUnits = d.balUnits := (rfl)
@[simp] theorem Dev.onRail_ports (n : Nat) (f : Rail → Rail) : (d.onRail n f).ports = d.ports := (rfl)
@[simp] theorem Dev.onRail_prot (n : Nat) (f : Rail → Rail) : (d.onRail n f).prot = d.prot := (rfl)
@[simp] theorem Dev.onRail_ret (n : Nat) (f : Rail → Rail) : (d.onRail n f).ret = d.ret := (rfl)
@[simp] theorem Dev.onRail_hsw (n : Nat) (f : Rail → Rail) : (d.onRail n f).hsw = d.hsw := (rfl)
@[simp] theorem Dev.onRail_meas (n : Nat) (f : Rail → Rail) : (d.onRail n f).meas = d.meas := (rfl)
@[simp] theorem Dev.onRail_loft (n : Nat) (f : Rail → Rail) : (d.onRail n f).loft = d.loft := (rfl)
@[simp] theorem Dev.onRail_evt (n : Nat) (f : Rail → Rail) : (d.onRail n f).evt = d.evt := (rfl)
@[simp] theorem Dev.onRail_acc (n : Nat) (f : Rail → Rail) : (d.onRail n f).acc = d.acc := (rfl)
@[simp] theorem Dev.onRail_mgmt (n : Nat) (f : Rail → Rail) : (d.onRail n f).mgmt = d.mgmt := (rfl)
@[simp] theorem Dev.onRail_pair (n : Nat) (f : Rail → Rail) : (d.onRail n f).pair = d.pair := (rfl)
@[simp] theorem Dev.onRail_dom (n : Nat) (f : Rail → Rail) : (d.onRail n f).dom = d.dom := (rfl)
@[simp] theorem Dev.onRail_deviceKey (n : Nat) (f : Rail → Rail) : (d.onRail n f).deviceKey = d.deviceKey := (rfl)
@[simp] theorem Dev.onRail_fuseSerial (n : Nat) (f : Rail → Rail) : (d.onRail n f).fuseSerial = d.fuseSerial := (rfl)

@[simp] theorem Dev.onYard_regs (n : Nat) (f : Yard → Yard) : (d.onYard n f).regs = d.regs := (rfl)
@[simp] theorem Dev.onYard_pins (n : Nat) (f : Yard → Yard) : (d.onYard n f).pins = d.pins := (rfl)
@[simp] theorem Dev.onYard_sys (n : Nat) (f : Yard → Yard) : (d.onYard n f).sys = d.sys := (rfl)
@[simp] theorem Dev.onYard_tb (n : Nat) (f : Yard → Yard) : (d.onYard n f).tb = d.tb := (rfl)
@[simp] theorem Dev.onYard_lanes (n : Nat) (f : Yard → Yard) : (d.onYard n f).lanes = d.lanes := (rfl)
@[simp] theorem Dev.onYard_stalls (n : Nat) (f : Yard → Yard) : (d.onYard n f).stalls = d.stalls := (rfl)
@[simp] theorem Dev.onYard_laws (n : Nat) (f : Yard → Yard) : (d.onYard n f).laws = d.laws := (rfl)
@[simp] theorem Dev.onYard_bals (n : Nat) (f : Yard → Yard) : (d.onYard n f).bals = d.bals := (rfl)
@[simp] theorem Dev.onYard_lawUnits (n : Nat) (f : Yard → Yard) : (d.onYard n f).lawUnits = d.lawUnits := (rfl)
@[simp] theorem Dev.onYard_balUnits (n : Nat) (f : Yard → Yard) : (d.onYard n f).balUnits = d.balUnits := (rfl)
@[simp] theorem Dev.onYard_rails (n : Nat) (f : Yard → Yard) : (d.onYard n f).rails = d.rails := (rfl)
@[simp] theorem Dev.onYard_ports (n : Nat) (f : Yard → Yard) : (d.onYard n f).ports = d.ports := (rfl)
@[simp] theorem Dev.onYard_prot (n : Nat) (f : Yard → Yard) : (d.onYard n f).prot = d.prot := (rfl)
@[simp] theorem Dev.onYard_ret (n : Nat) (f : Yard → Yard) : (d.onYard n f).ret = d.ret := (rfl)
@[simp] theorem Dev.onYard_hsw (n : Nat) (f : Yard → Yard) : (d.onYard n f).hsw = d.hsw := (rfl)
@[simp] theorem Dev.onYard_meas (n : Nat) (f : Yard → Yard) : (d.onYard n f).meas = d.meas := (rfl)
@[simp] theorem Dev.onYard_loft (n : Nat) (f : Yard → Yard) : (d.onYard n f).loft = d.loft := (rfl)
@[simp] theorem Dev.onYard_evt (n : Nat) (f : Yard → Yard) : (d.onYard n f).evt = d.evt := (rfl)
@[simp] theorem Dev.onYard_acc (n : Nat) (f : Yard → Yard) : (d.onYard n f).acc = d.acc := (rfl)
@[simp] theorem Dev.onYard_mgmt (n : Nat) (f : Yard → Yard) : (d.onYard n f).mgmt = d.mgmt := (rfl)
@[simp] theorem Dev.onYard_pair (n : Nat) (f : Yard → Yard) : (d.onYard n f).pair = d.pair := (rfl)
@[simp] theorem Dev.onYard_dom (n : Nat) (f : Yard → Yard) : (d.onYard n f).dom = d.dom := (rfl)
@[simp] theorem Dev.onYard_deviceKey (n : Nat) (f : Yard → Yard) : (d.onYard n f).deviceKey = d.deviceKey := (rfl)
@[simp] theorem Dev.onYard_fuseSerial (n : Nat) (f : Yard → Yard) : (d.onYard n f).fuseSerial = d.fuseSerial := (rfl)

@[simp] theorem Dev.onLaw_regs (n : Nat) (f : Law → Law) : (d.onLaw n f).regs = d.regs := (rfl)
@[simp] theorem Dev.onLaw_pins (n : Nat) (f : Law → Law) : (d.onLaw n f).pins = d.pins := (rfl)
@[simp] theorem Dev.onLaw_sys (n : Nat) (f : Law → Law) : (d.onLaw n f).sys = d.sys := (rfl)
@[simp] theorem Dev.onLaw_tb (n : Nat) (f : Law → Law) : (d.onLaw n f).tb = d.tb := (rfl)
@[simp] theorem Dev.onLaw_lanes (n : Nat) (f : Law → Law) : (d.onLaw n f).lanes = d.lanes := (rfl)
@[simp] theorem Dev.onLaw_stalls (n : Nat) (f : Law → Law) : (d.onLaw n f).stalls = d.stalls := (rfl)
@[simp] theorem Dev.onLaw_yards (n : Nat) (f : Law → Law) : (d.onLaw n f).yards = d.yards := (rfl)
@[simp] theorem Dev.onLaw_bals (n : Nat) (f : Law → Law) : (d.onLaw n f).bals = d.bals := (rfl)
@[simp] theorem Dev.onLaw_lawUnits (n : Nat) (f : Law → Law) : (d.onLaw n f).lawUnits = d.lawUnits := (rfl)
@[simp] theorem Dev.onLaw_balUnits (n : Nat) (f : Law → Law) : (d.onLaw n f).balUnits = d.balUnits := (rfl)
@[simp] theorem Dev.onLaw_rails (n : Nat) (f : Law → Law) : (d.onLaw n f).rails = d.rails := (rfl)
@[simp] theorem Dev.onLaw_ports (n : Nat) (f : Law → Law) : (d.onLaw n f).ports = d.ports := (rfl)
@[simp] theorem Dev.onLaw_prot (n : Nat) (f : Law → Law) : (d.onLaw n f).prot = d.prot := (rfl)
@[simp] theorem Dev.onLaw_ret (n : Nat) (f : Law → Law) : (d.onLaw n f).ret = d.ret := (rfl)
@[simp] theorem Dev.onLaw_hsw (n : Nat) (f : Law → Law) : (d.onLaw n f).hsw = d.hsw := (rfl)
@[simp] theorem Dev.onLaw_meas (n : Nat) (f : Law → Law) : (d.onLaw n f).meas = d.meas := (rfl)
@[simp] theorem Dev.onLaw_loft (n : Nat) (f : Law → Law) : (d.onLaw n f).loft = d.loft := (rfl)
@[simp] theorem Dev.onLaw_evt (n : Nat) (f : Law → Law) : (d.onLaw n f).evt = d.evt := (rfl)
@[simp] theorem Dev.onLaw_acc (n : Nat) (f : Law → Law) : (d.onLaw n f).acc = d.acc := (rfl)
@[simp] theorem Dev.onLaw_mgmt (n : Nat) (f : Law → Law) : (d.onLaw n f).mgmt = d.mgmt := (rfl)
@[simp] theorem Dev.onLaw_pair (n : Nat) (f : Law → Law) : (d.onLaw n f).pair = d.pair := (rfl)
@[simp] theorem Dev.onLaw_dom (n : Nat) (f : Law → Law) : (d.onLaw n f).dom = d.dom := (rfl)
@[simp] theorem Dev.onLaw_deviceKey (n : Nat) (f : Law → Law) : (d.onLaw n f).deviceKey = d.deviceKey := (rfl)
@[simp] theorem Dev.onLaw_fuseSerial (n : Nat) (f : Law → Law) : (d.onLaw n f).fuseSerial = d.fuseSerial := (rfl)

@[simp] theorem Dev.onStall_regs (n : Nat) (f : Stall → Stall) : (d.onStall n f).regs = d.regs := (rfl)
@[simp] theorem Dev.onStall_pins (n : Nat) (f : Stall → Stall) : (d.onStall n f).pins = d.pins := (rfl)
@[simp] theorem Dev.onStall_sys (n : Nat) (f : Stall → Stall) : (d.onStall n f).sys = d.sys := (rfl)
@[simp] theorem Dev.onStall_tb (n : Nat) (f : Stall → Stall) : (d.onStall n f).tb = d.tb := (rfl)
@[simp] theorem Dev.onStall_lanes (n : Nat) (f : Stall → Stall) : (d.onStall n f).lanes = d.lanes := (rfl)
@[simp] theorem Dev.onStall_yards (n : Nat) (f : Stall → Stall) : (d.onStall n f).yards = d.yards := (rfl)
@[simp] theorem Dev.onStall_laws (n : Nat) (f : Stall → Stall) : (d.onStall n f).laws = d.laws := (rfl)
@[simp] theorem Dev.onStall_bals (n : Nat) (f : Stall → Stall) : (d.onStall n f).bals = d.bals := (rfl)
@[simp] theorem Dev.onStall_lawUnits (n : Nat) (f : Stall → Stall) : (d.onStall n f).lawUnits = d.lawUnits := (rfl)
@[simp] theorem Dev.onStall_balUnits (n : Nat) (f : Stall → Stall) : (d.onStall n f).balUnits = d.balUnits := (rfl)
@[simp] theorem Dev.onStall_rails (n : Nat) (f : Stall → Stall) : (d.onStall n f).rails = d.rails := (rfl)
@[simp] theorem Dev.onStall_ports (n : Nat) (f : Stall → Stall) : (d.onStall n f).ports = d.ports := (rfl)
@[simp] theorem Dev.onStall_prot (n : Nat) (f : Stall → Stall) : (d.onStall n f).prot = d.prot := (rfl)
@[simp] theorem Dev.onStall_ret (n : Nat) (f : Stall → Stall) : (d.onStall n f).ret = d.ret := (rfl)
@[simp] theorem Dev.onStall_hsw (n : Nat) (f : Stall → Stall) : (d.onStall n f).hsw = d.hsw := (rfl)
@[simp] theorem Dev.onStall_meas (n : Nat) (f : Stall → Stall) : (d.onStall n f).meas = d.meas := (rfl)
@[simp] theorem Dev.onStall_loft (n : Nat) (f : Stall → Stall) : (d.onStall n f).loft = d.loft := (rfl)
@[simp] theorem Dev.onStall_evt (n : Nat) (f : Stall → Stall) : (d.onStall n f).evt = d.evt := (rfl)
@[simp] theorem Dev.onStall_acc (n : Nat) (f : Stall → Stall) : (d.onStall n f).acc = d.acc := (rfl)
@[simp] theorem Dev.onStall_mgmt (n : Nat) (f : Stall → Stall) : (d.onStall n f).mgmt = d.mgmt := (rfl)
@[simp] theorem Dev.onStall_pair (n : Nat) (f : Stall → Stall) : (d.onStall n f).pair = d.pair := (rfl)
@[simp] theorem Dev.onStall_dom (n : Nat) (f : Stall → Stall) : (d.onStall n f).dom = d.dom := (rfl)
@[simp] theorem Dev.onStall_deviceKey (n : Nat) (f : Stall → Stall) : (d.onStall n f).deviceKey = d.deviceKey := (rfl)
@[simp] theorem Dev.onStall_fuseSerial (n : Nat) (f : Stall → Stall) : (d.onStall n f).fuseSerial = d.fuseSerial := (rfl)

@[simp] theorem Dev.onLane_regs (n : Nat) (f : Lane → Lane) : (d.onLane n f).regs = d.regs := (rfl)
@[simp] theorem Dev.onLane_pins (n : Nat) (f : Lane → Lane) : (d.onLane n f).pins = d.pins := (rfl)
@[simp] theorem Dev.onLane_sys (n : Nat) (f : Lane → Lane) : (d.onLane n f).sys = d.sys := (rfl)
@[simp] theorem Dev.onLane_tb (n : Nat) (f : Lane → Lane) : (d.onLane n f).tb = d.tb := (rfl)
@[simp] theorem Dev.onLane_stalls (n : Nat) (f : Lane → Lane) : (d.onLane n f).stalls = d.stalls := (rfl)
@[simp] theorem Dev.onLane_yards (n : Nat) (f : Lane → Lane) : (d.onLane n f).yards = d.yards := (rfl)
@[simp] theorem Dev.onLane_laws (n : Nat) (f : Lane → Lane) : (d.onLane n f).laws = d.laws := (rfl)
@[simp] theorem Dev.onLane_bals (n : Nat) (f : Lane → Lane) : (d.onLane n f).bals = d.bals := (rfl)
@[simp] theorem Dev.onLane_lawUnits (n : Nat) (f : Lane → Lane) : (d.onLane n f).lawUnits = d.lawUnits := (rfl)
@[simp] theorem Dev.onLane_balUnits (n : Nat) (f : Lane → Lane) : (d.onLane n f).balUnits = d.balUnits := (rfl)
@[simp] theorem Dev.onLane_rails (n : Nat) (f : Lane → Lane) : (d.onLane n f).rails = d.rails := (rfl)
@[simp] theorem Dev.onLane_ports (n : Nat) (f : Lane → Lane) : (d.onLane n f).ports = d.ports := (rfl)
@[simp] theorem Dev.onLane_prot (n : Nat) (f : Lane → Lane) : (d.onLane n f).prot = d.prot := (rfl)
@[simp] theorem Dev.onLane_ret (n : Nat) (f : Lane → Lane) : (d.onLane n f).ret = d.ret := (rfl)
@[simp] theorem Dev.onLane_hsw (n : Nat) (f : Lane → Lane) : (d.onLane n f).hsw = d.hsw := (rfl)
@[simp] theorem Dev.onLane_meas (n : Nat) (f : Lane → Lane) : (d.onLane n f).meas = d.meas := (rfl)
@[simp] theorem Dev.onLane_loft (n : Nat) (f : Lane → Lane) : (d.onLane n f).loft = d.loft := (rfl)
@[simp] theorem Dev.onLane_evt (n : Nat) (f : Lane → Lane) : (d.onLane n f).evt = d.evt := (rfl)
@[simp] theorem Dev.onLane_acc (n : Nat) (f : Lane → Lane) : (d.onLane n f).acc = d.acc := (rfl)
@[simp] theorem Dev.onLane_mgmt (n : Nat) (f : Lane → Lane) : (d.onLane n f).mgmt = d.mgmt := (rfl)
@[simp] theorem Dev.onLane_pair (n : Nat) (f : Lane → Lane) : (d.onLane n f).pair = d.pair := (rfl)
@[simp] theorem Dev.onLane_dom (n : Nat) (f : Lane → Lane) : (d.onLane n f).dom = d.dom := (rfl)
@[simp] theorem Dev.onLane_deviceKey (n : Nat) (f : Lane → Lane) : (d.onLane n f).deviceKey = d.deviceKey := (rfl)
@[simp] theorem Dev.onLane_fuseSerial (n : Nat) (f : Lane → Lane) : (d.onLane n f).fuseSerial = d.fuseSerial := (rfl)

@[simp] theorem Dev.onLawUnit_regs (n : Nat) (f : EvalUnit → EvalUnit) : (d.onLawUnit n f).regs = d.regs := (rfl)
@[simp] theorem Dev.onLawUnit_pins (n : Nat) (f : EvalUnit → EvalUnit) : (d.onLawUnit n f).pins = d.pins := (rfl)
@[simp] theorem Dev.onLawUnit_sys (n : Nat) (f : EvalUnit → EvalUnit) : (d.onLawUnit n f).sys = d.sys := (rfl)
@[simp] theorem Dev.onLawUnit_tb (n : Nat) (f : EvalUnit → EvalUnit) : (d.onLawUnit n f).tb = d.tb := (rfl)
@[simp] theorem Dev.onLawUnit_lanes (n : Nat) (f : EvalUnit → EvalUnit) : (d.onLawUnit n f).lanes = d.lanes := (rfl)
@[simp] theorem Dev.onLawUnit_stalls (n : Nat) (f : EvalUnit → EvalUnit) : (d.onLawUnit n f).stalls = d.stalls := (rfl)
@[simp] theorem Dev.onLawUnit_yards (n : Nat) (f : EvalUnit → EvalUnit) : (d.onLawUnit n f).yards = d.yards := (rfl)
@[simp] theorem Dev.onLawUnit_laws (n : Nat) (f : EvalUnit → EvalUnit) : (d.onLawUnit n f).laws = d.laws := (rfl)
@[simp] theorem Dev.onLawUnit_bals (n : Nat) (f : EvalUnit → EvalUnit) : (d.onLawUnit n f).bals = d.bals := (rfl)
@[simp] theorem Dev.onLawUnit_balUnits (n : Nat) (f : EvalUnit → EvalUnit) : (d.onLawUnit n f).balUnits = d.balUnits := (rfl)
@[simp] theorem Dev.onLawUnit_rails (n : Nat) (f : EvalUnit → EvalUnit) : (d.onLawUnit n f).rails = d.rails := (rfl)
@[simp] theorem Dev.onLawUnit_ports (n : Nat) (f : EvalUnit → EvalUnit) : (d.onLawUnit n f).ports = d.ports := (rfl)
@[simp] theorem Dev.onLawUnit_prot (n : Nat) (f : EvalUnit → EvalUnit) : (d.onLawUnit n f).prot = d.prot := (rfl)
@[simp] theorem Dev.onLawUnit_ret (n : Nat) (f : EvalUnit → EvalUnit) : (d.onLawUnit n f).ret = d.ret := (rfl)
@[simp] theorem Dev.onLawUnit_hsw (n : Nat) (f : EvalUnit → EvalUnit) : (d.onLawUnit n f).hsw = d.hsw := (rfl)
@[simp] theorem Dev.onLawUnit_meas (n : Nat) (f : EvalUnit → EvalUnit) : (d.onLawUnit n f).meas = d.meas := (rfl)
@[simp] theorem Dev.onLawUnit_loft (n : Nat) (f : EvalUnit → EvalUnit) : (d.onLawUnit n f).loft = d.loft := (rfl)
@[simp] theorem Dev.onLawUnit_evt (n : Nat) (f : EvalUnit → EvalUnit) : (d.onLawUnit n f).evt = d.evt := (rfl)
@[simp] theorem Dev.onLawUnit_acc (n : Nat) (f : EvalUnit → EvalUnit) : (d.onLawUnit n f).acc = d.acc := (rfl)
@[simp] theorem Dev.onLawUnit_mgmt (n : Nat) (f : EvalUnit → EvalUnit) : (d.onLawUnit n f).mgmt = d.mgmt := (rfl)
@[simp] theorem Dev.onLawUnit_pair (n : Nat) (f : EvalUnit → EvalUnit) : (d.onLawUnit n f).pair = d.pair := (rfl)
@[simp] theorem Dev.onLawUnit_dom (n : Nat) (f : EvalUnit → EvalUnit) : (d.onLawUnit n f).dom = d.dom := (rfl)
@[simp] theorem Dev.onLawUnit_deviceKey (n : Nat) (f : EvalUnit → EvalUnit) : (d.onLawUnit n f).deviceKey = d.deviceKey := (rfl)
@[simp] theorem Dev.onLawUnit_fuseSerial (n : Nat) (f : EvalUnit → EvalUnit) : (d.onLawUnit n f).fuseSerial = d.fuseSerial := (rfl)

@[simp] theorem Dev.onBalUnit_regs (n : Nat) (f : EvalUnit → EvalUnit) : (d.onBalUnit n f).regs = d.regs := (rfl)
@[simp] theorem Dev.onBalUnit_pins (n : Nat) (f : EvalUnit → EvalUnit) : (d.onBalUnit n f).pins = d.pins := (rfl)
@[simp] theorem Dev.onBalUnit_sys (n : Nat) (f : EvalUnit → EvalUnit) : (d.onBalUnit n f).sys = d.sys := (rfl)
@[simp] theorem Dev.onBalUnit_tb (n : Nat) (f : EvalUnit → EvalUnit) : (d.onBalUnit n f).tb = d.tb := (rfl)
@[simp] theorem Dev.onBalUnit_lanes (n : Nat) (f : EvalUnit → EvalUnit) : (d.onBalUnit n f).lanes = d.lanes := (rfl)
@[simp] theorem Dev.onBalUnit_stalls (n : Nat) (f : EvalUnit → EvalUnit) : (d.onBalUnit n f).stalls = d.stalls := (rfl)
@[simp] theorem Dev.onBalUnit_yards (n : Nat) (f : EvalUnit → EvalUnit) : (d.onBalUnit n f).yards = d.yards := (rfl)
@[simp] theorem Dev.onBalUnit_laws (n : Nat) (f : EvalUnit → EvalUnit) : (d.onBalUnit n f).laws = d.laws := (rfl)
@[simp] theorem Dev.onBalUnit_bals (n : Nat) (f : EvalUnit → EvalUnit) : (d.onBalUnit n f).bals = d.bals := (rfl)
@[simp] theorem Dev.onBalUnit_lawUnits (n : Nat) (f : EvalUnit → EvalUnit) : (d.onBalUnit n f).lawUnits = d.lawUnits := (rfl)
@[simp] theorem Dev.onBalUnit_rails (n : Nat) (f : EvalUnit → EvalUnit) : (d.onBalUnit n f).rails = d.rails := (rfl)
@[simp] theorem Dev.onBalUnit_ports (n : Nat) (f : EvalUnit → EvalUnit) : (d.onBalUnit n f).ports = d.ports := (rfl)
@[simp] theorem Dev.onBalUnit_prot (n : Nat) (f : EvalUnit → EvalUnit) : (d.onBalUnit n f).prot = d.prot := (rfl)
@[simp] theorem Dev.onBalUnit_ret (n : Nat) (f : EvalUnit → EvalUnit) : (d.onBalUnit n f).ret = d.ret := (rfl)
@[simp] theorem Dev.onBalUnit_hsw (n : Nat) (f : EvalUnit → EvalUnit) : (d.onBalUnit n f).hsw = d.hsw := (rfl)
@[simp] theorem Dev.onBalUnit_meas (n : Nat) (f : EvalUnit → EvalUnit) : (d.onBalUnit n f).meas = d.meas := (rfl)
@[simp] theorem Dev.onBalUnit_loft (n : Nat) (f : EvalUnit → EvalUnit) : (d.onBalUnit n f).loft = d.loft := (rfl)
@[simp] theorem Dev.onBalUnit_evt (n : Nat) (f : EvalUnit → EvalUnit) : (d.onBalUnit n f).evt = d.evt := (rfl)
@[simp] theorem Dev.onBalUnit_acc (n : Nat) (f : EvalUnit → EvalUnit) : (d.onBalUnit n f).acc = d.acc := (rfl)
@[simp] theorem Dev.onBalUnit_mgmt (n : Nat) (f : EvalUnit → EvalUnit) : (d.onBalUnit n f).mgmt = d.mgmt := (rfl)
@[simp] theorem Dev.onBalUnit_pair (n : Nat) (f : EvalUnit → EvalUnit) : (d.onBalUnit n f).pair = d.pair := (rfl)
@[simp] theorem Dev.onBalUnit_dom (n : Nat) (f : EvalUnit → EvalUnit) : (d.onBalUnit n f).dom = d.dom := (rfl)
@[simp] theorem Dev.onBalUnit_deviceKey (n : Nat) (f : EvalUnit → EvalUnit) : (d.onBalUnit n f).deviceKey = d.deviceKey := (rfl)
@[simp] theorem Dev.onBalUnit_fuseSerial (n : Nat) (f : EvalUnit → EvalUnit) : (d.onBalUnit n f).fuseSerial = d.fuseSerial := (rfl)

@[simp] theorem Dev.setStat_pins (a : Nat) (v : Word) : (d.setStat a v).pins = d.pins := (rfl)
@[simp] theorem Dev.setStat_sys (a : Nat) (v : Word) : (d.setStat a v).sys = d.sys := (rfl)
@[simp] theorem Dev.setStat_tb (a : Nat) (v : Word) : (d.setStat a v).tb = d.tb := (rfl)
@[simp] theorem Dev.setStat_lanes (a : Nat) (v : Word) : (d.setStat a v).lanes = d.lanes := (rfl)
@[simp] theorem Dev.setStat_stalls (a : Nat) (v : Word) : (d.setStat a v).stalls = d.stalls := (rfl)
@[simp] theorem Dev.setStat_yards (a : Nat) (v : Word) : (d.setStat a v).yards = d.yards := (rfl)
@[simp] theorem Dev.setStat_laws (a : Nat) (v : Word) : (d.setStat a v).laws = d.laws := (rfl)
@[simp] theorem Dev.setStat_bals (a : Nat) (v : Word) : (d.setStat a v).bals = d.bals := (rfl)
@[simp] theorem Dev.setStat_lawUnits (a : Nat) (v : Word) : (d.setStat a v).lawUnits = d.lawUnits := (rfl)
@[simp] theorem Dev.setStat_balUnits (a : Nat) (v : Word) : (d.setStat a v).balUnits = d.balUnits := (rfl)
@[simp] theorem Dev.setStat_rails (a : Nat) (v : Word) : (d.setStat a v).rails = d.rails := (rfl)
@[simp] theorem Dev.setStat_ports (a : Nat) (v : Word) : (d.setStat a v).ports = d.ports := (rfl)
@[simp] theorem Dev.setStat_prot (a : Nat) (v : Word) : (d.setStat a v).prot = d.prot := (rfl)
@[simp] theorem Dev.setStat_ret (a : Nat) (v : Word) : (d.setStat a v).ret = d.ret := (rfl)
@[simp] theorem Dev.setStat_hsw (a : Nat) (v : Word) : (d.setStat a v).hsw = d.hsw := (rfl)
@[simp] theorem Dev.setStat_meas (a : Nat) (v : Word) : (d.setStat a v).meas = d.meas := (rfl)
@[simp] theorem Dev.setStat_loft (a : Nat) (v : Word) : (d.setStat a v).loft = d.loft := (rfl)
@[simp] theorem Dev.setStat_evt (a : Nat) (v : Word) : (d.setStat a v).evt = d.evt := (rfl)
@[simp] theorem Dev.setStat_acc (a : Nat) (v : Word) : (d.setStat a v).acc = d.acc := (rfl)
@[simp] theorem Dev.setStat_mgmt (a : Nat) (v : Word) : (d.setStat a v).mgmt = d.mgmt := (rfl)
@[simp] theorem Dev.setStat_pair (a : Nat) (v : Word) : (d.setStat a v).pair = d.pair := (rfl)
@[simp] theorem Dev.setStat_dom (a : Nat) (v : Word) : (d.setStat a v).dom = d.dom := (rfl)
@[simp] theorem Dev.setStat_deviceKey (a : Nat) (v : Word) : (d.setStat a v).deviceKey = d.deviceKey := (rfl)
@[simp] theorem Dev.setStat_fuseSerial (a : Nat) (v : Word) : (d.setStat a v).fuseSerial = d.fuseSerial := (rfl)

@[simp] theorem Dev.setStatFld_pins (a hi lo v : Nat) : (d.setStatFld a hi lo v).pins = d.pins := (rfl)
@[simp] theorem Dev.setStatFld_sys (a hi lo v : Nat) : (d.setStatFld a hi lo v).sys = d.sys := (rfl)
@[simp] theorem Dev.setStatFld_tb (a hi lo v : Nat) : (d.setStatFld a hi lo v).tb = d.tb := (rfl)
@[simp] theorem Dev.setStatFld_lanes (a hi lo v : Nat) : (d.setStatFld a hi lo v).lanes = d.lanes := (rfl)
@[simp] theorem Dev.setStatFld_stalls (a hi lo v : Nat) : (d.setStatFld a hi lo v).stalls = d.stalls := (rfl)
@[simp] theorem Dev.setStatFld_yards (a hi lo v : Nat) : (d.setStatFld a hi lo v).yards = d.yards := (rfl)
@[simp] theorem Dev.setStatFld_laws (a hi lo v : Nat) : (d.setStatFld a hi lo v).laws = d.laws := (rfl)
@[simp] theorem Dev.setStatFld_bals (a hi lo v : Nat) : (d.setStatFld a hi lo v).bals = d.bals := (rfl)
@[simp] theorem Dev.setStatFld_lawUnits (a hi lo v : Nat) : (d.setStatFld a hi lo v).lawUnits = d.lawUnits := (rfl)
@[simp] theorem Dev.setStatFld_balUnits (a hi lo v : Nat) : (d.setStatFld a hi lo v).balUnits = d.balUnits := (rfl)
@[simp] theorem Dev.setStatFld_rails (a hi lo v : Nat) : (d.setStatFld a hi lo v).rails = d.rails := (rfl)
@[simp] theorem Dev.setStatFld_ports (a hi lo v : Nat) : (d.setStatFld a hi lo v).ports = d.ports := (rfl)
@[simp] theorem Dev.setStatFld_prot (a hi lo v : Nat) : (d.setStatFld a hi lo v).prot = d.prot := (rfl)
@[simp] theorem Dev.setStatFld_ret (a hi lo v : Nat) : (d.setStatFld a hi lo v).ret = d.ret := (rfl)
@[simp] theorem Dev.setStatFld_hsw (a hi lo v : Nat) : (d.setStatFld a hi lo v).hsw = d.hsw := (rfl)
@[simp] theorem Dev.setStatFld_meas (a hi lo v : Nat) : (d.setStatFld a hi lo v).meas = d.meas := (rfl)
@[simp] theorem Dev.setStatFld_loft (a hi lo v : Nat) : (d.setStatFld a hi lo v).loft = d.loft := (rfl)
@[simp] theorem Dev.setStatFld_evt (a hi lo v : Nat) : (d.setStatFld a hi lo v).evt = d.evt := (rfl)
@[simp] theorem Dev.setStatFld_acc (a hi lo v : Nat) : (d.setStatFld a hi lo v).acc = d.acc := (rfl)
@[simp] theorem Dev.setStatFld_mgmt (a hi lo v : Nat) : (d.setStatFld a hi lo v).mgmt = d.mgmt := (rfl)
@[simp] theorem Dev.setStatFld_pair (a hi lo v : Nat) : (d.setStatFld a hi lo v).pair = d.pair := (rfl)
@[simp] theorem Dev.setStatFld_dom (a hi lo v : Nat) : (d.setStatFld a hi lo v).dom = d.dom := (rfl)
@[simp] theorem Dev.setStatFld_deviceKey (a hi lo v : Nat) : (d.setStatFld a hi lo v).deviceKey = d.deviceKey := (rfl)
@[simp] theorem Dev.setStatFld_fuseSerial (a hi lo v : Nat) : (d.setStatFld a hi lo v).fuseSerial = d.fuseSerial := (rfl)

@[simp] theorem Dev.stick_pins (a mask : Nat) : (d.stick a mask).pins = d.pins := (rfl)
@[simp] theorem Dev.stick_sys (a mask : Nat) : (d.stick a mask).sys = d.sys := (rfl)
@[simp] theorem Dev.stick_tb (a mask : Nat) : (d.stick a mask).tb = d.tb := (rfl)
@[simp] theorem Dev.stick_lanes (a mask : Nat) : (d.stick a mask).lanes = d.lanes := (rfl)
@[simp] theorem Dev.stick_stalls (a mask : Nat) : (d.stick a mask).stalls = d.stalls := (rfl)
@[simp] theorem Dev.stick_yards (a mask : Nat) : (d.stick a mask).yards = d.yards := (rfl)
@[simp] theorem Dev.stick_laws (a mask : Nat) : (d.stick a mask).laws = d.laws := (rfl)
@[simp] theorem Dev.stick_bals (a mask : Nat) : (d.stick a mask).bals = d.bals := (rfl)
@[simp] theorem Dev.stick_lawUnits (a mask : Nat) : (d.stick a mask).lawUnits = d.lawUnits := (rfl)
@[simp] theorem Dev.stick_balUnits (a mask : Nat) : (d.stick a mask).balUnits = d.balUnits := (rfl)
@[simp] theorem Dev.stick_rails (a mask : Nat) : (d.stick a mask).rails = d.rails := (rfl)
@[simp] theorem Dev.stick_ports (a mask : Nat) : (d.stick a mask).ports = d.ports := (rfl)
@[simp] theorem Dev.stick_prot (a mask : Nat) : (d.stick a mask).prot = d.prot := (rfl)
@[simp] theorem Dev.stick_ret (a mask : Nat) : (d.stick a mask).ret = d.ret := (rfl)
@[simp] theorem Dev.stick_hsw (a mask : Nat) : (d.stick a mask).hsw = d.hsw := (rfl)
@[simp] theorem Dev.stick_meas (a mask : Nat) : (d.stick a mask).meas = d.meas := (rfl)
@[simp] theorem Dev.stick_loft (a mask : Nat) : (d.stick a mask).loft = d.loft := (rfl)
@[simp] theorem Dev.stick_evt (a mask : Nat) : (d.stick a mask).evt = d.evt := (rfl)
@[simp] theorem Dev.stick_acc (a mask : Nat) : (d.stick a mask).acc = d.acc := (rfl)
@[simp] theorem Dev.stick_mgmt (a mask : Nat) : (d.stick a mask).mgmt = d.mgmt := (rfl)
@[simp] theorem Dev.stick_pair (a mask : Nat) : (d.stick a mask).pair = d.pair := (rfl)
@[simp] theorem Dev.stick_dom (a mask : Nat) : (d.stick a mask).dom = d.dom := (rfl)
@[simp] theorem Dev.stick_deviceKey (a mask : Nat) : (d.stick a mask).deviceKey = d.deviceKey := (rfl)
@[simp] theorem Dev.stick_fuseSerial (a mask : Nat) : (d.stick a mask).fuseSerial = d.fuseSerial := (rfl)

@[simp] theorem Dev.loftJob_regs (j : LoftJob) : (d.loftJob j).regs = d.regs := (rfl)
@[simp] theorem Dev.loftJob_pins (j : LoftJob) : (d.loftJob j).pins = d.pins := (rfl)
@[simp] theorem Dev.loftJob_sys (j : LoftJob) : (d.loftJob j).sys = d.sys := (rfl)
@[simp] theorem Dev.loftJob_tb (j : LoftJob) : (d.loftJob j).tb = d.tb := (rfl)
@[simp] theorem Dev.loftJob_lanes (j : LoftJob) : (d.loftJob j).lanes = d.lanes := (rfl)
@[simp] theorem Dev.loftJob_stalls (j : LoftJob) : (d.loftJob j).stalls = d.stalls := (rfl)
@[simp] theorem Dev.loftJob_yards (j : LoftJob) : (d.loftJob j).yards = d.yards := (rfl)
@[simp] theorem Dev.loftJob_laws (j : LoftJob) : (d.loftJob j).laws = d.laws := (rfl)
@[simp] theorem Dev.loftJob_bals (j : LoftJob) : (d.loftJob j).bals = d.bals := (rfl)
@[simp] theorem Dev.loftJob_lawUnits (j : LoftJob) : (d.loftJob j).lawUnits = d.lawUnits := (rfl)
@[simp] theorem Dev.loftJob_balUnits (j : LoftJob) : (d.loftJob j).balUnits = d.balUnits := (rfl)
@[simp] theorem Dev.loftJob_rails (j : LoftJob) : (d.loftJob j).rails = d.rails := (rfl)
@[simp] theorem Dev.loftJob_ports (j : LoftJob) : (d.loftJob j).ports = d.ports := (rfl)
@[simp] theorem Dev.loftJob_prot (j : LoftJob) : (d.loftJob j).prot = d.prot := (rfl)
@[simp] theorem Dev.loftJob_ret (j : LoftJob) : (d.loftJob j).ret = d.ret := (rfl)
@[simp] theorem Dev.loftJob_hsw (j : LoftJob) : (d.loftJob j).hsw = d.hsw := (rfl)
@[simp] theorem Dev.loftJob_meas (j : LoftJob) : (d.loftJob j).meas = d.meas := (rfl)
@[simp] theorem Dev.loftJob_evt (j : LoftJob) : (d.loftJob j).evt = d.evt := (rfl)
@[simp] theorem Dev.loftJob_acc (j : LoftJob) : (d.loftJob j).acc = d.acc := (rfl)
@[simp] theorem Dev.loftJob_mgmt (j : LoftJob) : (d.loftJob j).mgmt = d.mgmt := (rfl)
@[simp] theorem Dev.loftJob_pair (j : LoftJob) : (d.loftJob j).pair = d.pair := (rfl)
@[simp] theorem Dev.loftJob_dom (j : LoftJob) : (d.loftJob j).dom = d.dom := (rfl)
@[simp] theorem Dev.loftJob_deviceKey (j : LoftJob) : (d.loftJob j).deviceKey = d.deviceKey := (rfl)
@[simp] theorem Dev.loftJob_fuseSerial (j : LoftJob) : (d.loftJob j).fuseSerial = d.fuseSerial := (rfl)

@[simp] theorem Dev.writeCounter_regs (k v : Nat) : (d.writeCounter k v).regs = d.regs := (rfl)
@[simp] theorem Dev.writeCounter_pins (k v : Nat) : (d.writeCounter k v).pins = d.pins := (rfl)
@[simp] theorem Dev.writeCounter_sys (k v : Nat) : (d.writeCounter k v).sys = d.sys := (rfl)
@[simp] theorem Dev.writeCounter_tb (k v : Nat) : (d.writeCounter k v).tb = d.tb := (rfl)
@[simp] theorem Dev.writeCounter_lanes (k v : Nat) : (d.writeCounter k v).lanes = d.lanes := (rfl)
@[simp] theorem Dev.writeCounter_stalls (k v : Nat) : (d.writeCounter k v).stalls = d.stalls := (rfl)
@[simp] theorem Dev.writeCounter_yards (k v : Nat) : (d.writeCounter k v).yards = d.yards := (rfl)
@[simp] theorem Dev.writeCounter_laws (k v : Nat) : (d.writeCounter k v).laws = d.laws := (rfl)
@[simp] theorem Dev.writeCounter_bals (k v : Nat) : (d.writeCounter k v).bals = d.bals := (rfl)
@[simp] theorem Dev.writeCounter_lawUnits (k v : Nat) : (d.writeCounter k v).lawUnits = d.lawUnits := (rfl)
@[simp] theorem Dev.writeCounter_balUnits (k v : Nat) : (d.writeCounter k v).balUnits = d.balUnits := (rfl)
@[simp] theorem Dev.writeCounter_rails (k v : Nat) : (d.writeCounter k v).rails = d.rails := (rfl)
@[simp] theorem Dev.writeCounter_ports (k v : Nat) : (d.writeCounter k v).ports = d.ports := (rfl)
@[simp] theorem Dev.writeCounter_prot (k v : Nat) : (d.writeCounter k v).prot = d.prot := (rfl)
@[simp] theorem Dev.writeCounter_ret (k v : Nat) : (d.writeCounter k v).ret = d.ret := (rfl)
@[simp] theorem Dev.writeCounter_hsw (k v : Nat) : (d.writeCounter k v).hsw = d.hsw := (rfl)
@[simp] theorem Dev.writeCounter_meas (k v : Nat) : (d.writeCounter k v).meas = d.meas := (rfl)
@[simp] theorem Dev.writeCounter_evt (k v : Nat) : (d.writeCounter k v).evt = d.evt := (rfl)
@[simp] theorem Dev.writeCounter_acc (k v : Nat) : (d.writeCounter k v).acc = d.acc := (rfl)
@[simp] theorem Dev.writeCounter_mgmt (k v : Nat) : (d.writeCounter k v).mgmt = d.mgmt := (rfl)
@[simp] theorem Dev.writeCounter_pair (k v : Nat) : (d.writeCounter k v).pair = d.pair := (rfl)
@[simp] theorem Dev.writeCounter_dom (k v : Nat) : (d.writeCounter k v).dom = d.dom := (rfl)
@[simp] theorem Dev.writeCounter_deviceKey (k v : Nat) : (d.writeCounter k v).deviceKey = d.deviceKey := (rfl)
@[simp] theorem Dev.writeCounter_fuseSerial (k v : Nat) : (d.writeCounter k v).fuseSerial = d.fuseSerial := (rfl)

@[simp] theorem Dev.dwell_regs : (d.dwell).regs = d.regs := (rfl)
@[simp] theorem Dev.dwell_pins : (d.dwell).pins = d.pins := (rfl)
@[simp] theorem Dev.dwell_tb : (d.dwell).tb = d.tb := (rfl)
@[simp] theorem Dev.dwell_lanes : (d.dwell).lanes = d.lanes := (rfl)
@[simp] theorem Dev.dwell_stalls : (d.dwell).stalls = d.stalls := (rfl)
@[simp] theorem Dev.dwell_yards : (d.dwell).yards = d.yards := (rfl)
@[simp] theorem Dev.dwell_laws : (d.dwell).laws = d.laws := (rfl)
@[simp] theorem Dev.dwell_bals : (d.dwell).bals = d.bals := (rfl)
@[simp] theorem Dev.dwell_lawUnits : (d.dwell).lawUnits = d.lawUnits := (rfl)
@[simp] theorem Dev.dwell_balUnits : (d.dwell).balUnits = d.balUnits := (rfl)
@[simp] theorem Dev.dwell_rails : (d.dwell).rails = d.rails := (rfl)
@[simp] theorem Dev.dwell_ports : (d.dwell).ports = d.ports := (rfl)
@[simp] theorem Dev.dwell_prot : (d.dwell).prot = d.prot := (rfl)
@[simp] theorem Dev.dwell_ret : (d.dwell).ret = d.ret := (rfl)
@[simp] theorem Dev.dwell_hsw : (d.dwell).hsw = d.hsw := (rfl)
@[simp] theorem Dev.dwell_meas : (d.dwell).meas = d.meas := (rfl)
@[simp] theorem Dev.dwell_loft : (d.dwell).loft = d.loft := (rfl)
@[simp] theorem Dev.dwell_evt : (d.dwell).evt = d.evt := (rfl)
@[simp] theorem Dev.dwell_acc : (d.dwell).acc = d.acc := (rfl)
@[simp] theorem Dev.dwell_mgmt : (d.dwell).mgmt = d.mgmt := (rfl)
@[simp] theorem Dev.dwell_pair : (d.dwell).pair = d.pair := (rfl)
@[simp] theorem Dev.dwell_dom : (d.dwell).dom = d.dom := (rfl)
@[simp] theorem Dev.dwell_deviceKey : (d.dwell).deviceKey = d.deviceKey := (rfl)
@[simp] theorem Dev.dwell_fuseSerial : (d.dwell).fuseSerial = d.fuseSerial := (rfl)

@[simp] theorem Dev.count_pins (a k : Nat) : (d.count a k).pins = d.pins := (rfl)
@[simp] theorem Dev.count_sys (a k : Nat) : (d.count a k).sys = d.sys := (rfl)
@[simp] theorem Dev.count_tb (a k : Nat) : (d.count a k).tb = d.tb := (rfl)
@[simp] theorem Dev.count_lanes (a k : Nat) : (d.count a k).lanes = d.lanes := (rfl)
@[simp] theorem Dev.count_stalls (a k : Nat) : (d.count a k).stalls = d.stalls := (rfl)
@[simp] theorem Dev.count_yards (a k : Nat) : (d.count a k).yards = d.yards := (rfl)
@[simp] theorem Dev.count_laws (a k : Nat) : (d.count a k).laws = d.laws := (rfl)
@[simp] theorem Dev.count_bals (a k : Nat) : (d.count a k).bals = d.bals := (rfl)
@[simp] theorem Dev.count_lawUnits (a k : Nat) : (d.count a k).lawUnits = d.lawUnits := (rfl)
@[simp] theorem Dev.count_balUnits (a k : Nat) : (d.count a k).balUnits = d.balUnits := (rfl)
@[simp] theorem Dev.count_rails (a k : Nat) : (d.count a k).rails = d.rails := (rfl)
@[simp] theorem Dev.count_ports (a k : Nat) : (d.count a k).ports = d.ports := (rfl)
@[simp] theorem Dev.count_prot (a k : Nat) : (d.count a k).prot = d.prot := (rfl)
@[simp] theorem Dev.count_ret (a k : Nat) : (d.count a k).ret = d.ret := (rfl)
@[simp] theorem Dev.count_hsw (a k : Nat) : (d.count a k).hsw = d.hsw := (rfl)
@[simp] theorem Dev.count_meas (a k : Nat) : (d.count a k).meas = d.meas := (rfl)
@[simp] theorem Dev.count_loft (a k : Nat) : (d.count a k).loft = d.loft := (rfl)
@[simp] theorem Dev.count_evt (a k : Nat) : (d.count a k).evt = d.evt := (rfl)
@[simp] theorem Dev.count_acc (a k : Nat) : (d.count a k).acc = d.acc := (rfl)
@[simp] theorem Dev.count_mgmt (a k : Nat) : (d.count a k).mgmt = d.mgmt := (rfl)
@[simp] theorem Dev.count_pair (a k : Nat) : (d.count a k).pair = d.pair := (rfl)
@[simp] theorem Dev.count_dom (a k : Nat) : (d.count a k).dom = d.dom := (rfl)
@[simp] theorem Dev.count_deviceKey (a k : Nat) : (d.count a k).deviceKey = d.deviceKey := (rfl)
@[simp] theorem Dev.count_fuseSerial (a k : Nat) : (d.count a k).fuseSerial = d.fuseSerial := (rfl)

end Sys2Proof.Machine
end

