-- ==== Sys2Proof/Laws/Ops.lean ====
section
/-! SUPPORT. What the shared operations leave alone: events, loft jobs, deltas, and what follows of itself after a command. -/

namespace Sys2Proof.Machine

-- One proof after another: a worker thread for each would pass the memory limit.
set_option Elab.async false

variable (d : Dev)

/-- A projection that every step of a loop leaves alone is left alone by the loop. -/
theorem Dev.each_proj {α β : Type} (g : Dev → β) (f : α → Dev → Dev) (h : ∀ a d, g (f a d) = g d) (l : List α) (d : Dev) :
    g (d.each l f) = g d := by
  unfold Dev.each
  induction l generalizing d with
  | nil => rfl
  | cons a l ih => rw [List.foldl_cons, ih, h]

/-- A projection that `f` leaves alone is left alone by `when`. -/
theorem Dev.when_proj {β : Type} (g : Dev → β) (c : Bool) (f : Dev → Dev) (h : g (f d) = g d) : g (d.when c f) = g d := by
  unfold Dev.when; split
  · exact h
  · rfl

@[simp] theorem Dev.toLatch_pins (e : EvRec) : (d.toLatch e).pins = d.pins := by
  unfold Dev.toLatch; dsimp only; split <;> simp
@[simp] theorem Dev.toLatch_sys (e : EvRec) : (d.toLatch e).sys = d.sys := by
  unfold Dev.toLatch; dsimp only; split <;> simp
@[simp] theorem Dev.toLatch_tb (e : EvRec) : (d.toLatch e).tb = d.tb := by
  unfold Dev.toLatch; dsimp only; split <;> simp
@[simp] theorem Dev.toLatch_lanes (e : EvRec) : (d.toLatch e).lanes = d.lanes := by
  unfold Dev.toLatch; dsimp only; split <;> simp
@[simp] theorem Dev.toLatch_stalls (e : EvRec) : (d.toLatch e).stalls = d.stalls := by
  unfold Dev.toLatch; dsimp only; split <;> simp
@[simp] theorem Dev.toLatch_yards (e : EvRec) : (d.toLatch e).yards = d.yards := by
  unfold Dev.toLatch; dsimp only; split <;> simp
@[simp] theorem Dev.toLatch_laws (e : EvRec) : (d.toLatch e).laws = d.laws := by
  unfold Dev.toLatch; dsimp only; split <;> simp
@[simp] theorem Dev.toLatch_bals (e : EvRec) : (d.toLatch e).bals = d.bals := by
  unfold Dev.toLatch; dsimp only; split <;> simp
@[simp] theorem Dev.toLatch_lawUnits (e : EvRec) : (d.toLatch e).lawUnits = d.lawUnits := by
  unfold Dev.toLatch; dsimp only; split <;> simp
@[simp] theorem Dev.toLatch_balUnits (e : EvRec) : (d.toLatch e).balUnits = d.balUnits := by
  unfold Dev.toLatch; dsimp only; split <;> simp
@[simp] theorem Dev.toLatch_rails (e : EvRec) : (d.toLatch e).rails = d.rails := by
  unfold Dev.toLatch; dsimp only; split <;> simp
@[simp] theorem Dev.toLatch_ports (e : EvRec) : (d.toLatch e).ports = d.ports := by
  unfold Dev.toLatch; dsimp only; split <;> simp
@[simp] theorem Dev.toLatch_prot (e : EvRec) : (d.toLatch e).prot = d.prot := by
  unfold Dev.toLatch; dsimp only; split <;> simp
@[simp] theorem Dev.toLatch_ret (e : EvRec) : (d.toLatch e).ret = d.ret := by
  unfold Dev.toLatch; dsimp only; split <;> simp
@[simp] theorem Dev.toLatch_hsw (e : EvRec) : (d.toLatch e).hsw = d.hsw := by
  unfold Dev.toLatch; dsimp only; split <;> simp
@[simp] theorem Dev.toLatch_meas (e : EvRec) : (d.toLatch e).meas = d.meas := by
  unfold Dev.toLatch; dsimp only; split <;> simp
@[simp] theorem Dev.toLatch_loft (e : EvRec) : (d.toLatch e).loft = d.loft := by
  unfold Dev.toLatch; dsimp only; split <;> simp
@[simp] theorem Dev.toLatch_acc (e : EvRec) : (d.toLatch e).acc = d.acc := by
  unfold Dev.toLatch; dsimp only; split <;> simp
@[simp] theorem Dev.toLatch_mgmt (e : EvRec) : (d.toLatch e).mgmt = d.mgmt := by
  unfold Dev.toLatch; dsimp only; split <;> simp
@[simp] theorem Dev.toLatch_pair (e : EvRec) : (d.toLatch e).pair = d.pair := by
  unfold Dev.toLatch; dsimp only; split <;> simp
@[simp] theorem Dev.toLatch_dom (e : EvRec) : (d.toLatch e).dom = d.dom := by
  unfold Dev.toLatch; dsimp only; split <;> simp
@[simp] theorem Dev.toLatch_deviceKey (e : EvRec) : (d.toLatch e).deviceKey = d.deviceKey := by
  unfold Dev.toLatch; dsimp only; split <;> simp
@[simp] theorem Dev.toLatch_fuseSerial (e : EvRec) : (d.toLatch e).fuseSerial = d.fuseSerial := by
  unfold Dev.toLatch; dsimp only; split <;> simp
@[simp] theorem Dev.holdEvent_pins (e : EvRec) : (d.holdEvent e).pins = d.pins := by
  unfold Dev.holdEvent; split <;> simp
@[simp] theorem Dev.holdEvent_sys (e : EvRec) : (d.holdEvent e).sys = d.sys := by
  unfold Dev.holdEvent; split <;> simp
@[simp] theorem Dev.holdEvent_tb (e : EvRec) : (d.holdEvent e).tb = d.tb := by
  unfold Dev.holdEvent; split <;> simp
@[simp] theorem Dev.holdEvent_lanes (e : EvRec) : (d.holdEvent e).lanes = d.lanes := by
  unfold Dev.holdEvent; split <;> simp
@[simp] theorem Dev.holdEvent_stalls (e : EvRec) : (d.holdEvent e).stalls = d.stalls := by
  unfold Dev.holdEvent; split <;> simp
@[simp] theorem Dev.holdEvent_yards (e : EvRec) : (d.holdEvent e).yards = d.yards := by
  unfold Dev.holdEvent; split <;> simp
@[simp] theorem Dev.holdEvent_laws (e : EvRec) : (d.holdEvent e).laws = d.laws := by
  unfold Dev.holdEvent; split <;> simp
@[simp] theorem Dev.holdEvent_bals (e : EvRec) : (d.holdEvent e).bals = d.bals := by
  unfold Dev.holdEvent; split <;> simp
@[simp] theorem Dev.holdEvent_lawUnits (e : EvRec) : (d.holdEvent e).lawUnits = d.lawUnits := by
  unfold Dev.holdEvent; split <;> simp
@[simp] theorem Dev.holdEvent_balUnits (e : EvRec) : (d.holdEvent e).balUnits = d.balUnits := by
  unfold Dev.holdEvent; split <;> simp
@[simp] theorem Dev.holdEvent_rails (e : EvRec) : (d.holdEvent e).rails = d.rails := by
  unfold Dev.holdEvent; split <;> simp
@[simp] theorem Dev.holdEvent_ports (e : EvRec) : (d.holdEvent e).ports = d.ports := by
  unfold Dev.holdEvent; split <;> simp
@[simp] theorem Dev.holdEvent_prot (e : EvRec) : (d.holdEvent e).prot = d.prot := by
  unfold Dev.holdEvent; split <;> simp
@[simp] theorem Dev.holdEvent_ret (e : EvRec) : (d.holdEvent e).ret = d.ret := by
  unfold Dev.holdEvent; split <;> simp
@[simp] theorem Dev.holdEvent_hsw (e : EvRec) : (d.holdEvent e).hsw = d.hsw := by
  unfold Dev.holdEvent; split <;> simp
@[simp] theorem Dev.holdEvent_meas (e : EvRec) : (d.holdEvent e).meas = d.meas := by
  unfold Dev.holdEvent; split <;> simp
@[simp] theorem Dev.holdEvent_loft (e : EvRec) : (d.holdEvent e).loft = d.loft := by
  unfold Dev.holdEvent; split <;> simp
@[simp] theorem Dev.holdEvent_acc (e : EvRec) : (d.holdEvent e).acc = d.acc := by
  unfold Dev.holdEvent; split <;> simp
@[simp] theorem Dev.holdEvent_mgmt (e : EvRec) : (d.holdEvent e).mgmt = d.mgmt := by
  unfold Dev.holdEvent; split <;> simp
@[simp] theorem Dev.holdEvent_pair (e : EvRec) : (d.holdEvent e).pair = d.pair := by
  unfold Dev.holdEvent; split <;> simp
@[simp] theorem Dev.holdEvent_dom (e : EvRec) : (d.holdEvent e).dom = d.dom := by
  unfold Dev.holdEvent; split <;> simp
@[simp] theorem Dev.holdEvent_deviceKey (e : EvRec) : (d.holdEvent e).deviceKey = d.deviceKey := by
  unfold Dev.holdEvent; split <;> simp
@[simp] theorem Dev.holdEvent_fuseSerial (e : EvRec) : (d.holdEvent e).fuseSerial = d.fuseSerial := by
  unfold Dev.holdEvent; split <;> simp
@[simp] theorem Dev.loseEvent_pins (e : EvRec) : (d.loseEvent e).pins = d.pins := by
  unfold Dev.loseEvent; simp
@[simp] theorem Dev.loseEvent_sys (e : EvRec) : (d.loseEvent e).sys = d.sys := by
  unfold Dev.loseEvent; simp
@[simp] theorem Dev.loseEvent_tb (e : EvRec) : (d.loseEvent e).tb = d.tb := by
  unfold Dev.loseEvent; simp
@[simp] theorem Dev.loseEvent_lanes (e : EvRec) : (d.loseEvent e).lanes = d.lanes := by
  unfold Dev.loseEvent; simp
@[simp] theorem Dev.loseEvent_stalls (e : EvRec) : (d.loseEvent e).stalls = d.stalls := by
  unfold Dev.loseEvent; simp
@[simp] theorem Dev.loseEvent_yards (e : EvRec) : (d.loseEvent e).yards = d.yards := by
  unfold Dev.loseEvent; simp
@[simp] theorem Dev.loseEvent_laws (e : EvRec) : (d.loseEvent e).laws = d.laws := by
  unfold Dev.loseEvent; simp
@[simp] theorem Dev.loseEvent_bals (e : EvRec) : (d.loseEvent e).bals = d.bals := by
  unfold Dev.loseEvent; simp
@[simp] theorem Dev.loseEvent_lawUnits (e : EvRec) : (d.loseEvent e).lawUnits = d.lawUnits := by
  unfold Dev.loseEvent; simp
@[simp] theorem Dev.loseEvent_balUnits (e : EvRec) : (d.loseEvent e).balUnits = d.balUnits := by
  unfold Dev.loseEvent; simp
@[simp] theorem Dev.loseEvent_rails (e : EvRec) : (d.loseEvent e).rails = d.rails := by
  unfold Dev.loseEvent; simp
@[simp] theorem Dev.loseEvent_ports (e : EvRec) : (d.loseEvent e).ports = d.ports := by
  unfold Dev.loseEvent; simp
@[simp] theorem Dev.loseEvent_prot (e : EvRec) : (d.loseEvent e).prot = d.prot := by
  unfold Dev.loseEvent; simp
@[simp] theorem Dev.loseEvent_ret (e : EvRec) : (d.loseEvent e).ret = d.ret := by
  unfold Dev.loseEvent; simp
@[simp] theorem Dev.loseEvent_hsw (e : EvRec) : (d.loseEvent e).hsw = d.hsw := by
  unfold Dev.loseEvent; simp
@[simp] theorem Dev.loseEvent_meas (e : EvRec) : (d.loseEvent e).meas = d.meas := by
  unfold Dev.loseEvent; simp
@[simp] theorem Dev.loseEvent_loft (e : EvRec) : (d.loseEvent e).loft = d.loft := by
  unfold Dev.loseEvent; simp
@[simp] theorem Dev.loseEvent_acc (e : EvRec) : (d.loseEvent e).acc = d.acc := by
  unfold Dev.loseEvent; simp
@[simp] theorem Dev.loseEvent_mgmt (e : EvRec) : (d.loseEvent e).mgmt = d.mgmt := by
  unfold Dev.loseEvent; simp
@[simp] theorem Dev.loseEvent_pair (e : EvRec) : (d.loseEvent e).pair = d.pair := by
  unfold Dev.loseEvent; simp
@[simp] theorem Dev.loseEvent_dom (e : EvRec) : (d.loseEvent e).dom = d.dom := by
  unfold Dev.loseEvent; simp
@[simp] theorem Dev.loseEvent_deviceKey (e : EvRec) : (d.loseEvent e).deviceKey = d.deviceKey := by
  unfold Dev.loseEvent; simp
@[simp] theorem Dev.loseEvent_fuseSerial (e : EvRec) : (d.loseEvent e).fuseSerial = d.fuseSerial := by
  unfold Dev.loseEvent; simp
@[simp] theorem Dev.enqueue_pins (e : EvRec) : (d.enqueue e).pins = d.pins := by
  unfold Dev.enqueue; repeat' split
  all_goals simp
@[simp] theorem Dev.enqueue_sys (e : EvRec) : (d.enqueue e).sys = d.sys := by
  unfold Dev.enqueue; repeat' split
  all_goals simp
@[simp] theorem Dev.enqueue_tb (e : EvRec) : (d.enqueue e).tb = d.tb := by
  unfold Dev.enqueue; repeat' split
  all_goals simp
@[simp] theorem Dev.enqueue_lanes (e : EvRec) : (d.enqueue e).lanes = d.lanes := by
  unfold Dev.enqueue; repeat' split
  all_goals simp
@[simp] theorem Dev.enqueue_stalls (e : EvRec) : (d.enqueue e).stalls = d.stalls := by
  unfold Dev.enqueue; repeat' split
  all_goals simp
@[simp] theorem Dev.enqueue_yards (e : EvRec) : (d.enqueue e).yards = d.yards := by
  unfold Dev.enqueue; repeat' split
  all_goals simp
@[simp] theorem Dev.enqueue_laws (e : EvRec) : (d.enqueue e).laws = d.laws := by
  unfold Dev.enqueue; repeat' split
  all_goals simp
@[simp] theorem Dev.enqueue_bals (e : EvRec) : (d.enqueue e).bals = d.bals := by
  unfold Dev.enqueue; repeat' split
  all_goals simp
@[simp] theorem Dev.enqueue_lawUnits (e : EvRec) : (d.enqueue e).lawUnits = d.lawUnits := by
  unfold Dev.enqueue; repeat' split
  all_goals simp
@[simp] theorem Dev.enqueue_balUnits (e : EvRec) : (d.enqueue e).balUnits = d.balUnits := by
  unfold Dev.enqueue; repeat' split
  all_goals simp
@[simp] theorem Dev.enqueue_rails (e : EvRec) : (d.enqueue e).rails = d.rails := by
  unfold Dev.enqueue; repeat' split
  all_goals simp
@[simp] theorem Dev.enqueue_ports (e : EvRec) : (d.enqueue e).ports = d.ports := by
  unfold Dev.enqueue; repeat' split
  all_goals simp
@[simp] theorem Dev.enqueue_prot (e : EvRec) : (d.enqueue e).prot = d.prot := by
  unfold Dev.enqueue; repeat' split
  all_goals simp
@[simp] theorem Dev.enqueue_ret (e : EvRec) : (d.enqueue e).ret = d.ret := by
  unfold Dev.enqueue; repeat' split
  all_goals simp
@[simp] theorem Dev.enqueue_hsw (e : EvRec) : (d.enqueue e).hsw = d.hsw := by
  unfold Dev.enqueue; repeat' split
  all_goals simp
@[simp] theorem Dev.enqueue_meas (e : EvRec) : (d.enqueue e).meas = d.meas := by
  unfold Dev.enqueue; repeat' split
  all_goals simp
@[simp] theorem Dev.enqueue_loft (e : EvRec) : (d.enqueue e).loft = d.loft := by
  unfold Dev.enqueue; repeat' split
  all_goals simp
@[simp] theorem Dev.enqueue_acc (e : EvRec) : (d.enqueue e).acc = d.acc := by
  unfold Dev.enqueue; repeat' split
  all_goals simp
@[simp] theorem Dev.enqueue_mgmt (e : EvRec) : (d.enqueue e).mgmt = d.mgmt := by
  unfold Dev.enqueue; repeat' split
  all_goals simp
@[simp] theorem Dev.enqueue_pair (e : EvRec) : (d.enqueue e).pair = d.pair := by
  unfold Dev.enqueue; repeat' split
  all_goals simp
@[simp] theorem Dev.enqueue_dom (e : EvRec) : (d.enqueue e).dom = d.dom := by
  unfold Dev.enqueue; repeat' split
  all_goals simp
@[simp] theorem Dev.enqueue_deviceKey (e : EvRec) : (d.enqueue e).deviceKey = d.deviceKey := by
  unfold Dev.enqueue; repeat' split
  all_goals simp
@[simp] theorem Dev.enqueue_fuseSerial (e : EvRec) : (d.enqueue e).fuseSerial = d.fuseSerial := by
  unfold Dev.enqueue; repeat' split
  all_goals simp
@[simp] theorem Dev.raise_pins (c : Nat) (a : Word) (l : List Byte) : (d.raise c a l).pins = d.pins := by
  unfold Dev.raise; simp
@[simp] theorem Dev.raiseDev_pins (c : Nat) (l : List Byte) : (d.raiseDev c l).pins = d.pins := by
  unfold Dev.raiseDev; simp
@[simp] theorem Dev.raise_sys (c : Nat) (a : Word) (l : List Byte) : (d.raise c a l).sys = d.sys := by
  unfold Dev.raise; simp
@[simp] theorem Dev.raiseDev_sys (c : Nat) (l : List Byte) : (d.raiseDev c l).sys = d.sys := by
  unfold Dev.raiseDev; simp
@[simp] theorem Dev.raise_tb (c : Nat) (a : Word) (l : List Byte) : (d.raise c a l).tb = d.tb := by
  unfold Dev.raise; simp
@[simp] theorem Dev.raiseDev_tb (c : Nat) (l : List Byte) : (d.raiseDev c l).tb = d.tb := by
  unfold Dev.raiseDev; simp
@[simp] theorem Dev.raise_lanes (c : Nat) (a : Word) (l : List Byte) : (d.raise c a l).lanes = d.lanes := by
  unfold Dev.raise; simp
@[simp] theorem Dev.raiseDev_lanes (c : Nat) (l : List Byte) : (d.raiseDev c l).lanes = d.lanes := by
  unfold Dev.raiseDev; simp
@[simp] theorem Dev.raise_stalls (c : Nat) (a : Word) (l : List Byte) : (d.raise c a l).stalls = d.stalls := by
  unfold Dev.raise; simp
@[simp] theorem Dev.raiseDev_stalls (c : Nat) (l : List Byte) : (d.raiseDev c l).stalls = d.stalls := by
  unfold Dev.raiseDev; simp
@[simp] theorem Dev.raise_yards (c : Nat) (a : Word) (l : List Byte) : (d.raise c a l).yards = d.yards := by
  unfold Dev.raise; simp
@[simp] theorem Dev.raiseDev_yards (c : Nat) (l : List Byte) : (d.raiseDev c l).yards = d.yards := by
  unfold Dev.raiseDev; simp
@[simp] theorem Dev.raise_laws (c : Nat) (a : Word) (l : List Byte) : (d.raise c a l).laws = d.laws := by
  unfold Dev.raise; simp
@[simp] theorem Dev.raiseDev_laws (c : Nat) (l : List Byte) : (d.raiseDev c l).laws = d.laws := by
  unfold Dev.raiseDev; simp
@[simp] theorem Dev.raise_bals (c : Nat) (a : Word) (l : List Byte) : (d.raise c a l).bals = d.bals := by
  unfold Dev.raise; simp
@[simp] theorem Dev.raiseDev_bals (c : Nat) (l : List Byte) : (d.raiseDev c l).bals = d.bals := by
  unfold Dev.raiseDev; simp
@[simp] theorem Dev.raise_lawUnits (c : Nat) (a : Word) (l : List Byte) : (d.raise c a l).lawUnits = d.lawUnits := by
  unfold Dev.raise; simp
@[simp] theorem Dev.raiseDev_lawUnits (c : Nat) (l : List Byte) : (d.raiseDev c l).lawUnits = d.lawUnits := by
  unfold Dev.raiseDev; simp
@[simp] theorem Dev.raise_balUnits (c : Nat) (a : Word) (l : List Byte) : (d.raise c a l).balUnits = d.balUnits := by
  unfold Dev.raise; simp
@[simp] theorem Dev.raiseDev_balUnits (c : Nat) (l : List Byte) : (d.raiseDev c l).balUnits = d.balUnits := by
  unfold Dev.raiseDev; simp
@[simp] theorem Dev.raise_rails (c : Nat) (a : Word) (l : List Byte) : (d.raise c a l).rails = d.rails := by
  unfold Dev.raise; simp
@[simp] theorem Dev.raiseDev_rails (c : Nat) (l : List Byte) : (d.raiseDev c l).rails = d.rails := by
  unfold Dev.raiseDev; simp
@[simp] theorem Dev.raise_ports (c : Nat) (a : Word) (l : List Byte) : (d.raise c a l).ports = d.ports := by
  unfold Dev.raise; simp
@[simp] theorem Dev.raiseDev_ports (c : Nat) (l : List Byte) : (d.raiseDev c l).ports = d.ports := by
  unfold Dev.raiseDev; simp
@[simp] theorem Dev.raise_prot (c : Nat) (a : Word) (l : List Byte) : (d.raise c a l).prot = d.prot := by
  unfold Dev.raise; simp
@[simp] theorem Dev.raiseDev_prot (c : Nat) (l : List Byte) : (d.raiseDev c l).prot = d.prot := by
  unfold Dev.raiseDev; simp
@[simp] theorem Dev.raise_ret (c : Nat) (a : Word) (l : List Byte) : (d.raise c a l).ret = d.ret := by
  unfold Dev.raise; simp
@[simp] theorem Dev.raiseDev_ret (c : Nat) (l : List Byte) : (d.raiseDev c l).ret = d.ret := by
  unfold Dev.raiseDev; simp
@[simp] theorem Dev.raise_hsw (c : Nat) (a : Word) (l : List Byte) : (d.raise c a l).hsw = d.hsw := by
  unfold Dev.raise; simp
@[simp] theorem Dev.raiseDev_hsw (c : Nat) (l : List Byte) : (d.raiseDev c l).hsw = d.hsw := by
  unfold Dev.raiseDev; simp
@[simp] theorem Dev.raise_meas (c : Nat) (a : Word) (l : List Byte) : (d.raise c a l).meas = d.meas := by
  unfold Dev.raise; simp
@[simp] theorem Dev.raiseDev_meas (c : Nat) (l : List Byte) : (d.raiseDev c l).meas = d.meas := by
  unfold Dev.raiseDev; simp
@[simp] theorem Dev.raise_loft (c : Nat) (a : Word) (l : List Byte) : (d.raise c a l).loft = d.loft := by
  unfold Dev.raise; simp
@[simp] theorem Dev.raiseDev_loft (c : Nat) (l : List Byte) : (d.raiseDev c l).loft = d.loft := by
  unfold Dev.raiseDev; simp
@[simp] theorem Dev.raise_acc (c : Nat) (a : Word) (l : List Byte) : (d.raise c a l).acc = d.acc := by
  unfold Dev.raise; simp
@[simp] theorem Dev.raiseDev_acc (c : Nat) (l : List Byte) : (d.raiseDev c l).acc = d.acc := by
  unfold Dev.raiseDev; simp
@[simp] theorem Dev.raise_mgmt (c : Nat) (a : Word) (l : List Byte) : (d.raise c a l).mgmt = d.mgmt := by
  unfold Dev.raise; simp
@[simp] theorem Dev.raiseDev_mgmt (c : Nat) (l : List Byte) : (d.raiseDev c l).mgmt = d.mgmt := by
  unfold Dev.raiseDev; simp
@[simp] theorem Dev.raise_pair (c : Nat) (a : Word) (l : List Byte) : (d.raise c a l).pair = d.pair := by
  unfold Dev.raise; simp
@[simp] theorem Dev.raiseDev_pair (c : Nat) (l : List Byte) : (d.raiseDev c l).pair = d.pair := by
  unfold Dev.raiseDev; simp
@[simp] theorem Dev.raise_dom (c : Nat) (a : Word) (l : List Byte) : (d.raise c a l).dom = d.dom := by
  unfold Dev.raise; simp
@[simp] theorem Dev.raiseDev_dom (c : Nat) (l : List Byte) : (d.raiseDev c l).dom = d.dom := by
  unfold Dev.raiseDev; simp
@[simp] theorem Dev.raise_deviceKey (c : Nat) (a : Word) (l : List Byte) : (d.raise c a l).deviceKey = d.deviceKey := by
  unfold Dev.raise; simp
@[simp] theorem Dev.raiseDev_deviceKey (c : Nat) (l : List Byte) : (d.raiseDev c l).deviceKey = d.deviceKey := by
  unfold Dev.raiseDev; simp
@[simp] theorem Dev.raise_fuseSerial (c : Nat) (a : Word) (l : List Byte) : (d.raise c a l).fuseSerial = d.fuseSerial := by
  unfold Dev.raise; simp
@[simp] theorem Dev.raiseDev_fuseSerial (c : Nat) (l : List Byte) : (d.raiseDev c l).fuseSerial = d.fuseSerial := by
  unfold Dev.raiseDev; simp
@[simp] theorem Dev.writeRec2_pins (p : Nat) (r : Rec2) (l : List Byte) : (d.writeRec2 p r l).pins = d.pins := by
  unfold Dev.writeRec2; dsimp only; repeat' split
  all_goals first | rfl | simp
@[simp] theorem Dev.writeRec2_sys (p : Nat) (r : Rec2) (l : List Byte) : (d.writeRec2 p r l).sys = d.sys := by
  unfold Dev.writeRec2; dsimp only; repeat' split
  all_goals first | rfl | simp
@[simp] theorem Dev.writeRec2_tb (p : Nat) (r : Rec2) (l : List Byte) : (d.writeRec2 p r l).tb = d.tb := by
  unfold Dev.writeRec2; dsimp only; repeat' split
  all_goals first | rfl | simp
@[simp] theorem Dev.writeRec2_lanes (p : Nat) (r : Rec2) (l : List Byte) : (d.writeRec2 p r l).lanes = d.lanes := by
  unfold Dev.writeRec2; dsimp only; repeat' split
  all_goals first | rfl | simp
@[simp] theorem Dev.writeRec2_stalls (p : Nat) (r : Rec2) (l : List Byte) : (d.writeRec2 p r l).stalls = d.stalls := by
  unfold Dev.writeRec2; dsimp only; repeat' split
  all_goals first | rfl | simp
@[simp] theorem Dev.writeRec2_yards (p : Nat) (r : Rec2) (l : List Byte) : (d.writeRec2 p r l).yards = d.yards := by
  unfold Dev.writeRec2; dsimp only; repeat' split
  all_goals first | rfl | simp
@[simp] theorem Dev.writeRec2_laws (p : Nat) (r : Rec2) (l : List Byte) : (d.writeRec2 p r l).laws = d.laws := by
  unfold Dev.writeRec2; dsimp only; repeat' split
  all_goals first | rfl | simp
@[simp] theorem Dev.writeRec2_bals (p : Nat) (r : Rec2) (l : List Byte) : (d.writeRec2 p r l).bals = d.bals := by
  unfold Dev.writeRec2; dsimp only; repeat' split
  all_goals first | rfl | simp
@[simp] theorem Dev.writeRec2_lawUnits (p : Nat) (r : Rec2) (l : List Byte) : (d.writeRec2 p r l).lawUnits = d.lawUnits := by
  unfold Dev.writeRec2; dsimp only; repeat' split
  all_goals first | rfl | simp
@[simp] theorem Dev.writeRec2_balUnits (p : Nat) (r : Rec2) (l : List Byte) : (d.writeRec2 p r l).balUnits = d.balUnits := by
  unfold Dev.writeRec2; dsimp only; repeat' split
  all_goals first | rfl | simp
@[simp] theorem Dev.writeRec2_rails (p : Nat) (r : Rec2) (l : List Byte) : (d.writeRec2 p r l).rails = d.rails := by
  unfold Dev.writeRec2; dsimp only; repeat' split
  all_goals first | rfl | simp
@[simp] theorem Dev.writeRec2_ports (p : Nat) (r : Rec2) (l : List Byte) : (d.writeRec2 p r l).ports = d.ports := by
  unfold Dev.writeRec2; dsimp only; repeat' split
  all_goals first | rfl | simp
@[simp] theorem Dev.writeRec2_prot (p : Nat) (r : Rec2) (l : List Byte) : (d.writeRec2 p r l).prot = d.prot := by
  unfold Dev.writeRec2; dsimp only; repeat' split
  all_goals first | rfl | simp
@[simp] theorem Dev.writeRec2_ret (p : Nat) (r : Rec2) (l : List Byte) : (d.writeRec2 p r l).ret = d.ret := by
  unfold Dev.writeRec2; dsimp only; repeat' split
  all_goals first | rfl | simp
@[simp] theorem Dev.writeRec2_hsw (p : Nat) (r : Rec2) (l : List Byte) : (d.writeRec2 p r l).hsw = d.hsw := by
  unfold Dev.writeRec2; dsimp only; repeat' split
  all_goals first | rfl | simp
@[simp] theorem Dev.writeRec2_meas (p : Nat) (r : Rec2) (l : List Byte) : (d.writeRec2 p r l).meas = d.meas := by
  unfold Dev.writeRec2; dsimp only; repeat' split
  all_goals first | rfl | simp
@[simp] theorem Dev.writeRec2_acc (p : Nat) (r : Rec2) (l : List Byte) : (d.writeRec2 p r l).acc = d.acc := by
  unfold Dev.writeRec2; dsimp only; repeat' split
  all_goals first | rfl | simp
@[simp] theorem Dev.writeRec2_mgmt (p : Nat) (r : Rec2) (l : List Byte) : (d.writeRec2 p r l).mgmt = d.mgmt := by
  unfold Dev.writeRec2; dsimp only; repeat' split
  all_goals first | rfl | simp
@[simp] theorem Dev.writeRec2_pair (p : Nat) (r : Rec2) (l : List Byte) : (d.writeRec2 p r l).pair = d.pair := by
  unfold Dev.writeRec2; dsimp only; repeat' split
  all_goals first | rfl | simp
@[simp] theorem Dev.writeRec2_dom (p : Nat) (r : Rec2) (l : List Byte) : (d.writeRec2 p r l).dom = d.dom := by
  unfold Dev.writeRec2; dsimp only; repeat' split
  all_goals first | rfl | simp
@[simp] theorem Dev.writeRec2_deviceKey (p : Nat) (r : Rec2) (l : List Byte) : (d.writeRec2 p r l).deviceKey = d.deviceKey := by
  unfold Dev.writeRec2; dsimp only; repeat' split
  all_goals first | rfl | simp
@[simp] theorem Dev.writeRec2_fuseSerial (p : Nat) (r : Rec2) (l : List Byte) : (d.writeRec2 p r l).fuseSerial = d.fuseSerial := by
  unfold Dev.writeRec2; dsimp only; repeat' split
  all_goals first | rfl | simp
@[simp] theorem Dev.delta_regs (x : Delta) : (d.delta x).regs = d.regs := by
  unfold Dev.delta; split <;> rfl
@[simp] theorem Dev.mirror_regs (old : Dev) : (d.mirror old).regs = d.regs := by
  unfold Dev.mirror; split
  · exact Dev.each_proj (·.regs) _ (fun x e => Dev.delta_regs e x) _ _
  · rfl
@[simp] theorem Dev.delta_pins (x : Delta) : (d.delta x).pins = d.pins := by
  unfold Dev.delta; split <;> rfl
@[simp] theorem Dev.mirror_pins (old : Dev) : (d.mirror old).pins = d.pins := by
  unfold Dev.mirror; split
  · exact Dev.each_proj (·.pins) _ (fun x e => Dev.delta_pins e x) _ _
  · rfl
@[simp] theorem Dev.delta_sys (x : Delta) : (d.delta x).sys = d.sys := by
  unfold Dev.delta; split <;> rfl
@[simp] theorem Dev.mirror_sys (old : Dev) : (d.mirror old).sys = d.sys := by
  unfold Dev.mirror; split
  · exact Dev.each_proj (·.sys) _ (fun x e => Dev.delta_sys e x) _ _
  · rfl
@[simp] theorem Dev.delta_tb (x : Delta) : (d.delta x).tb = d.tb := by
  unfold Dev.delta; split <;> rfl
@[simp] theorem Dev.mirror_tb (old : Dev) : (d.mirror old).tb = d.tb := by
  unfold Dev.mirror; split
  · exact Dev.each_proj (·.tb) _ (fun x e => Dev.delta_tb e x) _ _
  · rfl
@[simp] theorem Dev.delta_lanes (x : Delta) : (d.delta x).lanes = d.lanes := by
  unfold Dev.delta; split <;> rfl
@[simp] theorem Dev.mirror_lanes (old : Dev) : (d.mirror old).lanes = d.lanes := by
  unfold Dev.mirror; split
  · exact Dev.each_proj (·.lanes) _ (fun x e => Dev.delta_lanes e x) _ _
  · rfl
@[simp] theorem Dev.delta_stalls (x : Delta) : (d.delta x).stalls = d.stalls := by
  unfold Dev.delta; split <;> rfl
@[simp] theorem Dev.mirror_stalls (old : Dev) : (d.mirror old).stalls = d.stalls := by
  unfold Dev.mirror; split
  · exact Dev.each_proj (·.stalls) _ (fun x e => Dev.delta_stalls e x) _ _
  · rfl
@[simp] theorem Dev.delta_yards (x : Delta) : (d.delta x).yards = d.yards := by
  unfold Dev.delta; split <;> rfl
@[simp] theorem Dev.mirror_yards (old : Dev) : (d.mirror old).yards = d.yards := by
  unfold Dev.mirror; split
  · exact Dev.each_proj (·.yards) _ (fun x e => Dev.delta_yards e x) _ _
  · rfl
@[simp] theorem Dev.delta_laws (x : Delta) : (d.delta x).laws = d.laws := by
  unfold Dev.delta; split <;> rfl
@[simp] theorem Dev.mirror_laws (old : Dev) : (d.mirror old).laws = d.laws := by
  unfold Dev.mirror; split
  · exact Dev.each_proj (·.laws) _ (fun x e => Dev.delta_laws e x) _ _
  · rfl
@[simp] theorem Dev.delta_bals (x : Delta) : (d.delta x).bals = d.bals := by
  unfold Dev.delta; split <;> rfl
@[simp] theorem Dev.mirror_bals (old : Dev) : (d.mirror old).bals = d.bals := by
  unfold Dev.mirror; split
  · exact Dev.each_proj (·.bals) _ (fun x e => Dev.delta_bals e x) _ _
  · rfl
@[simp] theorem Dev.delta_lawUnits (x : Delta) : (d.delta x).lawUnits = d.lawUnits := by
  unfold Dev.delta; split <;> rfl
@[simp] theorem Dev.mirror_lawUnits (old : Dev) : (d.mirror old).lawUnits = d.lawUnits := by
  unfold Dev.mirror; split
  · exact Dev.each_proj (·.lawUnits) _ (fun x e => Dev.delta_lawUnits e x) _ _
  · rfl
@[simp] theorem Dev.delta_balUnits (x : Delta) : (d.delta x).balUnits = d.balUnits := by
  unfold Dev.delta; split <;> rfl
@[simp] theorem Dev.mirror_balUnits (old : Dev) : (d.mirror old).balUnits = d.balUnits := by
  unfold Dev.mirror; split
  · exact Dev.each_proj (·.balUnits) _ (fun x e => Dev.delta_balUnits e x) _ _
  · rfl
@[simp] theorem Dev.delta_rails (x : Delta) : (d.delta x).rails = d.rails := by
  unfold Dev.delta; split <;> rfl
@[simp] theorem Dev.mirror_rails (old : Dev) : (d.mirror old).rails = d.rails := by
  unfold Dev.mirror; split
  · exact Dev.each_proj (·.rails) _ (fun x e => Dev.delta_rails e x) _ _
  · rfl
@[simp] theorem Dev.delta_ports (x : Delta) : (d.delta x).ports = d.ports := by
  unfold Dev.delta; split <;> rfl
@[simp] theorem Dev.mirror_ports (old : Dev) : (d.mirror old).ports = d.ports := by
  unfold Dev.mirror; split
  · exact Dev.each_proj (·.ports) _ (fun x e => Dev.delta_ports e x) _ _
  · rfl
@[simp] theorem Dev.delta_prot (x : Delta) : (d.delta x).prot = d.prot := by
  unfold Dev.delta; split <;> rfl
@[simp] theorem Dev.mirror_prot (old : Dev) : (d.mirror old).prot = d.prot := by
  unfold Dev.mirror; split
  · exact Dev.each_proj (·.prot) _ (fun x e => Dev.delta_prot e x) _ _
  · rfl
@[simp] theorem Dev.delta_ret (x : Delta) : (d.delta x).ret = d.ret := by
  unfold Dev.delta; split <;> rfl
@[simp] theorem Dev.mirror_ret (old : Dev) : (d.mirror old).ret = d.ret := by
  unfold Dev.mirror; split
  · exact Dev.each_proj (·.ret) _ (fun x e => Dev.delta_ret e x) _ _
  · rfl
@[simp] theorem Dev.delta_hsw (x : Delta) : (d.delta x).hsw = d.hsw := by
  unfold Dev.delta; split <;> rfl
@[simp] theorem Dev.mirror_hsw (old : Dev) : (d.mirror old).hsw = d.hsw := by
  unfold Dev.mirror; split
  · exact Dev.each_proj (·.hsw) _ (fun x e => Dev.delta_hsw e x) _ _
  · rfl
@[simp] theorem Dev.delta_meas (x : Delta) : (d.delta x).meas = d.meas := by
  unfold Dev.delta; split <;> rfl
@[simp] theorem Dev.mirror_meas (old : Dev) : (d.mirror old).meas = d.meas := by
  unfold Dev.mirror; split
  · exact Dev.each_proj (·.meas) _ (fun x e => Dev.delta_meas e x) _ _
  · rfl
@[simp] theorem Dev.delta_loft (x : Delta) : (d.delta x).loft = d.loft := by
  unfold Dev.delta; split <;> rfl
@[simp] theorem Dev.mirror_loft (old : Dev) : (d.mirror old).loft = d.loft := by
  unfold Dev.mirror; split
  · exact Dev.each_proj (·.loft) _ (fun x e => Dev.delta_loft e x) _ _
  · rfl
@[simp] theorem Dev.delta_evt (x : Delta) : (d.delta x).evt = d.evt := by
  unfold Dev.delta; split <;> rfl
@[simp] theorem Dev.mirror_evt (old : Dev) : (d.mirror old).evt = d.evt := by
  unfold Dev.mirror; split
  · exact Dev.each_proj (·.evt) _ (fun x e => Dev.delta_evt e x) _ _
  · rfl
@[simp] theorem Dev.delta_acc (x : Delta) : (d.delta x).acc = d.acc := by
  unfold Dev.delta; split <;> rfl
@[simp] theorem Dev.mirror_acc (old : Dev) : (d.mirror old).acc = d.acc := by
  unfold Dev.mirror; split
  · exact Dev.each_proj (·.acc) _ (fun x e => Dev.delta_acc e x) _ _
  · rfl
@[simp] theorem Dev.delta_mgmt (x : Delta) : (d.delta x).mgmt = d.mgmt := by
  unfold Dev.delta; split <;> rfl
@[simp] theorem Dev.mirror_mgmt (old : Dev) : (d.mirror old).mgmt = d.mgmt := by
  unfold Dev.mirror; split
  · exact Dev.each_proj (·.mgmt) _ (fun x e => Dev.delta_mgmt e x) _ _
  · rfl
@[simp] theorem Dev.delta_dom (x : Delta) : (d.delta x).dom = d.dom := by
  unfold Dev.delta; split <;> rfl
@[simp] theorem Dev.mirror_dom (old : Dev) : (d.mirror old).dom = d.dom := by
  unfold Dev.mirror; split
  · exact Dev.each_proj (·.dom) _ (fun x e => Dev.delta_dom e x) _ _
  · rfl
@[simp] theorem Dev.delta_deviceKey (x : Delta) : (d.delta x).deviceKey = d.deviceKey := by
  unfold Dev.delta; split <;> rfl
@[simp] theorem Dev.mirror_deviceKey (old : Dev) : (d.mirror old).deviceKey = d.deviceKey := by
  unfold Dev.mirror; split
  · exact Dev.each_proj (·.deviceKey) _ (fun x e => Dev.delta_deviceKey e x) _ _
  · rfl
@[simp] theorem Dev.delta_fuseSerial (x : Delta) : (d.delta x).fuseSerial = d.fuseSerial := by
  unfold Dev.delta; split <;> rfl
@[simp] theorem Dev.mirror_fuseSerial (old : Dev) : (d.mirror old).fuseSerial = d.fuseSerial := by
  unfold Dev.mirror; split
  · exact Dev.each_proj (·.fuseSerial) _ (fun x e => Dev.delta_fuseSerial e x) _ _
  · rfl
@[simp] theorem Dev.choose_regs : d.choose.regs = d.regs := by
  unfold Dev.choose; dsimp only; split
  · rfl
  · split <;> rfl
@[simp] theorem Dev.choose_pins : d.choose.pins = d.pins := by
  unfold Dev.choose; dsimp only; split
  · rfl
  · split <;> rfl
@[simp] theorem Dev.choose_sys : d.choose.sys = d.sys := by
  unfold Dev.choose; dsimp only; split
  · rfl
  · split <;> rfl
@[simp] theorem Dev.choose_tb : d.choose.tb = d.tb := by
  unfold Dev.choose; dsimp only; split
  · rfl
  · split <;> rfl
@[simp] theorem Dev.choose_lanes : d.choose.lanes = d.lanes := by
  unfold Dev.choose; dsimp only; split
  · rfl
  · split <;> rfl
@[simp] theorem Dev.choose_stalls : d.choose.stalls = d.stalls := by
  unfold Dev.choose; dsimp only; split
  · rfl
  · split <;> rfl
@[simp] theorem Dev.choose_yards : d.choose.yards = d.yards := by
  unfold Dev.choose; dsimp only; split
  · rfl
  · split <;> rfl
@[simp] theorem Dev.choose_laws : d.choose.laws = d.laws := by
  unfold Dev.choose; dsimp only; split
  · rfl
  · split <;> rfl
@[simp] theorem Dev.choose_bals : d.choose.bals = d.bals := by
  unfold Dev.choose; dsimp only; split
  · rfl
  · split <;> rfl
@[simp] theorem Dev.choose_lawUnits : d.choose.lawUnits = d.lawUnits := by
  unfold Dev.choose; dsimp only; split
  · rfl
  · split <;> rfl
@[simp] theorem Dev.choose_balUnits : d.choose.balUnits = d.balUnits := by
  unfold Dev.choose; dsimp only; split
  · rfl
  · split <;> rfl
@[simp] theorem Dev.choose_rails : d.choose.rails = d.rails := by
  unfold Dev.choose; dsimp only; split
  · rfl
  · split <;> rfl
@[simp] theorem Dev.choose_ports : d.choose.ports = d.ports := by
  unfold Dev.choose; dsimp only; split
  · rfl
  · split <;> rfl
@[simp] theorem Dev.choose_prot : d.choose.prot = d.prot := by
  unfold Dev.choose; dsimp only; split
  · rfl
  · split <;> rfl
@[simp] theorem Dev.choose_ret : d.choose.ret = d.ret := by
  unfold Dev.choose; dsimp only; split
  · rfl
  · split <;> rfl
@[simp] theorem Dev.choose_hsw : d.choose.hsw = d.hsw := by
  unfold Dev.choose; dsimp only; split
  · rfl
  · split <;> rfl
@[simp] theorem Dev.choose_meas : d.choose.meas = d.meas := by
  unfold Dev.choose; dsimp only; split
  · rfl
  · split <;> rfl
@[simp] theorem Dev.choose_acc : d.choose.acc = d.acc := by
  unfold Dev.choose; dsimp only; split
  · rfl
  · split <;> rfl
@[simp] theorem Dev.choose_mgmt : d.choose.mgmt = d.mgmt := by
  unfold Dev.choose; dsimp only; split
  · rfl
  · split <;> rfl
@[simp] theorem Dev.choose_pair : d.choose.pair = d.pair := by
  unfold Dev.choose; dsimp only; split
  · rfl
  · split <;> rfl
@[simp] theorem Dev.choose_dom : d.choose.dom = d.dom := by
  unfold Dev.choose; dsimp only; split
  · rfl
  · split <;> rfl
@[simp] theorem Dev.choose_deviceKey : d.choose.deviceKey = d.deviceKey := by
  unfold Dev.choose; dsimp only; split
  · rfl
  · split <;> rfl
@[simp] theorem Dev.choose_fuseSerial : d.choose.fuseSerial = d.fuseSerial := by
  unfold Dev.choose; dsimp only; split
  · rfl
  · split <;> rfl
@[simp] theorem Dev.settle_regs (m : Memory) : (d.settle m).regs = d.regs := by
  unfold Dev.settle; simp
@[simp] theorem Dev.settle_pins (m : Memory) : (d.settle m).pins = d.pins := by
  unfold Dev.settle; simp
@[simp] theorem Dev.settle_tb (m : Memory) : (d.settle m).tb = d.tb := by
  unfold Dev.settle; simp
@[simp] theorem Dev.settle_lanes (m : Memory) : (d.settle m).lanes = d.lanes := by
  unfold Dev.settle; simp
@[simp] theorem Dev.settle_stalls (m : Memory) : (d.settle m).stalls = d.stalls := by
  unfold Dev.settle; simp
@[simp] theorem Dev.settle_yards (m : Memory) : (d.settle m).yards = d.yards := by
  unfold Dev.settle; simp
@[simp] theorem Dev.settle_laws (m : Memory) : (d.settle m).laws = d.laws := by
  unfold Dev.settle; simp
@[simp] theorem Dev.settle_bals (m : Memory) : (d.settle m).bals = d.bals := by
  unfold Dev.settle; simp
@[simp] theorem Dev.settle_lawUnits (m : Memory) : (d.settle m).lawUnits = d.lawUnits := by
  unfold Dev.settle; simp
@[simp] theorem Dev.settle_balUnits (m : Memory) : (d.settle m).balUnits = d.balUnits := by
  unfold Dev.settle; simp
@[simp] theorem Dev.settle_rails (m : Memory) : (d.settle m).rails = d.rails := by
  unfold Dev.settle; simp
@[simp] theorem Dev.settle_ports (m : Memory) : (d.settle m).ports = d.ports := by
  unfold Dev.settle; simp
@[simp] theorem Dev.settle_prot (m : Memory) : (d.settle m).prot = d.prot := by
  unfold Dev.settle; simp
@[simp] theorem Dev.settle_ret (m : Memory) : (d.settle m).ret = d.ret := by
  unfold Dev.settle; simp
@[simp] theorem Dev.settle_hsw (m : Memory) : (d.settle m).hsw = d.hsw := by
  unfold Dev.settle; simp
@[simp] theorem Dev.settle_meas (m : Memory) : (d.settle m).meas = d.meas := by
  unfold Dev.settle; simp
@[simp] theorem Dev.settle_acc (m : Memory) : (d.settle m).acc = d.acc := by
  unfold Dev.settle; simp
@[simp] theorem Dev.settle_mgmt (m : Memory) : (d.settle m).mgmt = d.mgmt := by
  unfold Dev.settle; simp
@[simp] theorem Dev.settle_pair (m : Memory) : (d.settle m).pair = d.pair := by
  unfold Dev.settle; simp
@[simp] theorem Dev.settle_dom (m : Memory) : (d.settle m).dom = d.dom := by
  unfold Dev.settle; simp
@[simp] theorem Dev.settle_deviceKey (m : Memory) : (d.settle m).deviceKey = d.deviceKey := by
  unfold Dev.settle; simp
@[simp] theorem Dev.settle_fuseSerial (m : Memory) : (d.settle m).fuseSerial = d.fuseSerial := by
  unfold Dev.settle; simp
/-- What follows of itself after a command leaves `regs` as the command left it. -/
@[simp] theorem Dev.conclude_regs (m : Memory) (old : Dev) : (d.conclude m old).regs = d.regs := by
  unfold Dev.conclude; simp
/-- What follows of itself after a command leaves `pins` as the command left it. -/
@[simp] theorem Dev.conclude_pins (m : Memory) (old : Dev) : (d.conclude m old).pins = d.pins := by
  unfold Dev.conclude; simp
/-- What follows of itself after a command leaves `tb` as the command left it. -/
@[simp] theorem Dev.conclude_tb (m : Memory) (old : Dev) : (d.conclude m old).tb = d.tb := by
  unfold Dev.conclude; simp
/-- What follows of itself after a command leaves `lanes` as the command left it. -/
@[simp] theorem Dev.conclude_lanes (m : Memory) (old : Dev) : (d.conclude m old).lanes = d.lanes := by
  unfold Dev.conclude; simp
/-- What follows of itself after a command leaves `stalls` as the command left it. -/
@[simp] theorem Dev.conclude_stalls (m : Memory) (old : Dev) : (d.conclude m old).stalls = d.stalls := by
  unfold Dev.conclude; simp
/-- What follows of itself after a command leaves `yards` as the command left it. -/
@[simp] theorem Dev.conclude_yards (m : Memory) (old : Dev) : (d.conclude m old).yards = d.yards := by
  unfold Dev.conclude; simp
/-- What follows of itself after a command leaves `laws` as the command left it. -/
@[simp] theorem Dev.conclude_laws (m : Memory) (old : Dev) : (d.conclude m old).laws = d.laws := by
  unfold Dev.conclude; simp
/-- What follows of itself after a command leaves `bals` as the command left it. -/
@[simp] theorem Dev.conclude_bals (m : Memory) (old : Dev) : (d.conclude m old).bals = d.bals := by
  unfold Dev.conclude; simp
/-- What follows of itself after a command leaves `lawUnits` as the command left it. -/
@[simp] theorem Dev.conclude_lawUnits (m : Memory) (old : Dev) : (d.conclude m old).lawUnits = d.lawUnits := by
  unfold Dev.conclude; simp
/-- What follows of itself after a command leaves `balUnits` as the command left it. -/
@[simp] theorem Dev.conclude_balUnits (m : Memory) (old : Dev) : (d.conclude m old).balUnits = d.balUnits := by
  unfold Dev.conclude; simp
/-- What follows of itself after a command leaves `rails` as the command left it. -/
@[simp] theorem Dev.conclude_rails (m : Memory) (old : Dev) : (d.conclude m old).rails = d.rails := by
  unfold Dev.conclude; simp
/-- What follows of itself after a command leaves `ports` as the command left it. -/
@[simp] theorem Dev.conclude_ports (m : Memory) (old : Dev) : (d.conclude m old).ports = d.ports := by
  unfold Dev.conclude; simp
/-- What follows of itself after a command leaves `prot` as the command left it. -/
@[simp] theorem Dev.conclude_prot (m : Memory) (old : Dev) : (d.conclude m old).prot = d.prot := by
  unfold Dev.conclude; simp
/-- What follows of itself after a command leaves `ret` as the command left it. -/
@[simp] theorem Dev.conclude_ret (m : Memory) (old : Dev) : (d.conclude m old).ret = d.ret := by
  unfold Dev.conclude; simp
/-- What follows of itself after a command leaves `hsw` as the command left it. -/
@[simp] theorem Dev.conclude_hsw (m : Memory) (old : Dev) : (d.conclude m old).hsw = d.hsw := by
  unfold Dev.conclude; simp
/-- What follows of itself after a command leaves `meas` as the command left it. -/
@[simp] theorem Dev.conclude_meas (m : Memory) (old : Dev) : (d.conclude m old).meas = d.meas := by
  unfold Dev.conclude; simp
/-- What follows of itself after a command leaves `acc` as the command left it. -/
@[simp] theorem Dev.conclude_acc (m : Memory) (old : Dev) : (d.conclude m old).acc = d.acc := by
  unfold Dev.conclude; simp
/-- What follows of itself after a command leaves `mgmt` as the command left it. -/
@[simp] theorem Dev.conclude_mgmt (m : Memory) (old : Dev) : (d.conclude m old).mgmt = d.mgmt := by
  unfold Dev.conclude; simp
/-- What follows of itself after a command leaves `dom` as the command left it. -/
@[simp] theorem Dev.conclude_dom (m : Memory) (old : Dev) : (d.conclude m old).dom = d.dom := by
  unfold Dev.conclude; simp
/-- What follows of itself after a command leaves `deviceKey` as the command left it. -/
@[simp] theorem Dev.conclude_deviceKey (m : Memory) (old : Dev) : (d.conclude m old).deviceKey = d.deviceKey := by
  unfold Dev.conclude; simp
/-- What follows of itself after a command leaves `fuseSerial` as the command left it. -/
@[simp] theorem Dev.conclude_fuseSerial (m : Memory) (old : Dev) : (d.conclude m old).fuseSerial = d.fuseSerial := by
  unfold Dev.conclude; simp

end Sys2Proof.Machine
end

