-- ==== Sys2Proof/Laws/Frame.lean ====
section
/-! SUPPORT. Carrying out a command: it always completes, what follows of itself changes no part, and the array changes only
in the commands that store into it. -/

namespace Sys2Proof.Machine

-- One proof after another: a worker thread for each would pass the memory limit.
set_option Elab.async false

variable (d : Dev) (m : Memory)

theorem Dev.delta_pair (x : Delta) :
    { (d.delta x).pair with unacked := [], sent := [], tx := 0 } = { d.pair with unacked := [], sent := [], tx := 0 } := by
  unfold Dev.delta; split <;> rfl

theorem Dev.mirror_pair (old : Dev) :
    { (d.mirror old).pair with unacked := [], sent := [], tx := 0 } = { d.pair with unacked := [], sent := [], tx := 0 } := by
  unfold Dev.mirror; split
  · exact Dev.each_proj (fun e => { e.pair with unacked := [], sent := [], tx := 0 }) _ (fun x e => Dev.delta_pair e x) _ _
  · rfl

theorem Dev.choose_evt : { d.choose.evt with cur := none } = { d.evt with cur := none } := by
  unfold Dev.choose; dsimp only; split
  · rfl
  · split <;> rfl

theorem Dev.choose_loft : { d.choose.loft with jobs := [], busy := false } = { d.loft with jobs := [], busy := false } := by
  unfold Dev.choose; dsimp only; split
  · rfl
  · split <;> rfl

theorem Loft.begin_same (l : Loft) : { l.begin m with jobs := [], busy := false } = { l with jobs := [], busy := false } := by
  unfold Loft.begin; split
  · rfl
  · split <;> rfl

/-- What follows of itself after a command leaves every part the same. -/
theorem Dev.conclude_same (old : Dev) (p : Part) : p.same d (d.conclude m old) := by
  cases p <;> simp only [Part.same, Dev.conclude_regs, Dev.conclude_pins, Dev.conclude_tb, Dev.conclude_lanes,
    Dev.conclude_stalls, Dev.conclude_yards, Dev.conclude_laws, Dev.conclude_bals, Dev.conclude_lawUnits,
    Dev.conclude_balUnits, Dev.conclude_rails, Dev.conclude_ports, Dev.conclude_prot, Dev.conclude_ret, Dev.conclude_hsw,
    Dev.conclude_meas, Dev.conclude_acc, Dev.conclude_mgmt, Dev.conclude_dom, Dev.conclude_deviceKey,
    Dev.conclude_fuseSerial, and_self]
  case sys => simp [Dev.conclude, Dev.settle, Dev.dwell]
  case loft =>
    have h := Dev.choose_loft (d.mirror old)
    rw [Dev.mirror_loft] at h
    simpa [Dev.conclude, Dev.settle, Dev.dwell] using (Loft.begin_same m _).trans h
  case evt =>
    have h := Dev.choose_evt (d.mirror old)
    rw [Dev.mirror_evt] at h
    simpa [Dev.conclude, Dev.settle, Dev.dwell] using h
  case pair =>
    simpa [Dev.conclude, Dev.settle, Dev.dwell] using Dev.mirror_pair d old

theorem Dev.conclude_sys_same (old : Dev) : { (d.conclude m old).sys with idleSince := none } = { d.sys with idleSince := none } :=
  Dev.conclude_same d m old .sys
theorem Dev.conclude_loft_same (old : Dev) :
    { (d.conclude m old).loft with jobs := [], busy := false } = { d.loft with jobs := [], busy := false } :=
  Dev.conclude_same d m old .loft
theorem Dev.conclude_evt_same (old : Dev) : { (d.conclude m old).evt with cur := none } = { d.evt with cur := none } :=
  Dev.conclude_same d m old .evt
theorem Dev.conclude_pair_same (old : Dev) :
    { (d.conclude m old).pair with unacked := [], sent := [], tx := 0 } = { d.pair with unacked := [], sent := [], tx := 0 } :=
  Dev.conclude_same d m old .pair

/-! What follows of itself after a command, field by field of the four parts that it may touch. -/

@[simp] theorem Dev.conclude_sys_state (old : Dev) : (d.conclude m old).sys.state = d.sys.state := by
  have h := congrArg Sys.state (Dev.conclude_sys_same d m old); exact h
@[simp] theorem Dev.conclude_sys_step (old : Dev) : (d.conclude m old).sys.step = d.sys.step := by
  have h := congrArg Sys.step (Dev.conclude_sys_same d m old); exact h
@[simp] theorem Dev.conclude_sys_kind (old : Dev) : (d.conclude m old).sys.kind = d.sys.kind := by
  have h := congrArg Sys.kind (Dev.conclude_sys_same d m old); exact h
@[simp] theorem Dev.conclude_sys_stepAt (old : Dev) : (d.conclude m old).sys.stepAt = d.sys.stepAt := by
  have h := congrArg Sys.stepAt (Dev.conclude_sys_same d m old); exact h
@[simp] theorem Dev.conclude_sys_pendingStart (old : Dev) : (d.conclude m old).sys.pendingStart = d.sys.pendingStart := by
  have h := congrArg Sys.pendingStart (Dev.conclude_sys_same d m old); exact h
@[simp] theorem Dev.conclude_sys_vinStale (old : Dev) : (d.conclude m old).sys.vinStale = d.sys.vinStale := by
  have h := congrArg Sys.vinStale (Dev.conclude_sys_same d m old); exact h
@[simp] theorem Dev.conclude_sys_wakeAt (old : Dev) : (d.conclude m old).sys.wakeAt = d.sys.wakeAt := by
  have h := congrArg Sys.wakeAt (Dev.conclude_sys_same d m old); exact h
@[simp] theorem Dev.conclude_sys_wakeCount (old : Dev) : (d.conclude m old).sys.wakeCount = d.sys.wakeCount := by
  have h := congrArg Sys.wakeCount (Dev.conclude_sys_same d m old); exact h
@[simp] theorem Dev.conclude_sys_imageB (old : Dev) : (d.conclude m old).sys.imageB = d.sys.imageB := by
  have h := congrArg Sys.imageB (Dev.conclude_sys_same d m old); exact h
@[simp] theorem Dev.conclude_sys_imageSeq (old : Dev) : (d.conclude m old).sys.imageSeq = d.sys.imageSeq := by
  have h := congrArg Sys.imageSeq (Dev.conclude_sys_same d m old); exact h
@[simp] theorem Dev.conclude_sys_imageCrc (old : Dev) : (d.conclude m old).sys.imageCrc = d.sys.imageCrc := by
  have h := congrArg Sys.imageCrc (Dev.conclude_sys_same d m old); exact h
@[simp] theorem Dev.conclude_sys_stallTable (old : Dev) : (d.conclude m old).sys.stallTable = d.sys.stallTable := by
  have h := congrArg Sys.stallTable (Dev.conclude_sys_same d m old); exact h
@[simp] theorem Dev.conclude_sys_vauxLost (old : Dev) : (d.conclude m old).sys.vauxLost = d.sys.vauxLost := by
  have h := congrArg Sys.vauxLost (Dev.conclude_sys_same d m old); exact h
@[simp] theorem Dev.conclude_sys_loaded (old : Dev) : (d.conclude m old).sys.loaded = d.sys.loaded := by
  have h := congrArg Sys.loaded (Dev.conclude_sys_same d m old); exact h
@[simp] theorem Dev.conclude_sys_tail (old : Dev) : (d.conclude m old).sys.tail = d.sys.tail := by
  have h := congrArg Sys.tail (Dev.conclude_sys_same d m old); exact h
@[simp] theorem Dev.conclude_loft_portOk (old : Dev) : (d.conclude m old).loft.portOk = d.loft.portOk := by
  have h := congrArg Loft.portOk (Dev.conclude_loft_same d m old); exact h
@[simp] theorem Dev.conclude_loft_portRetry (old : Dev) : (d.conclude m old).loft.portRetry = d.loft.portRetry := by
  have h := congrArg Loft.portRetry (Dev.conclude_loft_same d m old); exact h
@[simp] theorem Dev.conclude_loft_failing (old : Dev) : (d.conclude m old).loft.failing = d.loft.failing := by
  have h := congrArg Loft.failing (Dev.conclude_loft_same d m old); exact h
@[simp] theorem Dev.conclude_loft_cuts (old : Dev) : (d.conclude m old).loft.cuts = d.loft.cuts := by
  have h := congrArg Loft.cuts (Dev.conclude_loft_same d m old); exact h
@[simp] theorem Dev.conclude_loft_remap (old : Dev) : (d.conclude m old).loft.remap = d.loft.remap := by
  have h := congrArg Loft.remap (Dev.conclude_loft_same d m old); exact h
@[simp] theorem Dev.conclude_loft_remapping (old : Dev) : (d.conclude m old).loft.remapping = d.loft.remapping := by
  have h := congrArg Loft.remapping (Dev.conclude_loft_same d m old); exact h
@[simp] theorem Dev.conclude_loft_bpWord (old : Dev) : (d.conclude m old).loft.bpWord = d.loft.bpWord := by
  have h := congrArg Loft.bpWord (Dev.conclude_loft_same d m old); exact h
@[simp] theorem Dev.conclude_loft_bp (old : Dev) : (d.conclude m old).loft.bp = d.loft.bp := by
  have h := congrArg Loft.bp (Dev.conclude_loft_same d m old); exact h
@[simp] theorem Dev.conclude_loft_protPend (old : Dev) : (d.conclude m old).loft.protPend = d.loft.protPend := by
  have h := congrArg Loft.protPend (Dev.conclude_loft_same d m old); exact h
@[simp] theorem Dev.conclude_loft_winners (old : Dev) : (d.conclude m old).loft.winners = d.loft.winners := by
  have h := congrArg Loft.winners (Dev.conclude_loft_same d m old); exact h
@[simp] theorem Dev.conclude_loft_hostBuf (old : Dev) : (d.conclude m old).loft.hostBuf = d.loft.hostBuf := by
  have h := congrArg Loft.hostBuf (Dev.conclude_loft_same d m old); exact h
@[simp] theorem Dev.conclude_loft_hostOver (old : Dev) : (d.conclude m old).loft.hostOver = d.loft.hostOver := by
  have h := congrArg Loft.hostOver (Dev.conclude_loft_same d m old); exact h
@[simp] theorem Dev.conclude_loft_hostBusy (old : Dev) : (d.conclude m old).loft.hostBusy = d.loft.hostBusy := by
  have h := congrArg Loft.hostBusy (Dev.conclude_loft_same d m old); exact h
@[simp] theorem Dev.conclude_loft_hostCode (old : Dev) : (d.conclude m old).loft.hostCode = d.loft.hostCode := by
  have h := congrArg Loft.hostCode (Dev.conclude_loft_same d m old); exact h
@[simp] theorem Dev.conclude_loft_imgValidA (old : Dev) : (d.conclude m old).loft.imgValidA = d.loft.imgValidA := by
  have h := congrArg Loft.imgValidA (Dev.conclude_loft_same d m old); exact h
@[simp] theorem Dev.conclude_loft_imgValidB (old : Dev) : (d.conclude m old).loft.imgValidB = d.loft.imgValidB := by
  have h := congrArg Loft.imgValidB (Dev.conclude_loft_same d m old); exact h
@[simp] theorem Dev.conclude_loft_imgSeqA (old : Dev) : (d.conclude m old).loft.imgSeqA = d.loft.imgSeqA := by
  have h := congrArg Loft.imgSeqA (Dev.conclude_loft_same d m old); exact h
@[simp] theorem Dev.conclude_loft_imgSeqB (old : Dev) : (d.conclude m old).loft.imgSeqB = d.loft.imgSeqB := by
  have h := congrArg Loft.imgSeqB (Dev.conclude_loft_same d m old); exact h
@[simp] theorem Dev.conclude_loft_installing (old : Dev) : (d.conclude m old).loft.installing = d.loft.installing := by
  have h := congrArg Loft.installing (Dev.conclude_loft_same d m old); exact h
@[simp] theorem Dev.conclude_loft_pcycle (old : Dev) : (d.conclude m old).loft.pcycle = d.loft.pcycle := by
  have h := congrArg Loft.pcycle (Dev.conclude_loft_same d m old); exact h
@[simp] theorem Dev.conclude_loft_opBase (old : Dev) : (d.conclude m old).loft.opBase = d.loft.opBase := by
  have h := congrArg Loft.opBase (Dev.conclude_loft_same d m old); exact h
@[simp] theorem Dev.conclude_loft_opStart (old : Dev) : (d.conclude m old).loft.opStart = d.loft.opStart := by
  have h := congrArg Loft.opStart (Dev.conclude_loft_same d m old); exact h
@[simp] theorem Dev.conclude_loft_opFlushed (old : Dev) : (d.conclude m old).loft.opFlushed = d.loft.opFlushed := by
  have h := congrArg Loft.opFlushed (Dev.conclude_loft_same d m old); exact h
@[simp] theorem Dev.conclude_loft_countersRead (old : Dev) : (d.conclude m old).loft.countersRead = d.loft.countersRead := by
  have h := congrArg Loft.countersRead (Dev.conclude_loft_same d m old); exact h
@[simp] theorem Dev.conclude_loft_histNext (old : Dev) : (d.conclude m old).loft.histNext = d.loft.histNext := by
  have h := congrArg Loft.histNext (Dev.conclude_loft_same d m old); exact h
@[simp] theorem Dev.conclude_loft_reqAddr (old : Dev) : (d.conclude m old).loft.reqAddr = d.loft.reqAddr := by
  have h := congrArg Loft.reqAddr (Dev.conclude_loft_same d m old); exact h
@[simp] theorem Dev.conclude_loft_changed (old : Dev) : (d.conclude m old).loft.changed = d.loft.changed := by
  have h := congrArg Loft.changed (Dev.conclude_loft_same d m old); exact h
@[simp] theorem Dev.conclude_evt_queue (old : Dev) : (d.conclude m old).evt.queue = d.evt.queue := by
  have h := congrArg Recorder.queue (Dev.conclude_evt_same d m old); exact h
@[simp] theorem Dev.conclude_evt_hold (old : Dev) : (d.conclude m old).evt.hold = d.evt.hold := by
  have h := congrArg Recorder.hold (Dev.conclude_evt_same d m old); exact h
@[simp] theorem Dev.conclude_evt_lost (old : Dev) : (d.conclude m old).evt.lost = d.evt.lost := by
  have h := congrArg Recorder.lost (Dev.conclude_evt_same d m old); exact h
@[simp] theorem Dev.conclude_evt_lostTime (old : Dev) : (d.conclude m old).evt.lostTime = d.evt.lostTime := by
  have h := congrArg Recorder.lostTime (Dev.conclude_evt_same d m old); exact h
@[simp] theorem Dev.conclude_evt_latches (old : Dev) : (d.conclude m old).evt.latches = d.evt.latches := by
  have h := congrArg Recorder.latches (Dev.conclude_evt_same d m old); exact h
@[simp] theorem Dev.conclude_evt_lwOver (old : Dev) : (d.conclude m old).evt.lwOver = d.evt.lwOver := by
  have h := congrArg Recorder.lwOver (Dev.conclude_evt_same d m old); exact h
@[simp] theorem Dev.conclude_evt_lwWritten (old : Dev) : (d.conclude m old).evt.lwWritten = d.evt.lwWritten := by
  have h := congrArg Recorder.lwWritten (Dev.conclude_evt_same d m old); exact h
@[simp] theorem Dev.conclude_evt_head (old : Dev) : (d.conclude m old).evt.head = d.evt.head := by
  have h := congrArg Recorder.head (Dev.conclude_evt_same d m old); exact h
@[simp] theorem Dev.conclude_evt_unusable (old : Dev) : (d.conclude m old).evt.unusable = d.evt.unusable := by
  have h := congrArg Recorder.unusable (Dev.conclude_evt_same d m old); exact h
@[simp] theorem Dev.conclude_evt_released (old : Dev) : (d.conclude m old).evt.released = d.evt.released := by
  have h := congrArg Recorder.released (Dev.conclude_evt_same d m old); exact h
@[simp] theorem Dev.conclude_evt_clearing (old : Dev) : (d.conclude m old).evt.clearing = d.evt.clearing := by
  have h := congrArg Recorder.clearing (Dev.conclude_evt_same d m old); exact h
@[simp] theorem Dev.conclude_evt_clearCode (old : Dev) : (d.conclude m old).evt.clearCode = d.evt.clearCode := by
  have h := congrArg Recorder.clearCode (Dev.conclude_evt_same d m old); exact h
@[simp] theorem Dev.conclude_evt_clearSession (old : Dev) : (d.conclude m old).evt.clearSession = d.evt.clearSession := by
  have h := congrArg Recorder.clearSession (Dev.conclude_evt_same d m old); exact h
@[simp] theorem Dev.conclude_evt_rslot (old : Dev) : (d.conclude m old).evt.rslot = d.evt.rslot := by
  have h := congrArg Recorder.rslot (Dev.conclude_evt_same d m old); exact h
@[simp] theorem Dev.conclude_evt_rvalid (old : Dev) : (d.conclude m old).evt.rvalid = d.evt.rvalid := by
  have h := congrArg Recorder.rvalid (Dev.conclude_evt_same d m old); exact h
@[simp] theorem Dev.conclude_evt_rwords (old : Dev) : (d.conclude m old).evt.rwords = d.evt.rwords := by
  have h := congrArg Recorder.rwords (Dev.conclude_evt_same d m old); exact h
@[simp] theorem Dev.conclude_evt_countWrite (old : Dev) : (d.conclude m old).evt.countWrite = d.evt.countWrite := by
  have h := congrArg Recorder.countWrite (Dev.conclude_evt_same d m old); exact h
@[simp] theorem Dev.conclude_evt_cleared (old : Dev) : (d.conclude m old).evt.cleared = d.evt.cleared := by
  have h := congrArg Recorder.cleared (Dev.conclude_evt_same d m old); exact h
@[simp] theorem Dev.conclude_pair_primary (old : Dev) : (d.conclude m old).pair.primary = d.pair.primary := by
  have h := congrArg Pair.primary (Dev.conclude_pair_same d m old); exact h
@[simp] theorem Dev.conclude_pair_settled (old : Dev) : (d.conclude m old).pair.settled = d.pair.settled := by
  have h := congrArg Pair.settled (Dev.conclude_pair_same d m old); exact h
@[simp] theorem Dev.conclude_pair_alone (old : Dev) : (d.conclude m old).pair.alone = d.pair.alone := by
  have h := congrArg Pair.alone (Dev.conclude_pair_same d m old); exact h
@[simp] theorem Dev.conclude_pair_armed (old : Dev) : (d.conclude m old).pair.armed = d.pair.armed := by
  have h := congrArg Pair.armed (Dev.conclude_pair_same d m old); exact h
@[simp] theorem Dev.conclude_pair_mismatch (old : Dev) : (d.conclude m old).pair.mismatch = d.pair.mismatch := by
  have h := congrArg Pair.mismatch (Dev.conclude_pair_same d m old); exact h
@[simp] theorem Dev.conclude_pair_waiting (old : Dev) : (d.conclude m old).pair.waiting = d.pair.waiting := by
  have h := congrArg Pair.waiting (Dev.conclude_pair_same d m old); exact h
@[simp] theorem Dev.conclude_pair_owner (old : Dev) : (d.conclude m old).pair.owner = d.pair.owner := by
  have h := congrArg Pair.owner (Dev.conclude_pair_same d m old); exact h
@[simp] theorem Dev.conclude_pair_authority (old : Dev) : (d.conclude m old).pair.authority = d.pair.authority := by
  have h := congrArg Pair.authority (Dev.conclude_pair_same d m old); exact h
@[simp] theorem Dev.conclude_pair_missRun (old : Dev) : (d.conclude m old).pair.missRun = d.pair.missRun := by
  have h := congrArg Pair.missRun (Dev.conclude_pair_same d m old); exact h
@[simp] theorem Dev.conclude_pair_term (old : Dev) : (d.conclude m old).pair.term = d.pair.term := by
  have h := congrArg Pair.term (Dev.conclude_pair_same d m old); exact h
@[simp] theorem Dev.conclude_pair_link (old : Dev) : (d.conclude m old).pair.link = d.pair.link := by
  have h := congrArg Pair.link (Dev.conclude_pair_same d m old); exact h
@[simp] theorem Dev.conclude_pair_partner (old : Dev) : (d.conclude m old).pair.partner = d.pair.partner := by
  have h := congrArg Pair.partner (Dev.conclude_pair_same d m old); exact h
@[simp] theorem Dev.conclude_pair_pfltLowAt (old : Dev) : (d.conclude m old).pair.pfltLowAt = d.pair.pfltLowAt := by
  have h := congrArg Pair.pfltLowAt (Dev.conclude_pair_same d m old); exact h
@[simp] theorem Dev.conclude_pair_negAt (old : Dev) : (d.conclude m old).pair.negAt = d.pair.negAt := by
  have h := congrArg Pair.negAt (Dev.conclude_pair_same d m old); exact h
@[simp] theorem Dev.conclude_pair_ack (old : Dev) : (d.conclude m old).pair.ack = d.pair.ack := by
  have h := congrArg Pair.ack (Dev.conclude_pair_same d m old); exact h
@[simp] theorem Dev.conclude_pair_joinAt (old : Dev) : (d.conclude m old).pair.joinAt = d.pair.joinAt := by
  have h := congrArg Pair.joinAt (Dev.conclude_pair_same d m old); exact h
@[simp] theorem Dev.conclude_pair_joinOut (old : Dev) : (d.conclude m old).pair.joinOut = d.pair.joinOut := by
  have h := congrArg Pair.joinOut (Dev.conclude_pair_same d m old); exact h
@[simp] theorem Dev.conclude_pair_joinNext (old : Dev) : (d.conclude m old).pair.joinNext = d.pair.joinNext := by
  have h := congrArg Pair.joinNext (Dev.conclude_pair_same d m old); exact h
@[simp] theorem Dev.conclude_pair_joined (old : Dev) : (d.conclude m old).pair.joined = d.pair.joined := by
  have h := congrArg Pair.joined (Dev.conclude_pair_same d m old); exact h
@[simp] theorem Dev.conclude_pair_gapAt (old : Dev) : (d.conclude m old).pair.gapAt = d.pair.gapAt := by
  have h := congrArg Pair.gapAt (Dev.conclude_pair_same d m old); exact h
@[simp] theorem Dev.conclude_pair_partnerArmed (old : Dev) : (d.conclude m old).pair.partnerArmed = d.pair.partnerArmed := by
  have h := congrArg Pair.partnerArmed (Dev.conclude_pair_same d m old); exact h
@[simp] theorem Dev.conclude_pair_rcAt (old : Dev) : (d.conclude m old).pair.rcAt = d.pair.rcAt := by
  have h := congrArg Pair.rcAt (Dev.conclude_pair_same d m old); exact h
@[simp] theorem Dev.conclude_pair_dc (old : Dev) : (d.conclude m old).pair.dc = d.pair.dc := by
  have h := congrArg Pair.dc (Dev.conclude_pair_same d m old); exact h
@[simp] theorem Dev.conclude_pair_dcAt (old : Dev) : (d.conclude m old).pair.dcAt = d.pair.dcAt := by
  have h := congrArg Pair.dcAt (Dev.conclude_pair_same d m old); exact h
@[simp] theorem Dev.conclude_pair_offsets (old : Dev) : (d.conclude m old).pair.offsets = d.pair.offsets := by
  have h := congrArg Pair.offsets (Dev.conclude_pair_same d m old); exact h
@[simp] theorem Dev.conclude_pair_trimIndex (old : Dev) : (d.conclude m old).pair.trimIndex = d.pair.trimIndex := by
  have h := congrArg Pair.trimIndex (Dev.conclude_pair_same d m old); exact h
@[simp] theorem Dev.conclude_pair_handoverAt (old : Dev) : (d.conclude m old).pair.handoverAt = d.pair.handoverAt := by
  have h := congrArg Pair.handoverAt (Dev.conclude_pair_same d m old); exact h
@[simp] theorem Dev.conclude_pair_takenUntil (old : Dev) : (d.conclude m old).pair.takenUntil = d.pair.takenUntil := by
  have h := congrArg Pair.takenUntil (Dev.conclude_pair_same d m old); exact h
@[simp] theorem Dev.conclude_pair_checkPos (old : Dev) : (d.conclude m old).pair.checkPos = d.pair.checkPos := by
  have h := congrArg Pair.checkPos (Dev.conclude_pair_same d m old); exact h
@[simp] theorem Dev.conclude_pair_checkMiss (old : Dev) : (d.conclude m old).pair.checkMiss = d.pair.checkMiss := by
  have h := congrArg Pair.checkMiss (Dev.conclude_pair_same d m old); exact h
@[simp] theorem Dev.conclude_pair_offered (old : Dev) : (d.conclude m old).pair.offered = d.pair.offered := by
  have h := congrArg Pair.offered (Dev.conclude_pair_same d m old); exact h
@[simp] theorem Dev.conclude_pair_loftLogged (old : Dev) : (d.conclude m old).pair.loftLogged = d.pair.loftLogged := by
  have h := congrArg Pair.loftLogged (Dev.conclude_pair_same d m old); exact h
@[simp] theorem Dev.conclude_pair_helloSent (old : Dev) : (d.conclude m old).pair.helloSent = d.pair.helloSent := by
  have h := congrArg Pair.helloSent (Dev.conclude_pair_same d m old); exact h
@[simp] theorem Dev.conclude_pair_helloAt (old : Dev) : (d.conclude m old).pair.helloAt = d.pair.helloAt := by
  have h := congrArg Pair.helloAt (Dev.conclude_pair_same d m old); exact h

/-- A part is exactly the same before and after. -/
def Part.eq (d e : Dev) : Part → Prop
  | .regs => e.regs = d.regs
  | .pins => e.pins = d.pins
  | .sys => e.sys = d.sys
  | .tb => e.tb = d.tb
  | .lanes => e.lanes = d.lanes
  | .stalls => e.stalls = d.stalls
  | .yards => e.yards = d.yards
  | .laws => e.laws = d.laws
  | .bals => e.bals = d.bals
  | .lawUnits => e.lawUnits = d.lawUnits
  | .balUnits => e.balUnits = d.balUnits
  | .rails => e.rails = d.rails
  | .ports => e.ports = d.ports
  | .prot => e.prot = d.prot
  | .ret => e.ret = d.ret
  | .hsw => e.hsw = d.hsw
  | .meas => e.meas = d.meas
  | .loft => e.loft = d.loft
  | .evt => e.evt = d.evt
  | .acc => e.acc = d.acc
  | .mgmt => e.mgmt = d.mgmt
  | .pair => e.pair = d.pair
  | .dom => e.dom = d.dom
  | .fuses => e.deviceKey = d.deviceKey ∧ e.fuseSerial = d.fuseSerial

theorem Part.same_of_eq {p : Part} {d e : Dev} (h : p.eq d e) : p.same d e := by
  cases p <;> simp only [Part.eq] at h <;> simp only [Part.same, h, and_self]

/-- Parts that are exactly the same are left alone. -/
theorem OnlyParts.of_eq {ps : List Part} {d e : Dev} (h : ∀ p, p ∉ ps → p.eq d e) : OnlyParts ps d e :=
  fun p hp => Part.same_of_eq (h p hp)

theorem Part.same_trans {p : Part} {a b c : Dev} (h : p.same a b) (k : p.same b c) : p.same a c := by
  cases p <;> simp only [Part.same] at * <;> first | exact k.trans h | exact ⟨k.1.trans h.1, k.2.trans h.2⟩

theorem OnlyParts.conclude {ps : List Part} {a b : Dev} (h : OnlyParts ps a b) (old : Dev) : OnlyParts ps a (b.conclude m old) :=
  fun p hp => Part.same_trans (h p hp) (Dev.conclude_same b m old p)

/-- A command carried out by `run` completes, with what its meaning does to the device. -/
theorem completes_run {c : Instr} {s : State} {P : Dev → Dev → Prop} (f : Dev → Dev) (h : exec c s = run c.instant f s)
    (k : P (s.seen c) ((f (s.seen c)).conclude s.array (s.seen c))) : Completes c s P :=
  ⟨_, h, rfl, k⟩

/-- The same for one that reads the array. -/
theorem completes_runRead {c : Instr} {s : State} {P : Dev → Dev → Prop} (f : Memory → Dev → Dev)
    (h : exec c s = runRead c.instant f s)
    (k : P (s.seen c) ((f s.array (s.seen c)).conclude s.array (s.seen c))) : Completes c s P :=
  ⟨_, h, rfl, k⟩

/-- The same for one that may store into it. -/
theorem completes_runLoft {c : Instr} {s : State} {P : Dev → Dev → Prop} (f : Memory → Dev → Memory × Dev)
    (h : exec c s = runLoft c.instant f s)
    (k : P (s.seen c) ((f s.array (s.seen c)).2.conclude (f s.array (s.seen c)).1 (s.seen c))) : Completes c s P :=
  ⟨_, h, rfl, k⟩

end Sys2Proof.Machine
end

