-- ==== Sys2Proof/Laws/Units.lean ====
section
/-! SUPPORT. Reading one unit of the device after an operation on one: a rail, yard, law, stall, lane, unit, port or
comparator. -/

namespace Sys2Proof.Machine

-- One proof after another: a worker thread for each would pass the memory limit.
set_option Elab.async false

variable (d : Dev) (n k : Nat)

/-- What `onRail` does to unit `k`. -/
theorem Dev.rail_onRail (f : Rail → Rail) :
    (d.onRail n f).rail k = if n = k ∧ k < d.rails.length then f (d.rail k) else d.rail k := modAt_getD _ _ _ _ _
@[simp] theorem Dev.rail_onRail_ne (f : Rail → Rail) (h : n ≠ k) : (d.onRail n f).rail k = d.rail k := by
  rw [Dev.rail_onRail, if_neg (fun x => h x.1)]
@[simp] theorem Dev.onRail_length (f : Rail → Rail) : (d.onRail n f).rails.length = d.rails.length := modAt_length _ _ _
/-- What `onYard` does to unit `k`. -/
theorem Dev.yard_onYard (f : Yard → Yard) :
    (d.onYard n f).yard k = if n = k ∧ k < d.yards.length then f (d.yard k) else d.yard k := modAt_getD _ _ _ _ _
@[simp] theorem Dev.yard_onYard_ne (f : Yard → Yard) (h : n ≠ k) : (d.onYard n f).yard k = d.yard k := by
  rw [Dev.yard_onYard, if_neg (fun x => h x.1)]
@[simp] theorem Dev.onYard_length (f : Yard → Yard) : (d.onYard n f).yards.length = d.yards.length := modAt_length _ _ _
/-- What `onLaw` does to unit `k`. -/
theorem Dev.law_onLaw (f : Law → Law) :
    (d.onLaw n f).law k = if n = k ∧ k < d.laws.length then f (d.law k) else d.law k := modAt_getD _ _ _ _ _
@[simp] theorem Dev.law_onLaw_ne (f : Law → Law) (h : n ≠ k) : (d.onLaw n f).law k = d.law k := by
  rw [Dev.law_onLaw, if_neg (fun x => h x.1)]
@[simp] theorem Dev.onLaw_length (f : Law → Law) : (d.onLaw n f).laws.length = d.laws.length := modAt_length _ _ _
/-- What `onStall` does to unit `k`. -/
theorem Dev.stall_onStall (f : Stall → Stall) :
    (d.onStall n f).stall k = if n = k ∧ k < d.stalls.length then f (d.stall k) else d.stall k := modAt_getD _ _ _ _ _
@[simp] theorem Dev.stall_onStall_ne (f : Stall → Stall) (h : n ≠ k) : (d.onStall n f).stall k = d.stall k := by
  rw [Dev.stall_onStall, if_neg (fun x => h x.1)]
@[simp] theorem Dev.onStall_length (f : Stall → Stall) : (d.onStall n f).stalls.length = d.stalls.length := modAt_length _ _ _
/-- What `onLane` does to unit `k`. -/
theorem Dev.lane_onLane (f : Lane → Lane) :
    (d.onLane n f).lane k = if n = k ∧ k < d.lanes.length then f (d.lane k) else d.lane k := modAt_getD _ _ _ _ _
@[simp] theorem Dev.lane_onLane_ne (f : Lane → Lane) (h : n ≠ k) : (d.onLane n f).lane k = d.lane k := by
  rw [Dev.lane_onLane, if_neg (fun x => h x.1)]
@[simp] theorem Dev.onLane_length (f : Lane → Lane) : (d.onLane n f).lanes.length = d.lanes.length := modAt_length _ _ _
/-- What `onLawUnit` does to unit `k`. -/
theorem Dev.lawUnit_onLawUnit (f : EvalUnit → EvalUnit) :
    (d.onLawUnit n f).lawUnit k = if n = k ∧ k < d.lawUnits.length then f (d.lawUnit k) else d.lawUnit k := modAt_getD _ _ _ _ _
@[simp] theorem Dev.lawUnit_onLawUnit_ne (f : EvalUnit → EvalUnit) (h : n ≠ k) : (d.onLawUnit n f).lawUnit k = d.lawUnit k := by
  rw [Dev.lawUnit_onLawUnit, if_neg (fun x => h x.1)]
@[simp] theorem Dev.onLawUnit_length (f : EvalUnit → EvalUnit) : (d.onLawUnit n f).lawUnits.length = d.lawUnits.length := modAt_length _ _ _
/-- What `onBalUnit` does to unit `k`. -/
theorem Dev.balUnit_onBalUnit (f : EvalUnit → EvalUnit) :
    (d.onBalUnit n f).balUnit k = if n = k ∧ k < d.balUnits.length then f (d.balUnit k) else d.balUnit k := modAt_getD _ _ _ _ _
@[simp] theorem Dev.balUnit_onBalUnit_ne (f : EvalUnit → EvalUnit) (h : n ≠ k) : (d.onBalUnit n f).balUnit k = d.balUnit k := by
  rw [Dev.balUnit_onBalUnit, if_neg (fun x => h x.1)]
@[simp] theorem Dev.onBalUnit_length (f : EvalUnit → EvalUnit) : (d.onBalUnit n f).balUnits.length = d.balUnits.length := modAt_length _ _ _
/-- What `onPort` does to unit `k`. -/
theorem Dev.port_onPort (f : Port → Port) :
    (d.onPort n f).port k = if n = k ∧ k < d.ports.length then f (d.port k) else d.port k := modAt_getD _ _ _ _ _
@[simp] theorem Dev.port_onPort_ne (f : Port → Port) (h : n ≠ k) : (d.onPort n f).port k = d.port k := by
  rw [Dev.port_onPort, if_neg (fun x => h x.1)]
@[simp] theorem Dev.onPort_length (f : Port → Port) : (d.onPort n f).ports.length = d.ports.length := modAt_length _ _ _
/-- What `onComp` does to unit `k`. -/
theorem Dev.comp_onComp (f : Comparator → Comparator) :
    (d.onComp n f).comp k = if n = k ∧ k < d.prot.comps.length then f (d.comp k) else d.comp k := modAt_getD _ _ _ _ _
@[simp] theorem Dev.comp_onComp_ne (f : Comparator → Comparator) (h : n ≠ k) : (d.onComp n f).comp k = d.comp k := by
  rw [Dev.comp_onComp, if_neg (fun x => h x.1)]
@[simp] theorem Dev.onComp_length (f : Comparator → Comparator) : (d.onComp n f).prot.comps.length = d.prot.comps.length := modAt_length _ _ _

end Sys2Proof.Machine
end

