-- ==== Sys2Proof/Laws/Frames.lean ====
section
/-! SUPPORT. What each operation of the device leaves alone, as equations that simp uses: one lemma for each operation. The
relations name what may change (`Only…`), what is kept (`Keeps…`), or are numbered where both lists are long. -/

namespace Sys2Proof.Machine

-- One proof after another: a worker thread for each would pass the memory limit.
set_option Elab.async false

variable {α : Type}

@[simp] theorem Dev.each_regs (d : Dev) (l : List α) (f : α → Dev → Dev) (h : ∀ a e, (f a e).regs = e.regs) :
    (d.each l f).regs = d.regs := Dev.each_proj (·.regs) f h l d
@[simp] theorem Dev.when_regs (d : Dev) (c : Bool) (f : Dev → Dev) (h : ∀ e, (f e).regs = e.regs) : (d.when c f).regs = d.regs
    := Dev.when_proj d (·.regs) c f (h d)
@[simp] theorem Dev.ite_regs (c : Prop) [Decidable c] (a b : Dev) : (if c then a else b).regs = if c then a.regs else b.regs
    := apply_ite _ _ _ _
@[simp] theorem Dev.each_pins (d : Dev) (l : List α) (f : α → Dev → Dev) (h : ∀ a e, (f a e).pins = e.pins) :
    (d.each l f).pins = d.pins := Dev.each_proj (·.pins) f h l d
@[simp] theorem Dev.when_pins (d : Dev) (c : Bool) (f : Dev → Dev) (h : ∀ e, (f e).pins = e.pins) : (d.when c f).pins = d.pins
    := Dev.when_proj d (·.pins) c f (h d)
@[simp] theorem Dev.ite_pins (c : Prop) [Decidable c] (a b : Dev) : (if c then a else b).pins = if c then a.pins else b.pins
    := apply_ite _ _ _ _
@[simp] theorem Dev.each_sys (d : Dev) (l : List α) (f : α → Dev → Dev) (h : ∀ a e, (f a e).sys = e.sys) : (d.each l f).sys = d.sys
    := Dev.each_proj (·.sys) f h l d
@[simp] theorem Dev.when_sys (d : Dev) (c : Bool) (f : Dev → Dev) (h : ∀ e, (f e).sys = e.sys) : (d.when c f).sys = d.sys
    := Dev.when_proj d (·.sys) c f (h d)
@[simp] theorem Dev.ite_sys (c : Prop) [Decidable c] (a b : Dev) : (if c then a else b).sys = if c then a.sys else b.sys
    := apply_ite _ _ _ _
@[simp] theorem Dev.each_tb (d : Dev) (l : List α) (f : α → Dev → Dev) (h : ∀ a e, (f a e).tb = e.tb) : (d.each l f).tb = d.tb
    := Dev.each_proj (·.tb) f h l d
@[simp] theorem Dev.when_tb (d : Dev) (c : Bool) (f : Dev → Dev) (h : ∀ e, (f e).tb = e.tb) : (d.when c f).tb = d.tb
    := Dev.when_proj d (·.tb) c f (h d)
@[simp] theorem Dev.ite_tb (c : Prop) [Decidable c] (a b : Dev) : (if c then a else b).tb = if c then a.tb else b.tb := apply_ite _ _ _ _
@[simp] theorem Dev.each_lanes (d : Dev) (l : List α) (f : α → Dev → Dev) (h : ∀ a e, (f a e).lanes = e.lanes) :
    (d.each l f).lanes = d.lanes := Dev.each_proj (·.lanes) f h l d
@[simp] theorem Dev.when_lanes (d : Dev) (c : Bool) (f : Dev → Dev) (h : ∀ e, (f e).lanes = e.lanes) : (d.when c f).lanes = d.lanes
    := Dev.when_proj d (·.lanes) c f (h d)
@[simp] theorem Dev.ite_lanes (c : Prop) [Decidable c] (a b : Dev) : (if c then a else b).lanes = if c then a.lanes else b.lanes
    := apply_ite _ _ _ _
@[simp] theorem Dev.each_stalls (d : Dev) (l : List α) (f : α → Dev → Dev) (h : ∀ a e, (f a e).stalls = e.stalls) :
    (d.each l f).stalls = d.stalls := Dev.each_proj (·.stalls) f h l d
@[simp] theorem Dev.when_stalls (d : Dev) (c : Bool) (f : Dev → Dev) (h : ∀ e, (f e).stalls = e.stalls) :
    (d.when c f).stalls = d.stalls := Dev.when_proj d (·.stalls) c f (h d)
@[simp] theorem Dev.ite_stalls (c : Prop) [Decidable c] (a b : Dev) : (if c then a else b).stalls = if c then a.stalls else b.stalls
    := apply_ite _ _ _ _
@[simp] theorem Dev.each_yards (d : Dev) (l : List α) (f : α → Dev → Dev) (h : ∀ a e, (f a e).yards = e.yards) :
    (d.each l f).yards = d.yards := Dev.each_proj (·.yards) f h l d
@[simp] theorem Dev.when_yards (d : Dev) (c : Bool) (f : Dev → Dev) (h : ∀ e, (f e).yards = e.yards) : (d.when c f).yards = d.yards
    := Dev.when_proj d (·.yards) c f (h d)
@[simp] theorem Dev.ite_yards (c : Prop) [Decidable c] (a b : Dev) : (if c then a else b).yards = if c then a.yards else b.yards
    := apply_ite _ _ _ _
@[simp] theorem Dev.each_laws (d : Dev) (l : List α) (f : α → Dev → Dev) (h : ∀ a e, (f a e).laws = e.laws) :
    (d.each l f).laws = d.laws := Dev.each_proj (·.laws) f h l d
@[simp] theorem Dev.when_laws (d : Dev) (c : Bool) (f : Dev → Dev) (h : ∀ e, (f e).laws = e.laws) : (d.when c f).laws = d.laws
    := Dev.when_proj d (·.laws) c f (h d)
@[simp] theorem Dev.ite_laws (c : Prop) [Decidable c] (a b : Dev) : (if c then a else b).laws = if c then a.laws else b.laws
    := apply_ite _ _ _ _
@[simp] theorem Dev.each_bals (d : Dev) (l : List α) (f : α → Dev → Dev) (h : ∀ a e, (f a e).bals = e.bals) :
    (d.each l f).bals = d.bals := Dev.each_proj (·.bals) f h l d
@[simp] theorem Dev.when_bals (d : Dev) (c : Bool) (f : Dev → Dev) (h : ∀ e, (f e).bals = e.bals) : (d.when c f).bals = d.bals
    := Dev.when_proj d (·.bals) c f (h d)
@[simp] theorem Dev.ite_bals (c : Prop) [Decidable c] (a b : Dev) : (if c then a else b).bals = if c then a.bals else b.bals
    := apply_ite _ _ _ _
@[simp] theorem Dev.each_lawUnits (d : Dev) (l : List α) (f : α → Dev → Dev) (h : ∀ a e, (f a e).lawUnits = e.lawUnits) :
    (d.each l f).lawUnits = d.lawUnits := Dev.each_proj (·.lawUnits) f h l d
@[simp] theorem Dev.when_lawUnits (d : Dev) (c : Bool) (f : Dev → Dev) (h : ∀ e, (f e).lawUnits = e.lawUnits) :
    (d.when c f).lawUnits = d.lawUnits := Dev.when_proj d (·.lawUnits) c f (h d)
@[simp] theorem Dev.ite_lawUnits (c : Prop) [Decidable c] (a b : Dev) :
    (if c then a else b).lawUnits = if c then a.lawUnits else b.lawUnits := apply_ite _ _ _ _
@[simp] theorem Dev.each_balUnits (d : Dev) (l : List α) (f : α → Dev → Dev) (h : ∀ a e, (f a e).balUnits = e.balUnits) :
    (d.each l f).balUnits = d.balUnits := Dev.each_proj (·.balUnits) f h l d
@[simp] theorem Dev.when_balUnits (d : Dev) (c : Bool) (f : Dev → Dev) (h : ∀ e, (f e).balUnits = e.balUnits) :
    (d.when c f).balUnits = d.balUnits := Dev.when_proj d (·.balUnits) c f (h d)
@[simp] theorem Dev.ite_balUnits (c : Prop) [Decidable c] (a b : Dev) :
    (if c then a else b).balUnits = if c then a.balUnits else b.balUnits := apply_ite _ _ _ _
@[simp] theorem Dev.each_rails (d : Dev) (l : List α) (f : α → Dev → Dev) (h : ∀ a e, (f a e).rails = e.rails) :
    (d.each l f).rails = d.rails := Dev.each_proj (·.rails) f h l d
@[simp] theorem Dev.when_rails (d : Dev) (c : Bool) (f : Dev → Dev) (h : ∀ e, (f e).rails = e.rails) : (d.when c f).rails = d.rails
    := Dev.when_proj d (·.rails) c f (h d)
@[simp] theorem Dev.ite_rails (c : Prop) [Decidable c] (a b : Dev) : (if c then a else b).rails = if c then a.rails else b.rails
    := apply_ite _ _ _ _
@[simp] theorem Dev.each_ports (d : Dev) (l : List α) (f : α → Dev → Dev) (h : ∀ a e, (f a e).ports = e.ports) :
    (d.each l f).ports = d.ports := Dev.each_proj (·.ports) f h l d
@[simp] theorem Dev.when_ports (d : Dev) (c : Bool) (f : Dev → Dev) (h : ∀ e, (f e).ports = e.ports) : (d.when c f).ports = d.ports
    := Dev.when_proj d (·.ports) c f (h d)
@[simp] theorem Dev.ite_ports (c : Prop) [Decidable c] (a b : Dev) : (if c then a else b).ports = if c then a.ports else b.ports
    := apply_ite _ _ _ _
@[simp] theorem Dev.each_prot (d : Dev) (l : List α) (f : α → Dev → Dev) (h : ∀ a e, (f a e).prot = e.prot) :
    (d.each l f).prot = d.prot := Dev.each_proj (·.prot) f h l d
@[simp] theorem Dev.when_prot (d : Dev) (c : Bool) (f : Dev → Dev) (h : ∀ e, (f e).prot = e.prot) : (d.when c f).prot = d.prot
    := Dev.when_proj d (·.prot) c f (h d)
@[simp] theorem Dev.ite_prot (c : Prop) [Decidable c] (a b : Dev) : (if c then a else b).prot = if c then a.prot else b.prot
    := apply_ite _ _ _ _
@[simp] theorem Dev.each_ret (d : Dev) (l : List α) (f : α → Dev → Dev) (h : ∀ a e, (f a e).ret = e.ret) : (d.each l f).ret = d.ret
    := Dev.each_proj (·.ret) f h l d
@[simp] theorem Dev.when_ret (d : Dev) (c : Bool) (f : Dev → Dev) (h : ∀ e, (f e).ret = e.ret) : (d.when c f).ret = d.ret
    := Dev.when_proj d (·.ret) c f (h d)
@[simp] theorem Dev.ite_ret (c : Prop) [Decidable c] (a b : Dev) : (if c then a else b).ret = if c then a.ret else b.ret
    := apply_ite _ _ _ _
@[simp] theorem Dev.each_hsw (d : Dev) (l : List α) (f : α → Dev → Dev) (h : ∀ a e, (f a e).hsw = e.hsw) : (d.each l f).hsw = d.hsw
    := Dev.each_proj (·.hsw) f h l d
@[simp] theorem Dev.when_hsw (d : Dev) (c : Bool) (f : Dev → Dev) (h : ∀ e, (f e).hsw = e.hsw) : (d.when c f).hsw = d.hsw
    := Dev.when_proj d (·.hsw) c f (h d)
@[simp] theorem Dev.ite_hsw (c : Prop) [Decidable c] (a b : Dev) : (if c then a else b).hsw = if c then a.hsw else b.hsw
    := apply_ite _ _ _ _
@[simp] theorem Dev.each_meas (d : Dev) (l : List α) (f : α → Dev → Dev) (h : ∀ a e, (f a e).meas = e.meas) :
    (d.each l f).meas = d.meas := Dev.each_proj (·.meas) f h l d
@[simp] theorem Dev.when_meas (d : Dev) (c : Bool) (f : Dev → Dev) (h : ∀ e, (f e).meas = e.meas) : (d.when c f).meas = d.meas
    := Dev.when_proj d (·.meas) c f (h d)
@[simp] theorem Dev.ite_meas (c : Prop) [Decidable c] (a b : Dev) : (if c then a else b).meas = if c then a.meas else b.meas
    := apply_ite _ _ _ _
@[simp] theorem Dev.each_loft (d : Dev) (l : List α) (f : α → Dev → Dev) (h : ∀ a e, (f a e).loft = e.loft) :
    (d.each l f).loft = d.loft := Dev.each_proj (·.loft) f h l d
@[simp] theorem Dev.when_loft (d : Dev) (c : Bool) (f : Dev → Dev) (h : ∀ e, (f e).loft = e.loft) : (d.when c f).loft = d.loft
    := Dev.when_proj d (·.loft) c f (h d)
@[simp] theorem Dev.ite_loft (c : Prop) [Decidable c] (a b : Dev) : (if c then a else b).loft = if c then a.loft else b.loft
    := apply_ite _ _ _ _
@[simp] theorem Dev.each_evt (d : Dev) (l : List α) (f : α → Dev → Dev) (h : ∀ a e, (f a e).evt = e.evt) : (d.each l f).evt = d.evt
    := Dev.each_proj (·.evt) f h l d
@[simp] theorem Dev.when_evt (d : Dev) (c : Bool) (f : Dev → Dev) (h : ∀ e, (f e).evt = e.evt) : (d.when c f).evt = d.evt
    := Dev.when_proj d (·.evt) c f (h d)
@[simp] theorem Dev.ite_evt (c : Prop) [Decidable c] (a b : Dev) : (if c then a else b).evt = if c then a.evt else b.evt
    := apply_ite _ _ _ _
@[simp] theorem Dev.each_acc (d : Dev) (l : List α) (f : α → Dev → Dev) (h : ∀ a e, (f a e).acc = e.acc) : (d.each l f).acc = d.acc
    := Dev.each_proj (·.acc) f h l d
@[simp] theorem Dev.when_acc (d : Dev) (c : Bool) (f : Dev → Dev) (h : ∀ e, (f e).acc = e.acc) : (d.when c f).acc = d.acc
    := Dev.when_proj d (·.acc) c f (h d)
@[simp] theorem Dev.ite_acc (c : Prop) [Decidable c] (a b : Dev) : (if c then a else b).acc = if c then a.acc else b.acc
    := apply_ite _ _ _ _
@[simp] theorem Dev.each_mgmt (d : Dev) (l : List α) (f : α → Dev → Dev) (h : ∀ a e, (f a e).mgmt = e.mgmt) :
    (d.each l f).mgmt = d.mgmt := Dev.each_proj (·.mgmt) f h l d
@[simp] theorem Dev.when_mgmt (d : Dev) (c : Bool) (f : Dev → Dev) (h : ∀ e, (f e).mgmt = e.mgmt) : (d.when c f).mgmt = d.mgmt
    := Dev.when_proj d (·.mgmt) c f (h d)
@[simp] theorem Dev.ite_mgmt (c : Prop) [Decidable c] (a b : Dev) : (if c then a else b).mgmt = if c then a.mgmt else b.mgmt
    := apply_ite _ _ _ _
@[simp] theorem Dev.each_pair (d : Dev) (l : List α) (f : α → Dev → Dev) (h : ∀ a e, (f a e).pair = e.pair) :
    (d.each l f).pair = d.pair := Dev.each_proj (·.pair) f h l d
@[simp] theorem Dev.when_pair (d : Dev) (c : Bool) (f : Dev → Dev) (h : ∀ e, (f e).pair = e.pair) : (d.when c f).pair = d.pair
    := Dev.when_proj d (·.pair) c f (h d)
@[simp] theorem Dev.ite_pair (c : Prop) [Decidable c] (a b : Dev) : (if c then a else b).pair = if c then a.pair else b.pair
    := apply_ite _ _ _ _
@[simp] theorem Dev.each_dom (d : Dev) (l : List α) (f : α → Dev → Dev) (h : ∀ a e, (f a e).dom = e.dom) : (d.each l f).dom = d.dom
    := Dev.each_proj (·.dom) f h l d
@[simp] theorem Dev.when_dom (d : Dev) (c : Bool) (f : Dev → Dev) (h : ∀ e, (f e).dom = e.dom) : (d.when c f).dom = d.dom
    := Dev.when_proj d (·.dom) c f (h d)
@[simp] theorem Dev.ite_dom (c : Prop) [Decidable c] (a b : Dev) : (if c then a else b).dom = if c then a.dom else b.dom
    := apply_ite _ _ _ _
@[simp] theorem Dev.each_deviceKey (d : Dev) (l : List α) (f : α → Dev → Dev) (h : ∀ a e, (f a e).deviceKey = e.deviceKey) :
    (d.each l f).deviceKey = d.deviceKey := Dev.each_proj (·.deviceKey) f h l d
@[simp] theorem Dev.when_deviceKey (d : Dev) (c : Bool) (f : Dev → Dev) (h : ∀ e, (f e).deviceKey = e.deviceKey) :
    (d.when c f).deviceKey = d.deviceKey := Dev.when_proj d (·.deviceKey) c f (h d)
@[simp] theorem Dev.ite_deviceKey (c : Prop) [Decidable c] (a b : Dev) :
    (if c then a else b).deviceKey = if c then a.deviceKey else b.deviceKey := apply_ite _ _ _ _
@[simp] theorem Dev.each_fuseSerial (d : Dev) (l : List α) (f : α → Dev → Dev) (h : ∀ a e, (f a e).fuseSerial = e.fuseSerial) :
    (d.each l f).fuseSerial = d.fuseSerial := Dev.each_proj (·.fuseSerial) f h l d
@[simp] theorem Dev.when_fuseSerial (d : Dev) (c : Bool) (f : Dev → Dev) (h : ∀ e, (f e).fuseSerial = e.fuseSerial) :
    (d.when c f).fuseSerial = d.fuseSerial := Dev.when_proj d (·.fuseSerial) c f (h d)
@[simp] theorem Dev.ite_fuseSerial (c : Prop) [Decidable c] (a b : Dev) :
    (if c then a else b).fuseSerial = if c then a.fuseSerial else b.fuseSerial := apply_ite _ _ _ _
abbrev Dev.OnlyRegsLoft (d e : Dev) : Prop :=
  e.pins = d.pins ∧ e.sys = d.sys ∧ e.tb = d.tb ∧ e.lanes = d.lanes ∧ e.stalls = d.stalls ∧ e.yards = d.yards ∧
  e.laws = d.laws ∧ e.bals = d.bals ∧ e.lawUnits = d.lawUnits ∧ e.balUnits = d.balUnits ∧ e.rails = d.rails ∧
  e.ports = d.ports ∧ e.prot = d.prot ∧ e.ret = d.ret ∧ e.hsw = d.hsw ∧ e.meas = d.meas ∧ e.evt = d.evt ∧ e.acc = d.acc ∧
  e.mgmt = d.mgmt ∧ e.pair = d.pair ∧ e.dom = d.dom ∧ e.deviceKey = d.deviceKey ∧ e.fuseSerial = d.fuseSerial
abbrev Dev.OnlyRegs (d e : Dev) : Prop :=
  e.pins = d.pins ∧ e.sys = d.sys ∧ e.tb = d.tb ∧ e.lanes = d.lanes ∧ e.stalls = d.stalls ∧ e.yards = d.yards ∧
  e.laws = d.laws ∧ e.bals = d.bals ∧ e.lawUnits = d.lawUnits ∧ e.balUnits = d.balUnits ∧ e.rails = d.rails ∧
  e.ports = d.ports ∧ e.prot = d.prot ∧ e.ret = d.ret ∧ e.hsw = d.hsw ∧ e.meas = d.meas ∧ e.loft = d.loft ∧ e.evt = d.evt ∧
  e.acc = d.acc ∧ e.mgmt = d.mgmt ∧ e.pair = d.pair ∧ e.dom = d.dom ∧ e.deviceKey = d.deviceKey ∧
  e.fuseSerial = d.fuseSerial
abbrev Dev.OnlyRegsLanesStallsRails (d e : Dev) : Prop :=
  e.pins = d.pins ∧ e.sys = d.sys ∧ e.tb = d.tb ∧ e.yards = d.yards ∧ e.laws = d.laws ∧ e.bals = d.bals ∧
  e.lawUnits = d.lawUnits ∧ e.balUnits = d.balUnits ∧ e.ports = d.ports ∧ e.prot = d.prot ∧ e.ret = d.ret ∧ e.hsw = d.hsw ∧
  e.meas = d.meas ∧ e.loft = d.loft ∧ e.evt = d.evt ∧ e.acc = d.acc ∧ e.mgmt = d.mgmt ∧ e.pair = d.pair ∧ e.dom = d.dom ∧
  e.deviceKey = d.deviceKey ∧ e.fuseSerial = d.fuseSerial
abbrev Dev.OnlyRegsLanes (d e : Dev) : Prop :=
  e.pins = d.pins ∧ e.sys = d.sys ∧ e.tb = d.tb ∧ e.stalls = d.stalls ∧ e.yards = d.yards ∧ e.laws = d.laws ∧
  e.bals = d.bals ∧ e.lawUnits = d.lawUnits ∧ e.balUnits = d.balUnits ∧ e.rails = d.rails ∧ e.ports = d.ports ∧
  e.prot = d.prot ∧ e.ret = d.ret ∧ e.hsw = d.hsw ∧ e.meas = d.meas ∧ e.loft = d.loft ∧ e.evt = d.evt ∧ e.acc = d.acc ∧
  e.mgmt = d.mgmt ∧ e.pair = d.pair ∧ e.dom = d.dom ∧ e.deviceKey = d.deviceKey ∧ e.fuseSerial = d.fuseSerial
abbrev Dev.OnlyMeas (d e : Dev) : Prop :=
  e.regs = d.regs ∧ e.pins = d.pins ∧ e.sys = d.sys ∧ e.tb = d.tb ∧ e.lanes = d.lanes ∧ e.stalls = d.stalls ∧
  e.yards = d.yards ∧ e.laws = d.laws ∧ e.bals = d.bals ∧ e.lawUnits = d.lawUnits ∧ e.balUnits = d.balUnits ∧
  e.rails = d.rails ∧ e.ports = d.ports ∧ e.prot = d.prot ∧ e.ret = d.ret ∧ e.hsw = d.hsw ∧ e.loft = d.loft ∧
  e.evt = d.evt ∧ e.acc = d.acc ∧ e.mgmt = d.mgmt ∧ e.pair = d.pair ∧ e.dom = d.dom ∧ e.deviceKey = d.deviceKey ∧
  e.fuseSerial = d.fuseSerial
abbrev Dev.OnlyMgmt (d e : Dev) : Prop :=
  e.regs = d.regs ∧ e.pins = d.pins ∧ e.sys = d.sys ∧ e.tb = d.tb ∧ e.lanes = d.lanes ∧ e.stalls = d.stalls ∧
  e.yards = d.yards ∧ e.laws = d.laws ∧ e.bals = d.bals ∧ e.lawUnits = d.lawUnits ∧ e.balUnits = d.balUnits ∧
  e.rails = d.rails ∧ e.ports = d.ports ∧ e.prot = d.prot ∧ e.ret = d.ret ∧ e.hsw = d.hsw ∧ e.meas = d.meas ∧
  e.loft = d.loft ∧ e.evt = d.evt ∧ e.acc = d.acc ∧ e.pair = d.pair ∧ e.dom = d.dom ∧ e.deviceKey = d.deviceKey ∧
  e.fuseSerial = d.fuseSerial
abbrev Dev.OnlyRegsMgmt (d e : Dev) : Prop :=
  e.pins = d.pins ∧ e.sys = d.sys ∧ e.tb = d.tb ∧ e.lanes = d.lanes ∧ e.stalls = d.stalls ∧ e.yards = d.yards ∧
  e.laws = d.laws ∧ e.bals = d.bals ∧ e.lawUnits = d.lawUnits ∧ e.balUnits = d.balUnits ∧ e.rails = d.rails ∧
  e.ports = d.ports ∧ e.prot = d.prot ∧ e.ret = d.ret ∧ e.hsw = d.hsw ∧ e.meas = d.meas ∧ e.loft = d.loft ∧ e.evt = d.evt ∧
  e.acc = d.acc ∧ e.pair = d.pair ∧ e.dom = d.dom ∧ e.deviceKey = d.deviceKey ∧ e.fuseSerial = d.fuseSerial
abbrev Dev.OnlyAcc (d e : Dev) : Prop :=
  e.regs = d.regs ∧ e.pins = d.pins ∧ e.sys = d.sys ∧ e.tb = d.tb ∧ e.lanes = d.lanes ∧ e.stalls = d.stalls ∧
  e.yards = d.yards ∧ e.laws = d.laws ∧ e.bals = d.bals ∧ e.lawUnits = d.lawUnits ∧ e.balUnits = d.balUnits ∧
  e.rails = d.rails ∧ e.ports = d.ports ∧ e.prot = d.prot ∧ e.ret = d.ret ∧ e.hsw = d.hsw ∧ e.meas = d.meas ∧
  e.loft = d.loft ∧ e.evt = d.evt ∧ e.mgmt = d.mgmt ∧ e.pair = d.pair ∧ e.dom = d.dom ∧ e.deviceKey = d.deviceKey ∧
  e.fuseSerial = d.fuseSerial
abbrev Dev.OnlyLoft (d e : Dev) : Prop :=
  e.regs = d.regs ∧ e.pins = d.pins ∧ e.sys = d.sys ∧ e.tb = d.tb ∧ e.lanes = d.lanes ∧ e.stalls = d.stalls ∧
  e.yards = d.yards ∧ e.laws = d.laws ∧ e.bals = d.bals ∧ e.lawUnits = d.lawUnits ∧ e.balUnits = d.balUnits ∧
  e.rails = d.rails ∧ e.ports = d.ports ∧ e.prot = d.prot ∧ e.ret = d.ret ∧ e.hsw = d.hsw ∧ e.meas = d.meas ∧
  e.evt = d.evt ∧ e.acc = d.acc ∧ e.mgmt = d.mgmt ∧ e.pair = d.pair ∧ e.dom = d.dom ∧ e.deviceKey = d.deviceKey ∧
  e.fuseSerial = d.fuseSerial
abbrev Dev.OnlyRegsLoftEvtAcc (d e : Dev) : Prop :=
  e.pins = d.pins ∧ e.sys = d.sys ∧ e.tb = d.tb ∧ e.lanes = d.lanes ∧ e.stalls = d.stalls ∧ e.yards = d.yards ∧
  e.laws = d.laws ∧ e.bals = d.bals ∧ e.lawUnits = d.lawUnits ∧ e.balUnits = d.balUnits ∧ e.rails = d.rails ∧
  e.ports = d.ports ∧ e.prot = d.prot ∧ e.ret = d.ret ∧ e.hsw = d.hsw ∧ e.meas = d.meas ∧ e.mgmt = d.mgmt ∧
  e.pair = d.pair ∧ e.dom = d.dom ∧ e.deviceKey = d.deviceKey ∧ e.fuseSerial = d.fuseSerial
abbrev Dev.OnlyRegsEvtAcc (d e : Dev) : Prop :=
  e.pins = d.pins ∧ e.sys = d.sys ∧ e.tb = d.tb ∧ e.lanes = d.lanes ∧ e.stalls = d.stalls ∧ e.yards = d.yards ∧
  e.laws = d.laws ∧ e.bals = d.bals ∧ e.lawUnits = d.lawUnits ∧ e.balUnits = d.balUnits ∧ e.rails = d.rails ∧
  e.ports = d.ports ∧ e.prot = d.prot ∧ e.ret = d.ret ∧ e.hsw = d.hsw ∧ e.meas = d.meas ∧ e.loft = d.loft ∧
  e.mgmt = d.mgmt ∧ e.pair = d.pair ∧ e.dom = d.dom ∧ e.deviceKey = d.deviceKey ∧ e.fuseSerial = d.fuseSerial
abbrev Dev.OnlyStalls (d e : Dev) : Prop :=
  e.regs = d.regs ∧ e.pins = d.pins ∧ e.sys = d.sys ∧ e.tb = d.tb ∧ e.lanes = d.lanes ∧ e.yards = d.yards ∧
  e.laws = d.laws ∧ e.bals = d.bals ∧ e.lawUnits = d.lawUnits ∧ e.balUnits = d.balUnits ∧ e.rails = d.rails ∧
  e.ports = d.ports ∧ e.prot = d.prot ∧ e.ret = d.ret ∧ e.hsw = d.hsw ∧ e.meas = d.meas ∧ e.loft = d.loft ∧ e.evt = d.evt ∧
  e.acc = d.acc ∧ e.mgmt = d.mgmt ∧ e.pair = d.pair ∧ e.dom = d.dom ∧ e.deviceKey = d.deviceKey ∧
  e.fuseSerial = d.fuseSerial
abbrev Dev.OnlyStallsYards (d e : Dev) : Prop :=
  e.regs = d.regs ∧ e.pins = d.pins ∧ e.sys = d.sys ∧ e.tb = d.tb ∧ e.lanes = d.lanes ∧ e.laws = d.laws ∧ e.bals = d.bals ∧
  e.lawUnits = d.lawUnits ∧ e.balUnits = d.balUnits ∧ e.rails = d.rails ∧ e.ports = d.ports ∧ e.prot = d.prot ∧
  e.ret = d.ret ∧ e.hsw = d.hsw ∧ e.meas = d.meas ∧ e.loft = d.loft ∧ e.evt = d.evt ∧ e.acc = d.acc ∧ e.mgmt = d.mgmt ∧
  e.pair = d.pair ∧ e.dom = d.dom ∧ e.deviceKey = d.deviceKey ∧ e.fuseSerial = d.fuseSerial
abbrev Dev.OnlyYards (d e : Dev) : Prop :=
  e.regs = d.regs ∧ e.pins = d.pins ∧ e.sys = d.sys ∧ e.tb = d.tb ∧ e.lanes = d.lanes ∧ e.stalls = d.stalls ∧
  e.laws = d.laws ∧ e.bals = d.bals ∧ e.lawUnits = d.lawUnits ∧ e.balUnits = d.balUnits ∧ e.rails = d.rails ∧
  e.ports = d.ports ∧ e.prot = d.prot ∧ e.ret = d.ret ∧ e.hsw = d.hsw ∧ e.meas = d.meas ∧ e.loft = d.loft ∧ e.evt = d.evt ∧
  e.acc = d.acc ∧ e.mgmt = d.mgmt ∧ e.pair = d.pair ∧ e.dom = d.dom ∧ e.deviceKey = d.deviceKey ∧
  e.fuseSerial = d.fuseSerial
abbrev Dev.OnlyRegsStallsYards (d e : Dev) : Prop :=
  e.pins = d.pins ∧ e.sys = d.sys ∧ e.tb = d.tb ∧ e.lanes = d.lanes ∧ e.laws = d.laws ∧ e.bals = d.bals ∧
  e.lawUnits = d.lawUnits ∧ e.balUnits = d.balUnits ∧ e.rails = d.rails ∧ e.ports = d.ports ∧ e.prot = d.prot ∧
  e.ret = d.ret ∧ e.hsw = d.hsw ∧ e.meas = d.meas ∧ e.loft = d.loft ∧ e.evt = d.evt ∧ e.acc = d.acc ∧ e.mgmt = d.mgmt ∧
  e.pair = d.pair ∧ e.dom = d.dom ∧ e.deviceKey = d.deviceKey ∧ e.fuseSerial = d.fuseSerial
abbrev Dev.OnlyRegsLanesStallsYardsRailsPair (d e : Dev) : Prop :=
  e.pins = d.pins ∧ e.sys = d.sys ∧ e.tb = d.tb ∧ e.laws = d.laws ∧ e.bals = d.bals ∧ e.lawUnits = d.lawUnits ∧
  e.balUnits = d.balUnits ∧ e.ports = d.ports ∧ e.prot = d.prot ∧ e.ret = d.ret ∧ e.hsw = d.hsw ∧ e.meas = d.meas ∧
  e.loft = d.loft ∧ e.evt = d.evt ∧ e.acc = d.acc ∧ e.mgmt = d.mgmt ∧ e.dom = d.dom ∧ e.deviceKey = d.deviceKey ∧
  e.fuseSerial = d.fuseSerial
abbrev Dev.OnlyRegsLanesStallsYardsEvt (d e : Dev) : Prop :=
  e.pins = d.pins ∧ e.sys = d.sys ∧ e.tb = d.tb ∧ e.laws = d.laws ∧ e.bals = d.bals ∧ e.lawUnits = d.lawUnits ∧
  e.balUnits = d.balUnits ∧ e.rails = d.rails ∧ e.ports = d.ports ∧ e.prot = d.prot ∧ e.ret = d.ret ∧ e.hsw = d.hsw ∧
  e.meas = d.meas ∧ e.loft = d.loft ∧ e.acc = d.acc ∧ e.mgmt = d.mgmt ∧ e.pair = d.pair ∧ e.dom = d.dom ∧
  e.deviceKey = d.deviceKey ∧ e.fuseSerial = d.fuseSerial
abbrev Dev.OnlyRegsLawUnitsEvt (d e : Dev) : Prop :=
  e.pins = d.pins ∧ e.sys = d.sys ∧ e.tb = d.tb ∧ e.lanes = d.lanes ∧ e.stalls = d.stalls ∧ e.yards = d.yards ∧
  e.laws = d.laws ∧ e.bals = d.bals ∧ e.balUnits = d.balUnits ∧ e.rails = d.rails ∧ e.ports = d.ports ∧ e.prot = d.prot ∧
  e.ret = d.ret ∧ e.hsw = d.hsw ∧ e.meas = d.meas ∧ e.loft = d.loft ∧ e.acc = d.acc ∧ e.mgmt = d.mgmt ∧ e.pair = d.pair ∧
  e.dom = d.dom ∧ e.deviceKey = d.deviceKey ∧ e.fuseSerial = d.fuseSerial
abbrev Dev.OnlyRegsBalUnitsEvt (d e : Dev) : Prop :=
  e.pins = d.pins ∧ e.sys = d.sys ∧ e.tb = d.tb ∧ e.lanes = d.lanes ∧ e.stalls = d.stalls ∧ e.yards = d.yards ∧
  e.laws = d.laws ∧ e.bals = d.bals ∧ e.lawUnits = d.lawUnits ∧ e.rails = d.rails ∧ e.ports = d.ports ∧ e.prot = d.prot ∧
  e.ret = d.ret ∧ e.hsw = d.hsw ∧ e.meas = d.meas ∧ e.loft = d.loft ∧ e.acc = d.acc ∧ e.mgmt = d.mgmt ∧ e.pair = d.pair ∧
  e.dom = d.dom ∧ e.deviceKey = d.deviceKey ∧ e.fuseSerial = d.fuseSerial
abbrev Dev.Frame1 (d e : Dev) : Prop :=
  e.pins = d.pins ∧ e.sys = d.sys ∧ e.tb = d.tb ∧ e.laws = d.laws ∧ e.bals = d.bals ∧ e.ports = d.ports ∧ e.prot = d.prot ∧
  e.ret = d.ret ∧ e.hsw = d.hsw ∧ e.meas = d.meas ∧ e.loft = d.loft ∧ e.acc = d.acc ∧ e.mgmt = d.mgmt ∧ e.dom = d.dom ∧
  e.deviceKey = d.deviceKey ∧ e.fuseSerial = d.fuseSerial
abbrev Dev.OnlyLaws (d e : Dev) : Prop :=
  e.regs = d.regs ∧ e.pins = d.pins ∧ e.sys = d.sys ∧ e.tb = d.tb ∧ e.lanes = d.lanes ∧ e.stalls = d.stalls ∧
  e.yards = d.yards ∧ e.bals = d.bals ∧ e.lawUnits = d.lawUnits ∧ e.balUnits = d.balUnits ∧ e.rails = d.rails ∧
  e.ports = d.ports ∧ e.prot = d.prot ∧ e.ret = d.ret ∧ e.hsw = d.hsw ∧ e.meas = d.meas ∧ e.loft = d.loft ∧ e.evt = d.evt ∧
  e.acc = d.acc ∧ e.mgmt = d.mgmt ∧ e.pair = d.pair ∧ e.dom = d.dom ∧ e.deviceKey = d.deviceKey ∧
  e.fuseSerial = d.fuseSerial
abbrev Dev.OnlyRegsLaws (d e : Dev) : Prop :=
  e.pins = d.pins ∧ e.sys = d.sys ∧ e.tb = d.tb ∧ e.lanes = d.lanes ∧ e.stalls = d.stalls ∧ e.yards = d.yards ∧
  e.bals = d.bals ∧ e.lawUnits = d.lawUnits ∧ e.balUnits = d.balUnits ∧ e.rails = d.rails ∧ e.ports = d.ports ∧
  e.prot = d.prot ∧ e.ret = d.ret ∧ e.hsw = d.hsw ∧ e.meas = d.meas ∧ e.loft = d.loft ∧ e.evt = d.evt ∧ e.acc = d.acc ∧
  e.mgmt = d.mgmt ∧ e.pair = d.pair ∧ e.dom = d.dom ∧ e.deviceKey = d.deviceKey ∧ e.fuseSerial = d.fuseSerial
abbrev Dev.OnlyRegsLawsPair (d e : Dev) : Prop :=
  e.pins = d.pins ∧ e.sys = d.sys ∧ e.tb = d.tb ∧ e.lanes = d.lanes ∧ e.stalls = d.stalls ∧ e.yards = d.yards ∧
  e.bals = d.bals ∧ e.lawUnits = d.lawUnits ∧ e.balUnits = d.balUnits ∧ e.rails = d.rails ∧ e.ports = d.ports ∧
  e.prot = d.prot ∧ e.ret = d.ret ∧ e.hsw = d.hsw ∧ e.meas = d.meas ∧ e.loft = d.loft ∧ e.evt = d.evt ∧ e.acc = d.acc ∧
  e.mgmt = d.mgmt ∧ e.dom = d.dom ∧ e.deviceKey = d.deviceKey ∧ e.fuseSerial = d.fuseSerial
abbrev Dev.OnlyRegsYardsLawUnitsEvt (d e : Dev) : Prop :=
  e.pins = d.pins ∧ e.sys = d.sys ∧ e.tb = d.tb ∧ e.lanes = d.lanes ∧ e.stalls = d.stalls ∧ e.laws = d.laws ∧
  e.bals = d.bals ∧ e.balUnits = d.balUnits ∧ e.rails = d.rails ∧ e.ports = d.ports ∧ e.prot = d.prot ∧ e.ret = d.ret ∧
  e.hsw = d.hsw ∧ e.meas = d.meas ∧ e.loft = d.loft ∧ e.acc = d.acc ∧ e.mgmt = d.mgmt ∧ e.pair = d.pair ∧ e.dom = d.dom ∧
  e.deviceKey = d.deviceKey ∧ e.fuseSerial = d.fuseSerial
abbrev Dev.OnlyRegsYardsBalUnitsEvt (d e : Dev) : Prop :=
  e.pins = d.pins ∧ e.sys = d.sys ∧ e.tb = d.tb ∧ e.lanes = d.lanes ∧ e.stalls = d.stalls ∧ e.laws = d.laws ∧
  e.bals = d.bals ∧ e.lawUnits = d.lawUnits ∧ e.rails = d.rails ∧ e.ports = d.ports ∧ e.prot = d.prot ∧ e.ret = d.ret ∧
  e.hsw = d.hsw ∧ e.meas = d.meas ∧ e.loft = d.loft ∧ e.acc = d.acc ∧ e.mgmt = d.mgmt ∧ e.pair = d.pair ∧ e.dom = d.dom ∧
  e.deviceKey = d.deviceKey ∧ e.fuseSerial = d.fuseSerial
abbrev Dev.OnlyRegsYardsLawsLawUnitsEvt (d e : Dev) : Prop :=
  e.pins = d.pins ∧ e.sys = d.sys ∧ e.tb = d.tb ∧ e.lanes = d.lanes ∧ e.stalls = d.stalls ∧ e.bals = d.bals ∧
  e.balUnits = d.balUnits ∧ e.rails = d.rails ∧ e.ports = d.ports ∧ e.prot = d.prot ∧ e.ret = d.ret ∧ e.hsw = d.hsw ∧
  e.meas = d.meas ∧ e.loft = d.loft ∧ e.acc = d.acc ∧ e.mgmt = d.mgmt ∧ e.pair = d.pair ∧ e.dom = d.dom ∧
  e.deviceKey = d.deviceKey ∧ e.fuseSerial = d.fuseSerial
abbrev Dev.OnlyRegsYardsBalsBalUnitsEvt (d e : Dev) : Prop :=
  e.pins = d.pins ∧ e.sys = d.sys ∧ e.tb = d.tb ∧ e.lanes = d.lanes ∧ e.stalls = d.stalls ∧ e.laws = d.laws ∧
  e.lawUnits = d.lawUnits ∧ e.rails = d.rails ∧ e.ports = d.ports ∧ e.prot = d.prot ∧ e.ret = d.ret ∧ e.hsw = d.hsw ∧
  e.meas = d.meas ∧ e.loft = d.loft ∧ e.acc = d.acc ∧ e.mgmt = d.mgmt ∧ e.pair = d.pair ∧ e.dom = d.dom ∧
  e.deviceKey = d.deviceKey ∧ e.fuseSerial = d.fuseSerial
abbrev Dev.OnlyRails (d e : Dev) : Prop :=
  e.regs = d.regs ∧ e.pins = d.pins ∧ e.sys = d.sys ∧ e.tb = d.tb ∧ e.lanes = d.lanes ∧ e.stalls = d.stalls ∧
  e.yards = d.yards ∧ e.laws = d.laws ∧ e.bals = d.bals ∧ e.lawUnits = d.lawUnits ∧ e.balUnits = d.balUnits ∧
  e.ports = d.ports ∧ e.prot = d.prot ∧ e.ret = d.ret ∧ e.hsw = d.hsw ∧ e.meas = d.meas ∧ e.loft = d.loft ∧ e.evt = d.evt ∧
  e.acc = d.acc ∧ e.mgmt = d.mgmt ∧ e.pair = d.pair ∧ e.dom = d.dom ∧ e.deviceKey = d.deviceKey ∧
  e.fuseSerial = d.fuseSerial
abbrev Dev.OnlyRegsRails (d e : Dev) : Prop :=
  e.pins = d.pins ∧ e.sys = d.sys ∧ e.tb = d.tb ∧ e.lanes = d.lanes ∧ e.stalls = d.stalls ∧ e.yards = d.yards ∧
  e.laws = d.laws ∧ e.bals = d.bals ∧ e.lawUnits = d.lawUnits ∧ e.balUnits = d.balUnits ∧ e.ports = d.ports ∧
  e.prot = d.prot ∧ e.ret = d.ret ∧ e.hsw = d.hsw ∧ e.meas = d.meas ∧ e.loft = d.loft ∧ e.evt = d.evt ∧ e.acc = d.acc ∧
  e.mgmt = d.mgmt ∧ e.pair = d.pair ∧ e.dom = d.dom ∧ e.deviceKey = d.deviceKey ∧ e.fuseSerial = d.fuseSerial
abbrev Dev.OnlyRegsProtEvt (d e : Dev) : Prop :=
  e.pins = d.pins ∧ e.sys = d.sys ∧ e.tb = d.tb ∧ e.lanes = d.lanes ∧ e.stalls = d.stalls ∧ e.yards = d.yards ∧
  e.laws = d.laws ∧ e.bals = d.bals ∧ e.lawUnits = d.lawUnits ∧ e.balUnits = d.balUnits ∧ e.rails = d.rails ∧
  e.ports = d.ports ∧ e.ret = d.ret ∧ e.hsw = d.hsw ∧ e.meas = d.meas ∧ e.loft = d.loft ∧ e.acc = d.acc ∧ e.mgmt = d.mgmt ∧
  e.pair = d.pair ∧ e.dom = d.dom ∧ e.deviceKey = d.deviceKey ∧ e.fuseSerial = d.fuseSerial
abbrev Dev.Frame2 (d e : Dev) : Prop :=
  e.pins = d.pins ∧ e.sys = d.sys ∧ e.tb = d.tb ∧ e.lanes = d.lanes ∧ e.stalls = d.stalls ∧ e.ports = d.ports ∧
  e.prot = d.prot ∧ e.ret = d.ret ∧ e.hsw = d.hsw ∧ e.loft = d.loft ∧ e.acc = d.acc ∧ e.mgmt = d.mgmt ∧ e.dom = d.dom ∧
  e.deviceKey = d.deviceKey ∧ e.fuseSerial = d.fuseSerial
abbrev Dev.OnlyRegsRailsProtEvtMgmt (d e : Dev) : Prop :=
  e.pins = d.pins ∧ e.sys = d.sys ∧ e.tb = d.tb ∧ e.lanes = d.lanes ∧ e.stalls = d.stalls ∧ e.yards = d.yards ∧
  e.laws = d.laws ∧ e.bals = d.bals ∧ e.lawUnits = d.lawUnits ∧ e.balUnits = d.balUnits ∧ e.ports = d.ports ∧
  e.ret = d.ret ∧ e.hsw = d.hsw ∧ e.meas = d.meas ∧ e.loft = d.loft ∧ e.acc = d.acc ∧ e.pair = d.pair ∧ e.dom = d.dom ∧
  e.deviceKey = d.deviceKey ∧ e.fuseSerial = d.fuseSerial
abbrev Dev.Frame3 (d e : Dev) : Prop :=
  e.pins = d.pins ∧ e.sys = d.sys ∧ e.tb = d.tb ∧ e.ports = d.ports ∧ e.ret = d.ret ∧ e.hsw = d.hsw ∧ e.loft = d.loft ∧
  e.acc = d.acc ∧ e.dom = d.dom ∧ e.deviceKey = d.deviceKey ∧ e.fuseSerial = d.fuseSerial
abbrev Dev.OnlyRegsRailsEvt (d e : Dev) : Prop :=
  e.pins = d.pins ∧ e.sys = d.sys ∧ e.tb = d.tb ∧ e.lanes = d.lanes ∧ e.stalls = d.stalls ∧ e.yards = d.yards ∧
  e.laws = d.laws ∧ e.bals = d.bals ∧ e.lawUnits = d.lawUnits ∧ e.balUnits = d.balUnits ∧ e.ports = d.ports ∧
  e.prot = d.prot ∧ e.ret = d.ret ∧ e.hsw = d.hsw ∧ e.meas = d.meas ∧ e.loft = d.loft ∧ e.acc = d.acc ∧ e.mgmt = d.mgmt ∧
  e.pair = d.pair ∧ e.dom = d.dom ∧ e.deviceKey = d.deviceKey ∧ e.fuseSerial = d.fuseSerial
abbrev Dev.OnlyRegsLanesStallsRailsEvt (d e : Dev) : Prop :=
  e.pins = d.pins ∧ e.sys = d.sys ∧ e.tb = d.tb ∧ e.yards = d.yards ∧ e.laws = d.laws ∧ e.bals = d.bals ∧
  e.lawUnits = d.lawUnits ∧ e.balUnits = d.balUnits ∧ e.ports = d.ports ∧ e.prot = d.prot ∧ e.ret = d.ret ∧ e.hsw = d.hsw ∧
  e.meas = d.meas ∧ e.loft = d.loft ∧ e.acc = d.acc ∧ e.mgmt = d.mgmt ∧ e.pair = d.pair ∧ e.dom = d.dom ∧
  e.deviceKey = d.deviceKey ∧ e.fuseSerial = d.fuseSerial
abbrev Dev.OnlyLanesStalls (d e : Dev) : Prop :=
  e.regs = d.regs ∧ e.pins = d.pins ∧ e.sys = d.sys ∧ e.tb = d.tb ∧ e.yards = d.yards ∧ e.laws = d.laws ∧ e.bals = d.bals ∧
  e.lawUnits = d.lawUnits ∧ e.balUnits = d.balUnits ∧ e.rails = d.rails ∧ e.ports = d.ports ∧ e.prot = d.prot ∧
  e.ret = d.ret ∧ e.hsw = d.hsw ∧ e.meas = d.meas ∧ e.loft = d.loft ∧ e.evt = d.evt ∧ e.acc = d.acc ∧ e.mgmt = d.mgmt ∧
  e.pair = d.pair ∧ e.dom = d.dom ∧ e.deviceKey = d.deviceKey ∧ e.fuseSerial = d.fuseSerial
abbrev Dev.OnlyRegsSysLanesStallsYards (d e : Dev) : Prop :=
  e.pins = d.pins ∧ e.tb = d.tb ∧ e.laws = d.laws ∧ e.bals = d.bals ∧ e.lawUnits = d.lawUnits ∧ e.balUnits = d.balUnits ∧
  e.rails = d.rails ∧ e.ports = d.ports ∧ e.prot = d.prot ∧ e.ret = d.ret ∧ e.hsw = d.hsw ∧ e.meas = d.meas ∧
  e.loft = d.loft ∧ e.evt = d.evt ∧ e.acc = d.acc ∧ e.mgmt = d.mgmt ∧ e.pair = d.pair ∧ e.dom = d.dom ∧
  e.deviceKey = d.deviceKey ∧ e.fuseSerial = d.fuseSerial
abbrev Dev.OnlyStallsLoft (d e : Dev) : Prop :=
  e.regs = d.regs ∧ e.pins = d.pins ∧ e.sys = d.sys ∧ e.tb = d.tb ∧ e.lanes = d.lanes ∧ e.yards = d.yards ∧
  e.laws = d.laws ∧ e.bals = d.bals ∧ e.lawUnits = d.lawUnits ∧ e.balUnits = d.balUnits ∧ e.rails = d.rails ∧
  e.ports = d.ports ∧ e.prot = d.prot ∧ e.ret = d.ret ∧ e.hsw = d.hsw ∧ e.meas = d.meas ∧ e.evt = d.evt ∧ e.acc = d.acc ∧
  e.mgmt = d.mgmt ∧ e.pair = d.pair ∧ e.dom = d.dom ∧ e.deviceKey = d.deviceKey ∧ e.fuseSerial = d.fuseSerial
abbrev Dev.Frame4 (d e : Dev) : Prop :=
  e.pins = d.pins ∧ e.sys = d.sys ∧ e.tb = d.tb ∧ e.laws = d.laws ∧ e.bals = d.bals ∧ e.ports = d.ports ∧ e.prot = d.prot ∧
  e.ret = d.ret ∧ e.meas = d.meas ∧ e.acc = d.acc ∧ e.mgmt = d.mgmt ∧ e.dom = d.dom ∧ e.deviceKey = d.deviceKey ∧
  e.fuseSerial = d.fuseSerial
abbrev Dev.Frame5 (d e : Dev) : Prop :=
  e.pins = d.pins ∧ e.sys = d.sys ∧ e.tb = d.tb ∧ e.lanes = d.lanes ∧ e.stalls = d.stalls ∧ e.yards = d.yards ∧
  e.laws = d.laws ∧ e.bals = d.bals ∧ e.lawUnits = d.lawUnits ∧ e.balUnits = d.balUnits ∧ e.ports = d.ports ∧
  e.ret = d.ret ∧ e.hsw = d.hsw ∧ e.acc = d.acc ∧ e.pair = d.pair ∧ e.dom = d.dom ∧ e.deviceKey = d.deviceKey ∧
  e.fuseSerial = d.fuseSerial
abbrev Dev.Frame6 (d e : Dev) : Prop :=
  e.pins = d.pins ∧ e.sys = d.sys ∧ e.tb = d.tb ∧ e.lanes = d.lanes ∧ e.stalls = d.stalls ∧ e.laws = d.laws ∧
  e.bals = d.bals ∧ e.lawUnits = d.lawUnits ∧ e.balUnits = d.balUnits ∧ e.ports = d.ports ∧ e.ret = d.ret ∧ e.hsw = d.hsw ∧
  e.acc = d.acc ∧ e.pair = d.pair ∧ e.dom = d.dom ∧ e.deviceKey = d.deviceKey ∧ e.fuseSerial = d.fuseSerial
abbrev Dev.Frame7 (d e : Dev) : Prop :=
  e.pins = d.pins ∧ e.sys = d.sys ∧ e.tb = d.tb ∧ e.lanes = d.lanes ∧ e.stalls = d.stalls ∧ e.bals = d.bals ∧
  e.lawUnits = d.lawUnits ∧ e.balUnits = d.balUnits ∧ e.ports = d.ports ∧ e.ret = d.ret ∧ e.hsw = d.hsw ∧ e.acc = d.acc ∧
  e.pair = d.pair ∧ e.dom = d.dom ∧ e.deviceKey = d.deviceKey ∧ e.fuseSerial = d.fuseSerial
abbrev Dev.Frame8 (d e : Dev) : Prop :=
  e.pins = d.pins ∧ e.sys = d.sys ∧ e.tb = d.tb ∧ e.lanes = d.lanes ∧ e.stalls = d.stalls ∧ e.bals = d.bals ∧
  e.balUnits = d.balUnits ∧ e.ports = d.ports ∧ e.ret = d.ret ∧ e.hsw = d.hsw ∧ e.acc = d.acc ∧ e.pair = d.pair ∧
  e.dom = d.dom ∧ e.deviceKey = d.deviceKey ∧ e.fuseSerial = d.fuseSerial
abbrev Dev.OnlyRegsSysStallsYards (d e : Dev) : Prop :=
  e.pins = d.pins ∧ e.tb = d.tb ∧ e.lanes = d.lanes ∧ e.laws = d.laws ∧ e.bals = d.bals ∧ e.lawUnits = d.lawUnits ∧
  e.balUnits = d.balUnits ∧ e.rails = d.rails ∧ e.ports = d.ports ∧ e.prot = d.prot ∧ e.ret = d.ret ∧ e.hsw = d.hsw ∧
  e.meas = d.meas ∧ e.loft = d.loft ∧ e.evt = d.evt ∧ e.acc = d.acc ∧ e.mgmt = d.mgmt ∧ e.pair = d.pair ∧ e.dom = d.dom ∧
  e.deviceKey = d.deviceKey ∧ e.fuseSerial = d.fuseSerial
abbrev Dev.Frame9 (d e : Dev) : Prop :=
  e.pins = d.pins ∧ e.sys = d.sys ∧ e.tb = d.tb ∧ e.lanes = d.lanes ∧ e.stalls = d.stalls ∧ e.yards = d.yards ∧
  e.bals = d.bals ∧ e.lawUnits = d.lawUnits ∧ e.balUnits = d.balUnits ∧ e.rails = d.rails ∧ e.ports = d.ports ∧
  e.ret = d.ret ∧ e.hsw = d.hsw ∧ e.acc = d.acc ∧ e.pair = d.pair ∧ e.dom = d.dom ∧ e.deviceKey = d.deviceKey ∧
  e.fuseSerial = d.fuseSerial
abbrev Dev.OnlyRegsStallsYardsBalsBalUnitsEvt (d e : Dev) : Prop :=
  e.pins = d.pins ∧ e.sys = d.sys ∧ e.tb = d.tb ∧ e.lanes = d.lanes ∧ e.laws = d.laws ∧ e.lawUnits = d.lawUnits ∧
  e.rails = d.rails ∧ e.ports = d.ports ∧ e.prot = d.prot ∧ e.ret = d.ret ∧ e.hsw = d.hsw ∧ e.meas = d.meas ∧
  e.loft = d.loft ∧ e.acc = d.acc ∧ e.mgmt = d.mgmt ∧ e.pair = d.pair ∧ e.dom = d.dom ∧ e.deviceKey = d.deviceKey ∧
  e.fuseSerial = d.fuseSerial
abbrev Dev.OnlyPair (d e : Dev) : Prop :=
  e.regs = d.regs ∧ e.pins = d.pins ∧ e.sys = d.sys ∧ e.tb = d.tb ∧ e.lanes = d.lanes ∧ e.stalls = d.stalls ∧
  e.yards = d.yards ∧ e.laws = d.laws ∧ e.bals = d.bals ∧ e.lawUnits = d.lawUnits ∧ e.balUnits = d.balUnits ∧
  e.rails = d.rails ∧ e.ports = d.ports ∧ e.prot = d.prot ∧ e.ret = d.ret ∧ e.hsw = d.hsw ∧ e.meas = d.meas ∧
  e.loft = d.loft ∧ e.evt = d.evt ∧ e.acc = d.acc ∧ e.mgmt = d.mgmt ∧ e.dom = d.dom ∧ e.deviceKey = d.deviceKey ∧
  e.fuseSerial = d.fuseSerial
abbrev Dev.OnlyRegsPair (d e : Dev) : Prop :=
  e.pins = d.pins ∧ e.sys = d.sys ∧ e.tb = d.tb ∧ e.lanes = d.lanes ∧ e.stalls = d.stalls ∧ e.yards = d.yards ∧
  e.laws = d.laws ∧ e.bals = d.bals ∧ e.lawUnits = d.lawUnits ∧ e.balUnits = d.balUnits ∧ e.rails = d.rails ∧
  e.ports = d.ports ∧ e.prot = d.prot ∧ e.ret = d.ret ∧ e.hsw = d.hsw ∧ e.meas = d.meas ∧ e.loft = d.loft ∧ e.evt = d.evt ∧
  e.acc = d.acc ∧ e.mgmt = d.mgmt ∧ e.dom = d.dom ∧ e.deviceKey = d.deviceKey ∧ e.fuseSerial = d.fuseSerial
abbrev Dev.OnlyTb (d e : Dev) : Prop :=
  e.regs = d.regs ∧ e.pins = d.pins ∧ e.sys = d.sys ∧ e.lanes = d.lanes ∧ e.stalls = d.stalls ∧ e.yards = d.yards ∧
  e.laws = d.laws ∧ e.bals = d.bals ∧ e.lawUnits = d.lawUnits ∧ e.balUnits = d.balUnits ∧ e.rails = d.rails ∧
  e.ports = d.ports ∧ e.prot = d.prot ∧ e.ret = d.ret ∧ e.hsw = d.hsw ∧ e.meas = d.meas ∧ e.loft = d.loft ∧ e.evt = d.evt ∧
  e.acc = d.acc ∧ e.mgmt = d.mgmt ∧ e.pair = d.pair ∧ e.dom = d.dom ∧ e.deviceKey = d.deviceKey ∧
  e.fuseSerial = d.fuseSerial
abbrev Dev.OnlyRegsSysTb (d e : Dev) : Prop :=
  e.pins = d.pins ∧ e.lanes = d.lanes ∧ e.stalls = d.stalls ∧ e.yards = d.yards ∧ e.laws = d.laws ∧ e.bals = d.bals ∧
  e.lawUnits = d.lawUnits ∧ e.balUnits = d.balUnits ∧ e.rails = d.rails ∧ e.ports = d.ports ∧ e.prot = d.prot ∧
  e.ret = d.ret ∧ e.hsw = d.hsw ∧ e.meas = d.meas ∧ e.loft = d.loft ∧ e.evt = d.evt ∧ e.acc = d.acc ∧ e.mgmt = d.mgmt ∧
  e.pair = d.pair ∧ e.dom = d.dom ∧ e.deviceKey = d.deviceKey ∧ e.fuseSerial = d.fuseSerial
abbrev Dev.OnlySysStallsYardsLawsRails (d e : Dev) : Prop :=
  e.regs = d.regs ∧ e.pins = d.pins ∧ e.tb = d.tb ∧ e.lanes = d.lanes ∧ e.bals = d.bals ∧ e.lawUnits = d.lawUnits ∧
  e.balUnits = d.balUnits ∧ e.ports = d.ports ∧ e.prot = d.prot ∧ e.ret = d.ret ∧ e.hsw = d.hsw ∧ e.meas = d.meas ∧
  e.loft = d.loft ∧ e.evt = d.evt ∧ e.acc = d.acc ∧ e.mgmt = d.mgmt ∧ e.pair = d.pair ∧ e.dom = d.dom ∧
  e.deviceKey = d.deviceKey ∧ e.fuseSerial = d.fuseSerial
abbrev Dev.OnlyRegsSysTbRailsEvt (d e : Dev) : Prop :=
  e.pins = d.pins ∧ e.lanes = d.lanes ∧ e.stalls = d.stalls ∧ e.yards = d.yards ∧ e.laws = d.laws ∧ e.bals = d.bals ∧
  e.lawUnits = d.lawUnits ∧ e.balUnits = d.balUnits ∧ e.ports = d.ports ∧ e.prot = d.prot ∧ e.ret = d.ret ∧ e.hsw = d.hsw ∧
  e.meas = d.meas ∧ e.loft = d.loft ∧ e.acc = d.acc ∧ e.mgmt = d.mgmt ∧ e.pair = d.pair ∧ e.dom = d.dom ∧
  e.deviceKey = d.deviceKey ∧ e.fuseSerial = d.fuseSerial
abbrev Dev.OnlyRegsSys (d e : Dev) : Prop :=
  e.pins = d.pins ∧ e.tb = d.tb ∧ e.lanes = d.lanes ∧ e.stalls = d.stalls ∧ e.yards = d.yards ∧ e.laws = d.laws ∧
  e.bals = d.bals ∧ e.lawUnits = d.lawUnits ∧ e.balUnits = d.balUnits ∧ e.rails = d.rails ∧ e.ports = d.ports ∧
  e.prot = d.prot ∧ e.ret = d.ret ∧ e.hsw = d.hsw ∧ e.meas = d.meas ∧ e.loft = d.loft ∧ e.evt = d.evt ∧ e.acc = d.acc ∧
  e.mgmt = d.mgmt ∧ e.pair = d.pair ∧ e.dom = d.dom ∧ e.deviceKey = d.deviceKey ∧ e.fuseSerial = d.fuseSerial
abbrev Dev.OnlyPorts (d e : Dev) : Prop :=
  e.regs = d.regs ∧ e.pins = d.pins ∧ e.sys = d.sys ∧ e.tb = d.tb ∧ e.lanes = d.lanes ∧ e.stalls = d.stalls ∧
  e.yards = d.yards ∧ e.laws = d.laws ∧ e.bals = d.bals ∧ e.lawUnits = d.lawUnits ∧ e.balUnits = d.balUnits ∧
  e.rails = d.rails ∧ e.prot = d.prot ∧ e.ret = d.ret ∧ e.hsw = d.hsw ∧ e.meas = d.meas ∧ e.loft = d.loft ∧ e.evt = d.evt ∧
  e.acc = d.acc ∧ e.mgmt = d.mgmt ∧ e.pair = d.pair ∧ e.dom = d.dom ∧ e.deviceKey = d.deviceKey ∧
  e.fuseSerial = d.fuseSerial
abbrev Dev.Frame10 (d e : Dev) : Prop :=
  e.pins = d.pins ∧ e.tb = d.tb ∧ e.ports = d.ports ∧ e.ret = d.ret ∧ e.hsw = d.hsw ∧ e.loft = d.loft ∧ e.acc = d.acc ∧
  e.dom = d.dom ∧ e.deviceKey = d.deviceKey ∧ e.fuseSerial = d.fuseSerial
abbrev Dev.Frame11 (d e : Dev) : Prop :=
  e.pins = d.pins ∧ e.tb = d.tb ∧ e.laws = d.laws ∧ e.bals = d.bals ∧ e.lawUnits = d.lawUnits ∧ e.balUnits = d.balUnits ∧
  e.ports = d.ports ∧ e.ret = d.ret ∧ e.hsw = d.hsw ∧ e.acc = d.acc ∧ e.pair = d.pair ∧ e.dom = d.dom ∧
  e.deviceKey = d.deviceKey ∧ e.fuseSerial = d.fuseSerial
abbrev Dev.OnlyProt (d e : Dev) : Prop :=
  e.regs = d.regs ∧ e.pins = d.pins ∧ e.sys = d.sys ∧ e.tb = d.tb ∧ e.lanes = d.lanes ∧ e.stalls = d.stalls ∧
  e.yards = d.yards ∧ e.laws = d.laws ∧ e.bals = d.bals ∧ e.lawUnits = d.lawUnits ∧ e.balUnits = d.balUnits ∧
  e.rails = d.rails ∧ e.ports = d.ports ∧ e.ret = d.ret ∧ e.hsw = d.hsw ∧ e.meas = d.meas ∧ e.loft = d.loft ∧
  e.evt = d.evt ∧ e.acc = d.acc ∧ e.mgmt = d.mgmt ∧ e.pair = d.pair ∧ e.dom = d.dom ∧ e.deviceKey = d.deviceKey ∧
  e.fuseSerial = d.fuseSerial
abbrev Dev.Frame12 (d e : Dev) : Prop :=
  e.pins = d.pins ∧ e.tb = d.tb ∧ e.bals = d.bals ∧ e.lawUnits = d.lawUnits ∧ e.balUnits = d.balUnits ∧ e.ports = d.ports ∧
  e.ret = d.ret ∧ e.hsw = d.hsw ∧ e.acc = d.acc ∧ e.pair = d.pair ∧ e.dom = d.dom ∧ e.deviceKey = d.deviceKey ∧
  e.fuseSerial = d.fuseSerial
abbrev Dev.OnlyRegsLanesStallsRailsRetEvt (d e : Dev) : Prop :=
  e.pins = d.pins ∧ e.sys = d.sys ∧ e.tb = d.tb ∧ e.yards = d.yards ∧ e.laws = d.laws ∧ e.bals = d.bals ∧
  e.lawUnits = d.lawUnits ∧ e.balUnits = d.balUnits ∧ e.ports = d.ports ∧ e.prot = d.prot ∧ e.hsw = d.hsw ∧
  e.meas = d.meas ∧ e.loft = d.loft ∧ e.acc = d.acc ∧ e.mgmt = d.mgmt ∧ e.pair = d.pair ∧ e.dom = d.dom ∧
  e.deviceKey = d.deviceKey ∧ e.fuseSerial = d.fuseSerial
abbrev Dev.OnlyRailsProt (d e : Dev) : Prop :=
  e.regs = d.regs ∧ e.pins = d.pins ∧ e.sys = d.sys ∧ e.tb = d.tb ∧ e.lanes = d.lanes ∧ e.stalls = d.stalls ∧
  e.yards = d.yards ∧ e.laws = d.laws ∧ e.bals = d.bals ∧ e.lawUnits = d.lawUnits ∧ e.balUnits = d.balUnits ∧
  e.ports = d.ports ∧ e.ret = d.ret ∧ e.hsw = d.hsw ∧ e.meas = d.meas ∧ e.loft = d.loft ∧ e.evt = d.evt ∧ e.acc = d.acc ∧
  e.mgmt = d.mgmt ∧ e.pair = d.pair ∧ e.dom = d.dom ∧ e.deviceKey = d.deviceKey ∧ e.fuseSerial = d.fuseSerial
abbrev Dev.OnlyRegsProt (d e : Dev) : Prop :=
  e.pins = d.pins ∧ e.sys = d.sys ∧ e.tb = d.tb ∧ e.lanes = d.lanes ∧ e.stalls = d.stalls ∧ e.yards = d.yards ∧
  e.laws = d.laws ∧ e.bals = d.bals ∧ e.lawUnits = d.lawUnits ∧ e.balUnits = d.balUnits ∧ e.rails = d.rails ∧
  e.ports = d.ports ∧ e.ret = d.ret ∧ e.hsw = d.hsw ∧ e.meas = d.meas ∧ e.loft = d.loft ∧ e.evt = d.evt ∧ e.acc = d.acc ∧
  e.mgmt = d.mgmt ∧ e.pair = d.pair ∧ e.dom = d.dom ∧ e.deviceKey = d.deviceKey ∧ e.fuseSerial = d.fuseSerial
abbrev Dev.OnlyRegsProtLoft (d e : Dev) : Prop :=
  e.pins = d.pins ∧ e.sys = d.sys ∧ e.tb = d.tb ∧ e.lanes = d.lanes ∧ e.stalls = d.stalls ∧ e.yards = d.yards ∧
  e.laws = d.laws ∧ e.bals = d.bals ∧ e.lawUnits = d.lawUnits ∧ e.balUnits = d.balUnits ∧ e.rails = d.rails ∧
  e.ports = d.ports ∧ e.ret = d.ret ∧ e.hsw = d.hsw ∧ e.meas = d.meas ∧ e.evt = d.evt ∧ e.acc = d.acc ∧ e.mgmt = d.mgmt ∧
  e.pair = d.pair ∧ e.dom = d.dom ∧ e.deviceKey = d.deviceKey ∧ e.fuseSerial = d.fuseSerial
abbrev Dev.OnlyRegsLanesStallsRailsPair (d e : Dev) : Prop :=
  e.pins = d.pins ∧ e.sys = d.sys ∧ e.tb = d.tb ∧ e.yards = d.yards ∧ e.laws = d.laws ∧ e.bals = d.bals ∧
  e.lawUnits = d.lawUnits ∧ e.balUnits = d.balUnits ∧ e.ports = d.ports ∧ e.prot = d.prot ∧ e.ret = d.ret ∧ e.hsw = d.hsw ∧
  e.meas = d.meas ∧ e.loft = d.loft ∧ e.evt = d.evt ∧ e.acc = d.acc ∧ e.mgmt = d.mgmt ∧ e.dom = d.dom ∧
  e.deviceKey = d.deviceKey ∧ e.fuseSerial = d.fuseSerial
abbrev Dev.OnlySys (d e : Dev) : Prop :=
  e.regs = d.regs ∧ e.pins = d.pins ∧ e.tb = d.tb ∧ e.lanes = d.lanes ∧ e.stalls = d.stalls ∧ e.yards = d.yards ∧
  e.laws = d.laws ∧ e.bals = d.bals ∧ e.lawUnits = d.lawUnits ∧ e.balUnits = d.balUnits ∧ e.rails = d.rails ∧
  e.ports = d.ports ∧ e.prot = d.prot ∧ e.ret = d.ret ∧ e.hsw = d.hsw ∧ e.meas = d.meas ∧ e.loft = d.loft ∧ e.evt = d.evt ∧
  e.acc = d.acc ∧ e.mgmt = d.mgmt ∧ e.pair = d.pair ∧ e.dom = d.dom ∧ e.deviceKey = d.deviceKey ∧
  e.fuseSerial = d.fuseSerial
abbrev Dev.OnlyRegsSysLanes (d e : Dev) : Prop :=
  e.pins = d.pins ∧ e.tb = d.tb ∧ e.stalls = d.stalls ∧ e.yards = d.yards ∧ e.laws = d.laws ∧ e.bals = d.bals ∧
  e.lawUnits = d.lawUnits ∧ e.balUnits = d.balUnits ∧ e.rails = d.rails ∧ e.ports = d.ports ∧ e.prot = d.prot ∧
  e.ret = d.ret ∧ e.hsw = d.hsw ∧ e.meas = d.meas ∧ e.loft = d.loft ∧ e.evt = d.evt ∧ e.acc = d.acc ∧ e.mgmt = d.mgmt ∧
  e.pair = d.pair ∧ e.dom = d.dom ∧ e.deviceKey = d.deviceKey ∧ e.fuseSerial = d.fuseSerial
abbrev Dev.OnlyRegsSysLanesEvtAccPair (d e : Dev) : Prop :=
  e.pins = d.pins ∧ e.tb = d.tb ∧ e.stalls = d.stalls ∧ e.yards = d.yards ∧ e.laws = d.laws ∧ e.bals = d.bals ∧
  e.lawUnits = d.lawUnits ∧ e.balUnits = d.balUnits ∧ e.rails = d.rails ∧ e.ports = d.ports ∧ e.prot = d.prot ∧
  e.ret = d.ret ∧ e.hsw = d.hsw ∧ e.meas = d.meas ∧ e.loft = d.loft ∧ e.mgmt = d.mgmt ∧ e.dom = d.dom ∧
  e.deviceKey = d.deviceKey ∧ e.fuseSerial = d.fuseSerial
abbrev Dev.Frame13 (d e : Dev) : Prop :=
  e.pins = d.pins ∧ e.tb = d.tb ∧ e.stalls = d.stalls ∧ e.yards = d.yards ∧ e.laws = d.laws ∧ e.bals = d.bals ∧
  e.lawUnits = d.lawUnits ∧ e.balUnits = d.balUnits ∧ e.rails = d.rails ∧ e.ports = d.ports ∧ e.prot = d.prot ∧
  e.ret = d.ret ∧ e.hsw = d.hsw ∧ e.meas = d.meas ∧ e.mgmt = d.mgmt ∧ e.deviceKey = d.deviceKey ∧
  e.fuseSerial = d.fuseSerial
abbrev Dev.KeepsPinsPortsHsw (d e : Dev) : Prop :=
  e.pins = d.pins ∧ e.ports = d.ports ∧ e.hsw = d.hsw ∧ e.deviceKey = d.deviceKey ∧ e.fuseSerial = d.fuseSerial
abbrev Dev.OnlyRegsSysProtEvt (d e : Dev) : Prop :=
  e.pins = d.pins ∧ e.tb = d.tb ∧ e.lanes = d.lanes ∧ e.stalls = d.stalls ∧ e.yards = d.yards ∧ e.laws = d.laws ∧
  e.bals = d.bals ∧ e.lawUnits = d.lawUnits ∧ e.balUnits = d.balUnits ∧ e.rails = d.rails ∧ e.ports = d.ports ∧
  e.ret = d.ret ∧ e.hsw = d.hsw ∧ e.meas = d.meas ∧ e.loft = d.loft ∧ e.acc = d.acc ∧ e.mgmt = d.mgmt ∧ e.pair = d.pair ∧
  e.dom = d.dom ∧ e.deviceKey = d.deviceKey ∧ e.fuseSerial = d.fuseSerial
abbrev Dev.OnlyRegsEvtMgmt (d e : Dev) : Prop :=
  e.pins = d.pins ∧ e.sys = d.sys ∧ e.tb = d.tb ∧ e.lanes = d.lanes ∧ e.stalls = d.stalls ∧ e.yards = d.yards ∧
  e.laws = d.laws ∧ e.bals = d.bals ∧ e.lawUnits = d.lawUnits ∧ e.balUnits = d.balUnits ∧ e.rails = d.rails ∧
  e.ports = d.ports ∧ e.prot = d.prot ∧ e.ret = d.ret ∧ e.hsw = d.hsw ∧ e.meas = d.meas ∧ e.loft = d.loft ∧ e.acc = d.acc ∧
  e.pair = d.pair ∧ e.dom = d.dom ∧ e.deviceKey = d.deviceKey ∧ e.fuseSerial = d.fuseSerial
abbrev Dev.OnlyRegsStallsEvtAccMgmt (d e : Dev) : Prop :=
  e.pins = d.pins ∧ e.sys = d.sys ∧ e.tb = d.tb ∧ e.lanes = d.lanes ∧ e.yards = d.yards ∧ e.laws = d.laws ∧
  e.bals = d.bals ∧ e.lawUnits = d.lawUnits ∧ e.balUnits = d.balUnits ∧ e.rails = d.rails ∧ e.ports = d.ports ∧
  e.prot = d.prot ∧ e.ret = d.ret ∧ e.hsw = d.hsw ∧ e.meas = d.meas ∧ e.loft = d.loft ∧ e.pair = d.pair ∧ e.dom = d.dom ∧
  e.deviceKey = d.deviceKey ∧ e.fuseSerial = d.fuseSerial
abbrev Dev.OnlyLanes (d e : Dev) : Prop :=
  e.regs = d.regs ∧ e.pins = d.pins ∧ e.sys = d.sys ∧ e.tb = d.tb ∧ e.stalls = d.stalls ∧ e.yards = d.yards ∧
  e.laws = d.laws ∧ e.bals = d.bals ∧ e.lawUnits = d.lawUnits ∧ e.balUnits = d.balUnits ∧ e.rails = d.rails ∧
  e.ports = d.ports ∧ e.prot = d.prot ∧ e.ret = d.ret ∧ e.hsw = d.hsw ∧ e.meas = d.meas ∧ e.loft = d.loft ∧ e.evt = d.evt ∧
  e.acc = d.acc ∧ e.mgmt = d.mgmt ∧ e.pair = d.pair ∧ e.dom = d.dom ∧ e.deviceKey = d.deviceKey ∧
  e.fuseSerial = d.fuseSerial
abbrev Dev.OnlyHsw (d e : Dev) : Prop :=
  e.regs = d.regs ∧ e.pins = d.pins ∧ e.sys = d.sys ∧ e.tb = d.tb ∧ e.lanes = d.lanes ∧ e.stalls = d.stalls ∧
  e.yards = d.yards ∧ e.laws = d.laws ∧ e.bals = d.bals ∧ e.lawUnits = d.lawUnits ∧ e.balUnits = d.balUnits ∧
  e.rails = d.rails ∧ e.ports = d.ports ∧ e.prot = d.prot ∧ e.ret = d.ret ∧ e.meas = d.meas ∧ e.loft = d.loft ∧
  e.evt = d.evt ∧ e.acc = d.acc ∧ e.mgmt = d.mgmt ∧ e.pair = d.pair ∧ e.dom = d.dom ∧ e.deviceKey = d.deviceKey ∧
  e.fuseSerial = d.fuseSerial
abbrev Dev.OnlyRegsHswLoftEvt (d e : Dev) : Prop :=
  e.pins = d.pins ∧ e.sys = d.sys ∧ e.tb = d.tb ∧ e.lanes = d.lanes ∧ e.stalls = d.stalls ∧ e.yards = d.yards ∧
  e.laws = d.laws ∧ e.bals = d.bals ∧ e.lawUnits = d.lawUnits ∧ e.balUnits = d.balUnits ∧ e.rails = d.rails ∧
  e.ports = d.ports ∧ e.prot = d.prot ∧ e.ret = d.ret ∧ e.meas = d.meas ∧ e.acc = d.acc ∧ e.mgmt = d.mgmt ∧
  e.pair = d.pair ∧ e.dom = d.dom ∧ e.deviceKey = d.deviceKey ∧ e.fuseSerial = d.fuseSerial
abbrev Dev.Frame14 (d e : Dev) : Prop :=
  e.pins = d.pins ∧ e.sys = d.sys ∧ e.tb = d.tb ∧ e.ports = d.ports ∧ e.ret = d.ret ∧ e.loft = d.loft ∧ e.acc = d.acc ∧
  e.dom = d.dom ∧ e.deviceKey = d.deviceKey ∧ e.fuseSerial = d.fuseSerial
abbrev Dev.OnlyRegsEvt (d e : Dev) : Prop :=
  e.pins = d.pins ∧ e.sys = d.sys ∧ e.tb = d.tb ∧ e.lanes = d.lanes ∧ e.stalls = d.stalls ∧ e.yards = d.yards ∧
  e.laws = d.laws ∧ e.bals = d.bals ∧ e.lawUnits = d.lawUnits ∧ e.balUnits = d.balUnits ∧ e.rails = d.rails ∧
  e.ports = d.ports ∧ e.prot = d.prot ∧ e.ret = d.ret ∧ e.hsw = d.hsw ∧ e.meas = d.meas ∧ e.loft = d.loft ∧ e.acc = d.acc ∧
  e.mgmt = d.mgmt ∧ e.pair = d.pair ∧ e.dom = d.dom ∧ e.deviceKey = d.deviceKey ∧ e.fuseSerial = d.fuseSerial
abbrev Dev.Frame15 (d e : Dev) : Prop :=
  e.pins = d.pins ∧ e.sys = d.sys ∧ e.tb = d.tb ∧ e.ports = d.ports ∧ e.ret = d.ret ∧ e.acc = d.acc ∧ e.dom = d.dom ∧
  e.deviceKey = d.deviceKey ∧ e.fuseSerial = d.fuseSerial
abbrev Dev.Frame16 (d e : Dev) : Prop :=
  e.pins = d.pins ∧ e.tb = d.tb ∧ e.ports = d.ports ∧ e.ret = d.ret ∧ e.acc = d.acc ∧ e.dom = d.dom ∧
  e.deviceKey = d.deviceKey ∧ e.fuseSerial = d.fuseSerial
abbrev Dev.OnlyRegsHsw (d e : Dev) : Prop :=
  e.pins = d.pins ∧ e.sys = d.sys ∧ e.tb = d.tb ∧ e.lanes = d.lanes ∧ e.stalls = d.stalls ∧ e.yards = d.yards ∧
  e.laws = d.laws ∧ e.bals = d.bals ∧ e.lawUnits = d.lawUnits ∧ e.balUnits = d.balUnits ∧ e.rails = d.rails ∧
  e.ports = d.ports ∧ e.prot = d.prot ∧ e.ret = d.ret ∧ e.meas = d.meas ∧ e.loft = d.loft ∧ e.evt = d.evt ∧ e.acc = d.acc ∧
  e.mgmt = d.mgmt ∧ e.pair = d.pair ∧ e.dom = d.dom ∧ e.deviceKey = d.deviceKey ∧ e.fuseSerial = d.fuseSerial
abbrev Dev.Frame17 (d e : Dev) : Prop :=
  e.pins = d.pins ∧ e.tb = d.tb ∧ e.stalls = d.stalls ∧ e.yards = d.yards ∧ e.laws = d.laws ∧ e.bals = d.bals ∧
  e.lawUnits = d.lawUnits ∧ e.balUnits = d.balUnits ∧ e.rails = d.rails ∧ e.ports = d.ports ∧ e.prot = d.prot ∧
  e.ret = d.ret ∧ e.meas = d.meas ∧ e.mgmt = d.mgmt ∧ e.deviceKey = d.deviceKey ∧ e.fuseSerial = d.fuseSerial
abbrev Dev.OnlyRegsHswEvt (d e : Dev) : Prop :=
  e.pins = d.pins ∧ e.sys = d.sys ∧ e.tb = d.tb ∧ e.lanes = d.lanes ∧ e.stalls = d.stalls ∧ e.yards = d.yards ∧
  e.laws = d.laws ∧ e.bals = d.bals ∧ e.lawUnits = d.lawUnits ∧ e.balUnits = d.balUnits ∧ e.rails = d.rails ∧
  e.ports = d.ports ∧ e.prot = d.prot ∧ e.ret = d.ret ∧ e.meas = d.meas ∧ e.loft = d.loft ∧ e.acc = d.acc ∧
  e.mgmt = d.mgmt ∧ e.pair = d.pair ∧ e.dom = d.dom ∧ e.deviceKey = d.deviceKey ∧ e.fuseSerial = d.fuseSerial
abbrev Dev.OnlyHswLoft (d e : Dev) : Prop :=
  e.regs = d.regs ∧ e.pins = d.pins ∧ e.sys = d.sys ∧ e.tb = d.tb ∧ e.lanes = d.lanes ∧ e.stalls = d.stalls ∧
  e.yards = d.yards ∧ e.laws = d.laws ∧ e.bals = d.bals ∧ e.lawUnits = d.lawUnits ∧ e.balUnits = d.balUnits ∧
  e.rails = d.rails ∧ e.ports = d.ports ∧ e.prot = d.prot ∧ e.ret = d.ret ∧ e.meas = d.meas ∧ e.evt = d.evt ∧
  e.acc = d.acc ∧ e.mgmt = d.mgmt ∧ e.pair = d.pair ∧ e.dom = d.dom ∧ e.deviceKey = d.deviceKey ∧
  e.fuseSerial = d.fuseSerial
abbrev Dev.OnlyRegsMeas (d e : Dev) : Prop :=
  e.pins = d.pins ∧ e.sys = d.sys ∧ e.tb = d.tb ∧ e.lanes = d.lanes ∧ e.stalls = d.stalls ∧ e.yards = d.yards ∧
  e.laws = d.laws ∧ e.bals = d.bals ∧ e.lawUnits = d.lawUnits ∧ e.balUnits = d.balUnits ∧ e.rails = d.rails ∧
  e.ports = d.ports ∧ e.prot = d.prot ∧ e.ret = d.ret ∧ e.hsw = d.hsw ∧ e.loft = d.loft ∧ e.evt = d.evt ∧ e.acc = d.acc ∧
  e.mgmt = d.mgmt ∧ e.pair = d.pair ∧ e.dom = d.dom ∧ e.deviceKey = d.deviceKey ∧ e.fuseSerial = d.fuseSerial
abbrev Dev.OnlyEvt (d e : Dev) : Prop :=
  e.regs = d.regs ∧ e.pins = d.pins ∧ e.sys = d.sys ∧ e.tb = d.tb ∧ e.lanes = d.lanes ∧ e.stalls = d.stalls ∧
  e.yards = d.yards ∧ e.laws = d.laws ∧ e.bals = d.bals ∧ e.lawUnits = d.lawUnits ∧ e.balUnits = d.balUnits ∧
  e.rails = d.rails ∧ e.ports = d.ports ∧ e.prot = d.prot ∧ e.ret = d.ret ∧ e.hsw = d.hsw ∧ e.meas = d.meas ∧
  e.loft = d.loft ∧ e.acc = d.acc ∧ e.mgmt = d.mgmt ∧ e.pair = d.pair ∧ e.dom = d.dom ∧ e.deviceKey = d.deviceKey ∧
  e.fuseSerial = d.fuseSerial
abbrev Dev.OnlyLoftEvt (d e : Dev) : Prop :=
  e.regs = d.regs ∧ e.pins = d.pins ∧ e.sys = d.sys ∧ e.tb = d.tb ∧ e.lanes = d.lanes ∧ e.stalls = d.stalls ∧
  e.yards = d.yards ∧ e.laws = d.laws ∧ e.bals = d.bals ∧ e.lawUnits = d.lawUnits ∧ e.balUnits = d.balUnits ∧
  e.rails = d.rails ∧ e.ports = d.ports ∧ e.prot = d.prot ∧ e.ret = d.ret ∧ e.hsw = d.hsw ∧ e.meas = d.meas ∧
  e.acc = d.acc ∧ e.mgmt = d.mgmt ∧ e.pair = d.pair ∧ e.dom = d.dom ∧ e.deviceKey = d.deviceKey ∧
  e.fuseSerial = d.fuseSerial
abbrev Dev.OnlyRegsLoftEvt (d e : Dev) : Prop :=
  e.pins = d.pins ∧ e.sys = d.sys ∧ e.tb = d.tb ∧ e.lanes = d.lanes ∧ e.stalls = d.stalls ∧ e.yards = d.yards ∧
  e.laws = d.laws ∧ e.bals = d.bals ∧ e.lawUnits = d.lawUnits ∧ e.balUnits = d.balUnits ∧ e.rails = d.rails ∧
  e.ports = d.ports ∧ e.prot = d.prot ∧ e.ret = d.ret ∧ e.hsw = d.hsw ∧ e.meas = d.meas ∧ e.acc = d.acc ∧ e.mgmt = d.mgmt ∧
  e.pair = d.pair ∧ e.dom = d.dom ∧ e.deviceKey = d.deviceKey ∧ e.fuseSerial = d.fuseSerial
abbrev Dev.OnlyLoftAcc (d e : Dev) : Prop :=
  e.regs = d.regs ∧ e.pins = d.pins ∧ e.sys = d.sys ∧ e.tb = d.tb ∧ e.lanes = d.lanes ∧ e.stalls = d.stalls ∧
  e.yards = d.yards ∧ e.laws = d.laws ∧ e.bals = d.bals ∧ e.lawUnits = d.lawUnits ∧ e.balUnits = d.balUnits ∧
  e.rails = d.rails ∧ e.ports = d.ports ∧ e.prot = d.prot ∧ e.ret = d.ret ∧ e.hsw = d.hsw ∧ e.meas = d.meas ∧
  e.evt = d.evt ∧ e.mgmt = d.mgmt ∧ e.pair = d.pair ∧ e.dom = d.dom ∧ e.deviceKey = d.deviceKey ∧
  e.fuseSerial = d.fuseSerial
abbrev Dev.OnlyRegsLoftAcc (d e : Dev) : Prop :=
  e.pins = d.pins ∧ e.sys = d.sys ∧ e.tb = d.tb ∧ e.lanes = d.lanes ∧ e.stalls = d.stalls ∧ e.yards = d.yards ∧
  e.laws = d.laws ∧ e.bals = d.bals ∧ e.lawUnits = d.lawUnits ∧ e.balUnits = d.balUnits ∧ e.rails = d.rails ∧
  e.ports = d.ports ∧ e.prot = d.prot ∧ e.ret = d.ret ∧ e.hsw = d.hsw ∧ e.meas = d.meas ∧ e.evt = d.evt ∧ e.mgmt = d.mgmt ∧
  e.pair = d.pair ∧ e.dom = d.dom ∧ e.deviceKey = d.deviceKey ∧ e.fuseSerial = d.fuseSerial
abbrev Dev.OnlyRegsHswEvtAcc (d e : Dev) : Prop :=
  e.pins = d.pins ∧ e.sys = d.sys ∧ e.tb = d.tb ∧ e.lanes = d.lanes ∧ e.stalls = d.stalls ∧ e.yards = d.yards ∧
  e.laws = d.laws ∧ e.bals = d.bals ∧ e.lawUnits = d.lawUnits ∧ e.balUnits = d.balUnits ∧ e.rails = d.rails ∧
  e.ports = d.ports ∧ e.prot = d.prot ∧ e.ret = d.ret ∧ e.meas = d.meas ∧ e.loft = d.loft ∧ e.mgmt = d.mgmt ∧
  e.pair = d.pair ∧ e.dom = d.dom ∧ e.deviceKey = d.deviceKey ∧ e.fuseSerial = d.fuseSerial
abbrev Dev.Frame18 (d e : Dev) : Prop :=
  e.pins = d.pins ∧ e.sys = d.sys ∧ e.tb = d.tb ∧ e.lanes = d.lanes ∧ e.stalls = d.stalls ∧ e.yards = d.yards ∧
  e.laws = d.laws ∧ e.bals = d.bals ∧ e.lawUnits = d.lawUnits ∧ e.balUnits = d.balUnits ∧ e.rails = d.rails ∧
  e.ports = d.ports ∧ e.ret = d.ret ∧ e.meas = d.meas ∧ e.pair = d.pair ∧ e.dom = d.dom ∧ e.deviceKey = d.deviceKey ∧
  e.fuseSerial = d.fuseSerial
abbrev Dev.OnlyPins (d e : Dev) : Prop :=
  e.regs = d.regs ∧ e.sys = d.sys ∧ e.tb = d.tb ∧ e.lanes = d.lanes ∧ e.stalls = d.stalls ∧ e.yards = d.yards ∧
  e.laws = d.laws ∧ e.bals = d.bals ∧ e.lawUnits = d.lawUnits ∧ e.balUnits = d.balUnits ∧ e.rails = d.rails ∧
  e.ports = d.ports ∧ e.prot = d.prot ∧ e.ret = d.ret ∧ e.hsw = d.hsw ∧ e.meas = d.meas ∧ e.loft = d.loft ∧ e.evt = d.evt ∧
  e.acc = d.acc ∧ e.mgmt = d.mgmt ∧ e.pair = d.pair ∧ e.dom = d.dom ∧ e.deviceKey = d.deviceKey ∧
  e.fuseSerial = d.fuseSerial
abbrev Dev.Frame19 (d e : Dev) : Prop :=
  e.pins = d.pins ∧ e.stalls = d.stalls ∧ e.yards = d.yards ∧ e.laws = d.laws ∧ e.bals = d.bals ∧ e.lawUnits = d.lawUnits ∧
  e.balUnits = d.balUnits ∧ e.rails = d.rails ∧ e.ports = d.ports ∧ e.ret = d.ret ∧ e.loft = d.loft ∧ e.mgmt = d.mgmt ∧
  e.dom = d.dom ∧ e.deviceKey = d.deviceKey ∧ e.fuseSerial = d.fuseSerial
abbrev Dev.OnlyRegsSysEvt (d e : Dev) : Prop :=
  e.pins = d.pins ∧ e.tb = d.tb ∧ e.lanes = d.lanes ∧ e.stalls = d.stalls ∧ e.yards = d.yards ∧ e.laws = d.laws ∧
  e.bals = d.bals ∧ e.lawUnits = d.lawUnits ∧ e.balUnits = d.balUnits ∧ e.rails = d.rails ∧ e.ports = d.ports ∧
  e.prot = d.prot ∧ e.ret = d.ret ∧ e.hsw = d.hsw ∧ e.meas = d.meas ∧ e.loft = d.loft ∧ e.acc = d.acc ∧ e.mgmt = d.mgmt ∧
  e.pair = d.pair ∧ e.dom = d.dom ∧ e.deviceKey = d.deviceKey ∧ e.fuseSerial = d.fuseSerial
abbrev Dev.OnlyYardsLawsRails (d e : Dev) : Prop :=
  e.regs = d.regs ∧ e.pins = d.pins ∧ e.sys = d.sys ∧ e.tb = d.tb ∧ e.lanes = d.lanes ∧ e.stalls = d.stalls ∧
  e.bals = d.bals ∧ e.lawUnits = d.lawUnits ∧ e.balUnits = d.balUnits ∧ e.ports = d.ports ∧ e.prot = d.prot ∧
  e.ret = d.ret ∧ e.hsw = d.hsw ∧ e.meas = d.meas ∧ e.loft = d.loft ∧ e.evt = d.evt ∧ e.acc = d.acc ∧ e.mgmt = d.mgmt ∧
  e.pair = d.pair ∧ e.dom = d.dom ∧ e.deviceKey = d.deviceKey ∧ e.fuseSerial = d.fuseSerial
abbrev Dev.Frame20 (d e : Dev) : Prop :=
  e.pins = d.pins ∧ e.lanes = d.lanes ∧ e.bals = d.bals ∧ e.lawUnits = d.lawUnits ∧ e.balUnits = d.balUnits ∧
  e.ports = d.ports ∧ e.prot = d.prot ∧ e.ret = d.ret ∧ e.meas = d.meas ∧ e.loft = d.loft ∧ e.acc = d.acc ∧
  e.mgmt = d.mgmt ∧ e.pair = d.pair ∧ e.dom = d.dom ∧ e.deviceKey = d.deviceKey ∧ e.fuseSerial = d.fuseSerial
abbrev Dev.OnlyDom (d e : Dev) : Prop :=
  e.regs = d.regs ∧ e.pins = d.pins ∧ e.sys = d.sys ∧ e.tb = d.tb ∧ e.lanes = d.lanes ∧ e.stalls = d.stalls ∧
  e.yards = d.yards ∧ e.laws = d.laws ∧ e.bals = d.bals ∧ e.lawUnits = d.lawUnits ∧ e.balUnits = d.balUnits ∧
  e.rails = d.rails ∧ e.ports = d.ports ∧ e.prot = d.prot ∧ e.ret = d.ret ∧ e.hsw = d.hsw ∧ e.meas = d.meas ∧
  e.loft = d.loft ∧ e.evt = d.evt ∧ e.acc = d.acc ∧ e.mgmt = d.mgmt ∧ e.pair = d.pair ∧ e.deviceKey = d.deviceKey ∧
  e.fuseSerial = d.fuseSerial
abbrev Dev.OnlySysLoftEvtDom (d e : Dev) : Prop :=
  e.regs = d.regs ∧ e.pins = d.pins ∧ e.tb = d.tb ∧ e.lanes = d.lanes ∧ e.stalls = d.stalls ∧ e.yards = d.yards ∧
  e.laws = d.laws ∧ e.bals = d.bals ∧ e.lawUnits = d.lawUnits ∧ e.balUnits = d.balUnits ∧ e.rails = d.rails ∧
  e.ports = d.ports ∧ e.prot = d.prot ∧ e.ret = d.ret ∧ e.hsw = d.hsw ∧ e.meas = d.meas ∧ e.acc = d.acc ∧ e.mgmt = d.mgmt ∧
  e.pair = d.pair ∧ e.deviceKey = d.deviceKey ∧ e.fuseSerial = d.fuseSerial
abbrev Dev.OnlyRegsProtHswLoftEvt (d e : Dev) : Prop :=
  e.pins = d.pins ∧ e.sys = d.sys ∧ e.tb = d.tb ∧ e.lanes = d.lanes ∧ e.stalls = d.stalls ∧ e.yards = d.yards ∧
  e.laws = d.laws ∧ e.bals = d.bals ∧ e.lawUnits = d.lawUnits ∧ e.balUnits = d.balUnits ∧ e.rails = d.rails ∧
  e.ports = d.ports ∧ e.ret = d.ret ∧ e.meas = d.meas ∧ e.acc = d.acc ∧ e.mgmt = d.mgmt ∧ e.pair = d.pair ∧ e.dom = d.dom ∧
  e.deviceKey = d.deviceKey ∧ e.fuseSerial = d.fuseSerial
abbrev Dev.Frame21 (d e : Dev) : Prop :=
  e.pins = d.pins ∧ e.lanes = d.lanes ∧ e.bals = d.bals ∧ e.lawUnits = d.lawUnits ∧ e.balUnits = d.balUnits ∧
  e.ports = d.ports ∧ e.prot = d.prot ∧ e.ret = d.ret ∧ e.meas = d.meas ∧ e.acc = d.acc ∧ e.mgmt = d.mgmt ∧
  e.pair = d.pair ∧ e.dom = d.dom ∧ e.deviceKey = d.deviceKey ∧ e.fuseSerial = d.fuseSerial
abbrev Dev.OnlyRegsStallsLoftEvtAcc (d e : Dev) : Prop :=
  e.pins = d.pins ∧ e.sys = d.sys ∧ e.tb = d.tb ∧ e.lanes = d.lanes ∧ e.yards = d.yards ∧ e.laws = d.laws ∧
  e.bals = d.bals ∧ e.lawUnits = d.lawUnits ∧ e.balUnits = d.balUnits ∧ e.rails = d.rails ∧ e.ports = d.ports ∧
  e.prot = d.prot ∧ e.ret = d.ret ∧ e.hsw = d.hsw ∧ e.meas = d.meas ∧ e.mgmt = d.mgmt ∧ e.pair = d.pair ∧ e.dom = d.dom ∧
  e.deviceKey = d.deviceKey ∧ e.fuseSerial = d.fuseSerial
abbrev Dev.Frame22 (d e : Dev) : Prop :=
  e.pins = d.pins ∧ e.tb = d.tb ∧ e.yards = d.yards ∧ e.laws = d.laws ∧ e.bals = d.bals ∧ e.lawUnits = d.lawUnits ∧
  e.balUnits = d.balUnits ∧ e.ports = d.ports ∧ e.prot = d.prot ∧ e.ret = d.ret ∧ e.hsw = d.hsw ∧ e.meas = d.meas ∧
  e.loft = d.loft ∧ e.acc = d.acc ∧ e.mgmt = d.mgmt ∧ e.dom = d.dom ∧ e.deviceKey = d.deviceKey ∧
  e.fuseSerial = d.fuseSerial
abbrev Dev.OnlyRegsStallsHswLoftAcc (d e : Dev) : Prop :=
  e.pins = d.pins ∧ e.sys = d.sys ∧ e.tb = d.tb ∧ e.lanes = d.lanes ∧ e.yards = d.yards ∧ e.laws = d.laws ∧
  e.bals = d.bals ∧ e.lawUnits = d.lawUnits ∧ e.balUnits = d.balUnits ∧ e.rails = d.rails ∧ e.ports = d.ports ∧
  e.prot = d.prot ∧ e.ret = d.ret ∧ e.meas = d.meas ∧ e.evt = d.evt ∧ e.mgmt = d.mgmt ∧ e.pair = d.pair ∧ e.dom = d.dom ∧
  e.deviceKey = d.deviceKey ∧ e.fuseSerial = d.fuseSerial
abbrev Dev.OnlyRegsSysLaws (d e : Dev) : Prop :=
  e.pins = d.pins ∧ e.tb = d.tb ∧ e.lanes = d.lanes ∧ e.stalls = d.stalls ∧ e.yards = d.yards ∧ e.bals = d.bals ∧
  e.lawUnits = d.lawUnits ∧ e.balUnits = d.balUnits ∧ e.rails = d.rails ∧ e.ports = d.ports ∧ e.prot = d.prot ∧
  e.ret = d.ret ∧ e.hsw = d.hsw ∧ e.meas = d.meas ∧ e.loft = d.loft ∧ e.evt = d.evt ∧ e.acc = d.acc ∧ e.mgmt = d.mgmt ∧
  e.pair = d.pair ∧ e.dom = d.dom ∧ e.deviceKey = d.deviceKey ∧ e.fuseSerial = d.fuseSerial
abbrev Dev.Frame23 (d e : Dev) : Prop :=
  e.pins = d.pins ∧ e.tb = d.tb ∧ e.lanes = d.lanes ∧ e.stalls = d.stalls ∧ e.yards = d.yards ∧ e.bals = d.bals ∧
  e.lawUnits = d.lawUnits ∧ e.balUnits = d.balUnits ∧ e.rails = d.rails ∧ e.ports = d.ports ∧ e.prot = d.prot ∧
  e.meas = d.meas ∧ e.acc = d.acc ∧ e.mgmt = d.mgmt ∧ e.pair = d.pair ∧ e.dom = d.dom ∧ e.deviceKey = d.deviceKey ∧
  e.fuseSerial = d.fuseSerial
abbrev Dev.Frame24 (d e : Dev) : Prop :=
  e.pins = d.pins ∧ e.sys = d.sys ∧ e.tb = d.tb ∧ e.bals = d.bals ∧ e.lawUnits = d.lawUnits ∧ e.balUnits = d.balUnits ∧
  e.ports = d.ports ∧ e.prot = d.prot ∧ e.ret = d.ret ∧ e.hsw = d.hsw ∧ e.meas = d.meas ∧ e.loft = d.loft ∧ e.evt = d.evt ∧
  e.acc = d.acc ∧ e.mgmt = d.mgmt ∧ e.dom = d.dom ∧ e.deviceKey = d.deviceKey ∧ e.fuseSerial = d.fuseSerial
abbrev Dev.OnlyYardsLaws (d e : Dev) : Prop :=
  e.regs = d.regs ∧ e.pins = d.pins ∧ e.sys = d.sys ∧ e.tb = d.tb ∧ e.lanes = d.lanes ∧ e.stalls = d.stalls ∧
  e.bals = d.bals ∧ e.lawUnits = d.lawUnits ∧ e.balUnits = d.balUnits ∧ e.rails = d.rails ∧ e.ports = d.ports ∧
  e.prot = d.prot ∧ e.ret = d.ret ∧ e.hsw = d.hsw ∧ e.meas = d.meas ∧ e.loft = d.loft ∧ e.evt = d.evt ∧ e.acc = d.acc ∧
  e.mgmt = d.mgmt ∧ e.pair = d.pair ∧ e.dom = d.dom ∧ e.deviceKey = d.deviceKey ∧ e.fuseSerial = d.fuseSerial
abbrev Dev.Frame25 (d e : Dev) : Prop :=
  e.pins = d.pins ∧ e.tb = d.tb ∧ e.bals = d.bals ∧ e.lawUnits = d.lawUnits ∧ e.balUnits = d.balUnits ∧ e.ports = d.ports ∧
  e.prot = d.prot ∧ e.ret = d.ret ∧ e.meas = d.meas ∧ e.loft = d.loft ∧ e.evt = d.evt ∧ e.acc = d.acc ∧ e.mgmt = d.mgmt ∧
  e.dom = d.dom ∧ e.deviceKey = d.deviceKey ∧ e.fuseSerial = d.fuseSerial
abbrev Dev.OnlyRailsRetPairDom (d e : Dev) : Prop :=
  e.regs = d.regs ∧ e.pins = d.pins ∧ e.sys = d.sys ∧ e.tb = d.tb ∧ e.lanes = d.lanes ∧ e.stalls = d.stalls ∧
  e.yards = d.yards ∧ e.laws = d.laws ∧ e.bals = d.bals ∧ e.lawUnits = d.lawUnits ∧ e.balUnits = d.balUnits ∧
  e.ports = d.ports ∧ e.prot = d.prot ∧ e.hsw = d.hsw ∧ e.meas = d.meas ∧ e.loft = d.loft ∧ e.evt = d.evt ∧ e.acc = d.acc ∧
  e.mgmt = d.mgmt ∧ e.deviceKey = d.deviceKey ∧ e.fuseSerial = d.fuseSerial
abbrev Dev.OnlyRegsEvtPair (d e : Dev) : Prop :=
  e.pins = d.pins ∧ e.sys = d.sys ∧ e.tb = d.tb ∧ e.lanes = d.lanes ∧ e.stalls = d.stalls ∧ e.yards = d.yards ∧
  e.laws = d.laws ∧ e.bals = d.bals ∧ e.lawUnits = d.lawUnits ∧ e.balUnits = d.balUnits ∧ e.rails = d.rails ∧
  e.ports = d.ports ∧ e.prot = d.prot ∧ e.ret = d.ret ∧ e.hsw = d.hsw ∧ e.meas = d.meas ∧ e.loft = d.loft ∧ e.acc = d.acc ∧
  e.mgmt = d.mgmt ∧ e.dom = d.dom ∧ e.deviceKey = d.deviceKey ∧ e.fuseSerial = d.fuseSerial
abbrev Dev.OnlyRegsRailsPorts (d e : Dev) : Prop :=
  e.pins = d.pins ∧ e.sys = d.sys ∧ e.tb = d.tb ∧ e.lanes = d.lanes ∧ e.stalls = d.stalls ∧ e.yards = d.yards ∧
  e.laws = d.laws ∧ e.bals = d.bals ∧ e.lawUnits = d.lawUnits ∧ e.balUnits = d.balUnits ∧ e.prot = d.prot ∧ e.ret = d.ret ∧
  e.hsw = d.hsw ∧ e.meas = d.meas ∧ e.loft = d.loft ∧ e.evt = d.evt ∧ e.acc = d.acc ∧ e.mgmt = d.mgmt ∧ e.pair = d.pair ∧
  e.dom = d.dom ∧ e.deviceKey = d.deviceKey ∧ e.fuseSerial = d.fuseSerial
abbrev Dev.OnlyLawUnitsBalUnits (d e : Dev) : Prop :=
  e.regs = d.regs ∧ e.pins = d.pins ∧ e.sys = d.sys ∧ e.tb = d.tb ∧ e.lanes = d.lanes ∧ e.stalls = d.stalls ∧
  e.yards = d.yards ∧ e.laws = d.laws ∧ e.bals = d.bals ∧ e.rails = d.rails ∧ e.ports = d.ports ∧ e.prot = d.prot ∧
  e.ret = d.ret ∧ e.hsw = d.hsw ∧ e.meas = d.meas ∧ e.loft = d.loft ∧ e.evt = d.evt ∧ e.acc = d.acc ∧ e.mgmt = d.mgmt ∧
  e.pair = d.pair ∧ e.dom = d.dom ∧ e.deviceKey = d.deviceKey ∧ e.fuseSerial = d.fuseSerial
abbrev Dev.Frame26 (d e : Dev) : Prop :=
  e.pins = d.pins ∧ e.tb = d.tb ∧ e.bals = d.bals ∧ e.prot = d.prot ∧ e.meas = d.meas ∧ e.acc = d.acc ∧ e.mgmt = d.mgmt ∧
  e.dom = d.dom ∧ e.deviceKey = d.deviceKey ∧ e.fuseSerial = d.fuseSerial
abbrev Dev.Frame27 (d e : Dev) : Prop :=
  e.pins = d.pins ∧ e.sys = d.sys ∧ e.tb = d.tb ∧ e.lanes = d.lanes ∧ e.laws = d.laws ∧ e.bals = d.bals ∧ e.prot = d.prot ∧
  e.ret = d.ret ∧ e.hsw = d.hsw ∧ e.meas = d.meas ∧ e.loft = d.loft ∧ e.evt = d.evt ∧ e.acc = d.acc ∧ e.mgmt = d.mgmt ∧
  e.dom = d.dom ∧ e.deviceKey = d.deviceKey ∧ e.fuseSerial = d.fuseSerial
abbrev Dev.OnlyYardsLawsPair (d e : Dev) : Prop :=
  e.regs = d.regs ∧ e.pins = d.pins ∧ e.sys = d.sys ∧ e.tb = d.tb ∧ e.lanes = d.lanes ∧ e.stalls = d.stalls ∧
  e.bals = d.bals ∧ e.lawUnits = d.lawUnits ∧ e.balUnits = d.balUnits ∧ e.rails = d.rails ∧ e.ports = d.ports ∧
  e.prot = d.prot ∧ e.ret = d.ret ∧ e.hsw = d.hsw ∧ e.meas = d.meas ∧ e.loft = d.loft ∧ e.evt = d.evt ∧ e.acc = d.acc ∧
  e.mgmt = d.mgmt ∧ e.dom = d.dom ∧ e.deviceKey = d.deviceKey ∧ e.fuseSerial = d.fuseSerial
abbrev Dev.Frame28 (d e : Dev) : Prop :=
  e.pins = d.pins ∧ e.tb = d.tb ∧ e.lanes = d.lanes ∧ e.stalls = d.stalls ∧ e.bals = d.bals ∧ e.lawUnits = d.lawUnits ∧
  e.balUnits = d.balUnits ∧ e.ports = d.ports ∧ e.prot = d.prot ∧ e.ret = d.ret ∧ e.meas = d.meas ∧ e.loft = d.loft ∧
  e.evt = d.evt ∧ e.acc = d.acc ∧ e.mgmt = d.mgmt ∧ e.dom = d.dom ∧ e.deviceKey = d.deviceKey ∧ e.fuseSerial = d.fuseSerial
abbrev Dev.Frame29 (d e : Dev) : Prop :=
  e.pins = d.pins ∧ e.tb = d.tb ∧ e.ports = d.ports ∧ e.ret = d.ret ∧ e.loft = d.loft ∧ e.acc = d.acc ∧
  e.deviceKey = d.deviceKey ∧ e.fuseSerial = d.fuseSerial
abbrev Dev.OnlyRegsHswLoftEvtPair (d e : Dev) : Prop :=
  e.pins = d.pins ∧ e.sys = d.sys ∧ e.tb = d.tb ∧ e.lanes = d.lanes ∧ e.stalls = d.stalls ∧ e.yards = d.yards ∧
  e.laws = d.laws ∧ e.bals = d.bals ∧ e.lawUnits = d.lawUnits ∧ e.balUnits = d.balUnits ∧ e.rails = d.rails ∧
  e.ports = d.ports ∧ e.prot = d.prot ∧ e.ret = d.ret ∧ e.meas = d.meas ∧ e.acc = d.acc ∧ e.mgmt = d.mgmt ∧ e.dom = d.dom ∧
  e.deviceKey = d.deviceKey ∧ e.fuseSerial = d.fuseSerial
abbrev Dev.OnlyTbDom (d e : Dev) : Prop :=
  e.regs = d.regs ∧ e.pins = d.pins ∧ e.sys = d.sys ∧ e.lanes = d.lanes ∧ e.stalls = d.stalls ∧ e.yards = d.yards ∧
  e.laws = d.laws ∧ e.bals = d.bals ∧ e.lawUnits = d.lawUnits ∧ e.balUnits = d.balUnits ∧ e.rails = d.rails ∧
  e.ports = d.ports ∧ e.prot = d.prot ∧ e.ret = d.ret ∧ e.hsw = d.hsw ∧ e.meas = d.meas ∧ e.loft = d.loft ∧ e.evt = d.evt ∧
  e.acc = d.acc ∧ e.mgmt = d.mgmt ∧ e.pair = d.pair ∧ e.deviceKey = d.deviceKey ∧ e.fuseSerial = d.fuseSerial
abbrev Dev.Frame30 (d e : Dev) : Prop :=
  e.pins = d.pins ∧ e.stalls = d.stalls ∧ e.yards = d.yards ∧ e.laws = d.laws ∧ e.bals = d.bals ∧ e.lawUnits = d.lawUnits ∧
  e.balUnits = d.balUnits ∧ e.rails = d.rails ∧ e.ports = d.ports ∧ e.ret = d.ret ∧ e.loft = d.loft ∧ e.mgmt = d.mgmt ∧
  e.deviceKey = d.deviceKey ∧ e.fuseSerial = d.fuseSerial
abbrev Dev.Frame31 (d e : Dev) : Prop :=
  e.pins = d.pins ∧ e.sys = d.sys ∧ e.tb = d.tb ∧ e.laws = d.laws ∧ e.bals = d.bals ∧ e.ports = d.ports ∧ e.prot = d.prot ∧
  e.ret = d.ret ∧ e.hsw = d.hsw ∧ e.meas = d.meas ∧ e.loft = d.loft ∧ e.acc = d.acc ∧ e.mgmt = d.mgmt ∧
  e.deviceKey = d.deviceKey ∧ e.fuseSerial = d.fuseSerial
abbrev Dev.Frame32 (d e : Dev) : Prop :=
  e.pins = d.pins ∧ e.sys = d.sys ∧ e.tb = d.tb ∧ e.bals = d.bals ∧ e.ports = d.ports ∧ e.prot = d.prot ∧ e.ret = d.ret ∧
  e.hsw = d.hsw ∧ e.meas = d.meas ∧ e.loft = d.loft ∧ e.acc = d.acc ∧ e.mgmt = d.mgmt ∧ e.dom = d.dom ∧
  e.deviceKey = d.deviceKey ∧ e.fuseSerial = d.fuseSerial
abbrev Dev.OnlyRegsProtMeasLoftEvt (d e : Dev) : Prop :=
  e.pins = d.pins ∧ e.sys = d.sys ∧ e.tb = d.tb ∧ e.lanes = d.lanes ∧ e.stalls = d.stalls ∧ e.yards = d.yards ∧
  e.laws = d.laws ∧ e.bals = d.bals ∧ e.lawUnits = d.lawUnits ∧ e.balUnits = d.balUnits ∧ e.rails = d.rails ∧
  e.ports = d.ports ∧ e.ret = d.ret ∧ e.hsw = d.hsw ∧ e.acc = d.acc ∧ e.mgmt = d.mgmt ∧ e.pair = d.pair ∧ e.dom = d.dom ∧
  e.deviceKey = d.deviceKey ∧ e.fuseSerial = d.fuseSerial
abbrev Dev.OnlyAccMgmt (d e : Dev) : Prop :=
  e.regs = d.regs ∧ e.pins = d.pins ∧ e.sys = d.sys ∧ e.tb = d.tb ∧ e.lanes = d.lanes ∧ e.stalls = d.stalls ∧
  e.yards = d.yards ∧ e.laws = d.laws ∧ e.bals = d.bals ∧ e.lawUnits = d.lawUnits ∧ e.balUnits = d.balUnits ∧
  e.rails = d.rails ∧ e.ports = d.ports ∧ e.prot = d.prot ∧ e.ret = d.ret ∧ e.hsw = d.hsw ∧ e.meas = d.meas ∧
  e.loft = d.loft ∧ e.evt = d.evt ∧ e.pair = d.pair ∧ e.dom = d.dom ∧ e.deviceKey = d.deviceKey ∧
  e.fuseSerial = d.fuseSerial
abbrev Dev.OnlyRegsProtMeasLoftEvtMgmt (d e : Dev) : Prop :=
  e.pins = d.pins ∧ e.sys = d.sys ∧ e.tb = d.tb ∧ e.lanes = d.lanes ∧ e.stalls = d.stalls ∧ e.yards = d.yards ∧
  e.laws = d.laws ∧ e.bals = d.bals ∧ e.lawUnits = d.lawUnits ∧ e.balUnits = d.balUnits ∧ e.rails = d.rails ∧
  e.ports = d.ports ∧ e.ret = d.ret ∧ e.hsw = d.hsw ∧ e.acc = d.acc ∧ e.pair = d.pair ∧ e.dom = d.dom ∧
  e.deviceKey = d.deviceKey ∧ e.fuseSerial = d.fuseSerial
abbrev Dev.Frame33 (d e : Dev) : Prop :=
  e.pins = d.pins ∧ e.sys = d.sys ∧ e.tb = d.tb ∧ e.lanes = d.lanes ∧ e.stalls = d.stalls ∧ e.yards = d.yards ∧
  e.laws = d.laws ∧ e.bals = d.bals ∧ e.lawUnits = d.lawUnits ∧ e.balUnits = d.balUnits ∧ e.rails = d.rails ∧
  e.ports = d.ports ∧ e.ret = d.ret ∧ e.hsw = d.hsw ∧ e.pair = d.pair ∧ e.dom = d.dom ∧ e.deviceKey = d.deviceKey ∧
  e.fuseSerial = d.fuseSerial
abbrev Dev.OnlyRegsSysLawsEvtPair (d e : Dev) : Prop :=
  e.pins = d.pins ∧ e.tb = d.tb ∧ e.lanes = d.lanes ∧ e.stalls = d.stalls ∧ e.yards = d.yards ∧ e.bals = d.bals ∧
  e.lawUnits = d.lawUnits ∧ e.balUnits = d.balUnits ∧ e.rails = d.rails ∧ e.ports = d.ports ∧ e.prot = d.prot ∧
  e.ret = d.ret ∧ e.hsw = d.hsw ∧ e.meas = d.meas ∧ e.loft = d.loft ∧ e.acc = d.acc ∧ e.mgmt = d.mgmt ∧ e.dom = d.dom ∧
  e.deviceKey = d.deviceKey ∧ e.fuseSerial = d.fuseSerial
abbrev Dev.Frame34 (d e : Dev) : Prop :=
  e.pins = d.pins ∧ e.tb = d.tb ∧ e.ports = d.ports ∧ e.loft = d.loft ∧ e.acc = d.acc ∧ e.dom = d.dom ∧
  e.deviceKey = d.deviceKey ∧ e.fuseSerial = d.fuseSerial
abbrev Dev.KeepsPinsPorts (d e : Dev) : Prop :=
  e.pins = d.pins ∧ e.ports = d.ports ∧ e.deviceKey = d.deviceKey ∧ e.fuseSerial = d.fuseSerial
abbrev Dev.OnlyRegsAccMgmt (d e : Dev) : Prop :=
  e.pins = d.pins ∧ e.sys = d.sys ∧ e.tb = d.tb ∧ e.lanes = d.lanes ∧ e.stalls = d.stalls ∧ e.yards = d.yards ∧
  e.laws = d.laws ∧ e.bals = d.bals ∧ e.lawUnits = d.lawUnits ∧ e.balUnits = d.balUnits ∧ e.rails = d.rails ∧
  e.ports = d.ports ∧ e.prot = d.prot ∧ e.ret = d.ret ∧ e.hsw = d.hsw ∧ e.meas = d.meas ∧ e.loft = d.loft ∧ e.evt = d.evt ∧
  e.pair = d.pair ∧ e.dom = d.dom ∧ e.deviceKey = d.deviceKey ∧ e.fuseSerial = d.fuseSerial
abbrev Dev.Frame35 (d e : Dev) : Prop :=
  e.pins = d.pins ∧ e.sys = d.sys ∧ e.tb = d.tb ∧ e.laws = d.laws ∧ e.bals = d.bals ∧ e.ports = d.ports ∧ e.prot = d.prot ∧
  e.ret = d.ret ∧ e.hsw = d.hsw ∧ e.meas = d.meas ∧ e.loft = d.loft ∧ e.acc = d.acc ∧ e.dom = d.dom ∧
  e.deviceKey = d.deviceKey ∧ e.fuseSerial = d.fuseSerial
abbrev Dev.OnlyRegsSysLawsEvtMgmtPair (d e : Dev) : Prop :=
  e.pins = d.pins ∧ e.tb = d.tb ∧ e.lanes = d.lanes ∧ e.stalls = d.stalls ∧ e.yards = d.yards ∧ e.bals = d.bals ∧
  e.lawUnits = d.lawUnits ∧ e.balUnits = d.balUnits ∧ e.rails = d.rails ∧ e.ports = d.ports ∧ e.prot = d.prot ∧
  e.ret = d.ret ∧ e.hsw = d.hsw ∧ e.meas = d.meas ∧ e.loft = d.loft ∧ e.acc = d.acc ∧ e.dom = d.dom ∧
  e.deviceKey = d.deviceKey ∧ e.fuseSerial = d.fuseSerial
abbrev Dev.OnlyRegsEvtAccMgmt (d e : Dev) : Prop :=
  e.pins = d.pins ∧ e.sys = d.sys ∧ e.tb = d.tb ∧ e.lanes = d.lanes ∧ e.stalls = d.stalls ∧ e.yards = d.yards ∧
  e.laws = d.laws ∧ e.bals = d.bals ∧ e.lawUnits = d.lawUnits ∧ e.balUnits = d.balUnits ∧ e.rails = d.rails ∧
  e.ports = d.ports ∧ e.prot = d.prot ∧ e.ret = d.ret ∧ e.hsw = d.hsw ∧ e.meas = d.meas ∧ e.loft = d.loft ∧
  e.pair = d.pair ∧ e.dom = d.dom ∧ e.deviceKey = d.deviceKey ∧ e.fuseSerial = d.fuseSerial
abbrev Dev.OnlyRegsLoftEvtAccMgmt (d e : Dev) : Prop :=
  e.pins = d.pins ∧ e.sys = d.sys ∧ e.tb = d.tb ∧ e.lanes = d.lanes ∧ e.stalls = d.stalls ∧ e.yards = d.yards ∧
  e.laws = d.laws ∧ e.bals = d.bals ∧ e.lawUnits = d.lawUnits ∧ e.balUnits = d.balUnits ∧ e.rails = d.rails ∧
  e.ports = d.ports ∧ e.prot = d.prot ∧ e.ret = d.ret ∧ e.hsw = d.hsw ∧ e.meas = d.meas ∧ e.pair = d.pair ∧ e.dom = d.dom ∧
  e.deviceKey = d.deviceKey ∧ e.fuseSerial = d.fuseSerial
abbrev Dev.OnlyRegsTbLanesPairDom (d e : Dev) : Prop :=
  e.pins = d.pins ∧ e.sys = d.sys ∧ e.stalls = d.stalls ∧ e.yards = d.yards ∧ e.laws = d.laws ∧ e.bals = d.bals ∧
  e.lawUnits = d.lawUnits ∧ e.balUnits = d.balUnits ∧ e.rails = d.rails ∧ e.ports = d.ports ∧ e.prot = d.prot ∧
  e.ret = d.ret ∧ e.hsw = d.hsw ∧ e.meas = d.meas ∧ e.loft = d.loft ∧ e.evt = d.evt ∧ e.acc = d.acc ∧ e.mgmt =
  d.mgmt ∧ e.deviceKey = d.deviceKey ∧ e.fuseSerial = d.fuseSerial
abbrev Dev.OnlyRegsTbHsw (d e : Dev) : Prop :=
  e.pins = d.pins ∧ e.sys = d.sys ∧ e.lanes = d.lanes ∧ e.stalls = d.stalls ∧ e.yards = d.yards ∧ e.laws = d.laws ∧
  e.bals = d.bals ∧ e.lawUnits = d.lawUnits ∧ e.balUnits = d.balUnits ∧ e.rails = d.rails ∧ e.ports = d.ports ∧
  e.prot = d.prot ∧ e.ret = d.ret ∧ e.meas = d.meas ∧ e.loft = d.loft ∧ e.evt = d.evt ∧ e.acc = d.acc ∧ e.mgmt =
  d.mgmt ∧ e.pair = d.pair ∧ e.dom = d.dom ∧ e.deviceKey = d.deviceKey ∧ e.fuseSerial = d.fuseSerial
abbrev Dev.OnlyRegsSysLoftEvt (d e : Dev) : Prop :=
  e.pins = d.pins ∧ e.tb = d.tb ∧ e.lanes = d.lanes ∧ e.stalls = d.stalls ∧ e.yards = d.yards ∧ e.laws = d.laws ∧
  e.bals = d.bals ∧ e.lawUnits = d.lawUnits ∧ e.balUnits = d.balUnits ∧ e.rails = d.rails ∧ e.ports = d.ports ∧
  e.prot = d.prot ∧ e.ret = d.ret ∧ e.hsw = d.hsw ∧ e.meas = d.meas ∧ e.acc = d.acc ∧ e.mgmt = d.mgmt ∧ e.pair =
  d.pair ∧ e.dom = d.dom ∧ e.deviceKey = d.deviceKey ∧ e.fuseSerial = d.fuseSerial
abbrev Dev.OnlyRegsSysProtLoft (d e : Dev) : Prop :=
  e.pins = d.pins ∧ e.tb = d.tb ∧ e.lanes = d.lanes ∧ e.stalls = d.stalls ∧ e.yards = d.yards ∧ e.laws = d.laws ∧
  e.bals = d.bals ∧ e.lawUnits = d.lawUnits ∧ e.balUnits = d.balUnits ∧ e.rails = d.rails ∧ e.ports = d.ports ∧
  e.ret = d.ret ∧ e.hsw = d.hsw ∧ e.meas = d.meas ∧ e.evt = d.evt ∧ e.acc = d.acc ∧ e.mgmt = d.mgmt ∧ e.pair =
  d.pair ∧ e.dom = d.dom ∧ e.deviceKey = d.deviceKey ∧ e.fuseSerial = d.fuseSerial
abbrev Dev.OnlyRegsSysYardsLaws (d e : Dev) : Prop :=
  e.pins = d.pins ∧ e.tb = d.tb ∧ e.lanes = d.lanes ∧ e.stalls = d.stalls ∧ e.bals = d.bals ∧ e.lawUnits =
  d.lawUnits ∧ e.balUnits = d.balUnits ∧ e.rails = d.rails ∧ e.ports = d.ports ∧ e.prot = d.prot ∧ e.ret = d.ret ∧
  e.hsw = d.hsw ∧ e.meas = d.meas ∧ e.loft = d.loft ∧ e.evt = d.evt ∧ e.acc = d.acc ∧ e.mgmt = d.mgmt ∧ e.pair =
  d.pair ∧ e.dom = d.dom ∧ e.deviceKey = d.deviceKey ∧ e.fuseSerial = d.fuseSerial
abbrev Dev.Frame36 (d e : Dev) : Prop :=
  e.pins = d.pins ∧ e.tb = d.tb ∧ e.lanes = d.lanes ∧ e.stalls = d.stalls ∧ e.bals = d.bals ∧ e.lawUnits =
  d.lawUnits ∧ e.balUnits = d.balUnits ∧ e.rails = d.rails ∧ e.ports = d.ports ∧ e.prot = d.prot ∧ e.meas = d.meas ∧
  e.acc = d.acc ∧ e.mgmt = d.mgmt ∧ e.pair = d.pair ∧ e.dom = d.dom ∧ e.deviceKey = d.deviceKey ∧ e.fuseSerial =
  d.fuseSerial
abbrev Dev.OnlyStallsYardsLawsRails (d e : Dev) : Prop :=
  e.regs = d.regs ∧ e.pins = d.pins ∧ e.sys = d.sys ∧ e.tb = d.tb ∧ e.lanes = d.lanes ∧ e.bals = d.bals ∧ e.lawUnits
  = d.lawUnits ∧ e.balUnits = d.balUnits ∧ e.ports = d.ports ∧ e.prot = d.prot ∧ e.ret = d.ret ∧ e.hsw = d.hsw ∧
  e.meas = d.meas ∧ e.loft = d.loft ∧ e.evt = d.evt ∧ e.acc = d.acc ∧ e.mgmt = d.mgmt ∧ e.pair = d.pair ∧ e.dom =
  d.dom ∧ e.deviceKey = d.deviceKey ∧ e.fuseSerial = d.fuseSerial
abbrev Dev.OnlyRetPairDom (d e : Dev) : Prop :=
  e.regs = d.regs ∧ e.pins = d.pins ∧ e.sys = d.sys ∧ e.tb = d.tb ∧ e.lanes = d.lanes ∧ e.stalls = d.stalls ∧
  e.yards = d.yards ∧ e.laws = d.laws ∧ e.bals = d.bals ∧ e.lawUnits = d.lawUnits ∧ e.balUnits = d.balUnits ∧
  e.rails = d.rails ∧ e.ports = d.ports ∧ e.prot = d.prot ∧ e.hsw = d.hsw ∧ e.meas = d.meas ∧ e.loft = d.loft ∧
  e.evt = d.evt ∧ e.acc = d.acc ∧ e.mgmt = d.mgmt ∧ e.deviceKey = d.deviceKey ∧ e.fuseSerial = d.fuseSerial
abbrev Dev.Frame38 (d e : Dev) : Prop :=
  e.pins = d.pins ∧ e.tb = d.tb ∧ e.lanes = d.lanes ∧ e.bals = d.bals ∧ e.lawUnits = d.lawUnits ∧ e.balUnits =
  d.balUnits ∧ e.ports = d.ports ∧ e.prot = d.prot ∧ e.meas = d.meas ∧ e.loft = d.loft ∧ e.evt = d.evt ∧ e.acc =
  d.acc ∧ e.mgmt = d.mgmt ∧ e.deviceKey = d.deviceKey ∧ e.fuseSerial = d.fuseSerial
abbrev Dev.Frame39 (d e : Dev) : Prop :=
  e.pins = d.pins ∧ e.tb = d.tb ∧ e.ports = d.ports ∧ e.loft = d.loft ∧ e.acc = d.acc ∧ e.deviceKey = d.deviceKey ∧
  e.fuseSerial = d.fuseSerial
abbrev Dev.OnlyRegsTbProtHswMeasAccPair (d e : Dev) : Prop :=
  e.pins = d.pins ∧ e.sys = d.sys ∧ e.lanes = d.lanes ∧ e.stalls = d.stalls ∧ e.yards = d.yards ∧ e.laws = d.laws ∧
  e.bals = d.bals ∧ e.lawUnits = d.lawUnits ∧ e.balUnits = d.balUnits ∧ e.rails = d.rails ∧ e.ports = d.ports ∧
  e.ret = d.ret ∧ e.loft = d.loft ∧ e.evt = d.evt ∧ e.mgmt = d.mgmt ∧ e.dom = d.dom ∧ e.deviceKey = d.deviceKey ∧
  e.fuseSerial = d.fuseSerial
abbrev Dev.Frame40 (d e : Dev) : Prop :=
  e.pins = d.pins ∧ e.sys = d.sys ∧ e.lanes = d.lanes ∧ e.stalls = d.stalls ∧ e.yards = d.yards ∧ e.laws = d.laws ∧
  e.bals = d.bals ∧ e.lawUnits = d.lawUnits ∧ e.balUnits = d.balUnits ∧ e.rails = d.rails ∧ e.ports = d.ports ∧
  e.ret = d.ret ∧ e.loft = d.loft ∧ e.evt = d.evt ∧ e.mgmt = d.mgmt ∧ e.deviceKey = d.deviceKey ∧ e.fuseSerial =
  d.fuseSerial
abbrev Dev.OnlyRegsSysYardsLawsEvtPair (d e : Dev) : Prop :=
  e.pins = d.pins ∧ e.tb = d.tb ∧ e.lanes = d.lanes ∧ e.stalls = d.stalls ∧ e.bals = d.bals ∧ e.lawUnits =
  d.lawUnits ∧ e.balUnits = d.balUnits ∧ e.rails = d.rails ∧ e.ports = d.ports ∧ e.prot = d.prot ∧ e.ret = d.ret ∧
  e.hsw = d.hsw ∧ e.meas = d.meas ∧ e.loft = d.loft ∧ e.acc = d.acc ∧ e.mgmt = d.mgmt ∧ e.dom = d.dom ∧ e.deviceKey
  = d.deviceKey ∧ e.fuseSerial = d.fuseSerial
abbrev Dev.OnlyRegsSysYardsLawsEvtMgmtPair (d e : Dev) : Prop :=
  e.pins = d.pins ∧ e.tb = d.tb ∧ e.lanes = d.lanes ∧ e.stalls = d.stalls ∧ e.bals = d.bals ∧ e.lawUnits =
  d.lawUnits ∧ e.balUnits = d.balUnits ∧ e.rails = d.rails ∧ e.ports = d.ports ∧ e.prot = d.prot ∧ e.ret = d.ret ∧
  e.hsw = d.hsw ∧ e.meas = d.meas ∧ e.loft = d.loft ∧ e.acc = d.acc ∧ e.dom = d.dom ∧ e.deviceKey = d.deviceKey ∧
  e.fuseSerial = d.fuseSerial

@[simp] theorem Dev.noteFails_frame (f : Nat) (a : Nat) (n : Nat) (d : Dev) : Dev.OnlyRegsLoft d (Dev.noteFails f a n d)
    := by
  unfold Dev.OnlyRegsLoft Dev.noteFails; simp
@[simp] theorem Dev.noteRead_frame (a : Nat) (n : Nat) (d : Dev) : Dev.OnlyRegsLoft d (Dev.noteRead a n d) := by
  unfold Dev.OnlyRegsLoft Dev.noteRead; simp
@[simp] theorem Dev.retimeRail_frame (m : Nat × Option Tx) (d : Dev) : Dev.OnlyRegsLanesStallsRails d (Dev.retimeRail m
    d) := by
  unfold Dev.OnlyRegsLanesStallsRails Dev.retimeRail; (repeat' split) <;> simp
@[simp] theorem Dev.retime_frame (l : Nat) (moves : List (Nat × Option Tx)) (d : Dev) : Dev.OnlyRegsLanesStallsRails d
    (Dev.retime l moves d) := by
  unfold Dev.OnlyRegsLanesStallsRails Dev.retime; simp
@[simp] theorem Dev.sendFor_frame (rail : Nat) (limit : Nat) (l : Nat) (ready : Nat) (b : Body) (d : Dev) :
    Dev.OnlyRegsLanesStallsRails d (Dev.sendFor rail limit l ready b d) := by
  unfold Dev.OnlyRegsLanesStallsRails Dev.sendFor; simp
@[simp] theorem Dev.sendAt_frame (l : Nat) (ready : Nat) (b : Body) (d : Dev) : Dev.OnlyRegsLanesStallsRails d
    (Dev.sendAt l ready b d) := by
  unfold Dev.OnlyRegsLanesStallsRails Dev.sendAt; simp
@[simp] theorem Dev.send_frame (l : Nat) (b : Body) (d : Dev) : Dev.OnlyRegsLanesStallsRails d (Dev.send l b d) := by
  unfold Dev.OnlyRegsLanesStallsRails Dev.send; simp
@[simp] theorem Dev.dropTx_frame (l : Nat) (m : Tx → Bool) (d : Dev) : Dev.OnlyRegsLanes d (Dev.dropTx l m d) := by
  unfold Dev.OnlyRegsLanes Dev.dropTx; simp
@[simp] theorem Dev.askAgain_frame (l : Nat) (pos : Nat) (k : AskKind) (tries : Nat) (d : Dev) :
    Dev.OnlyRegsLanesStallsRails d (Dev.askAgain l pos k tries d) := by
  unfold Dev.OnlyRegsLanesStallsRails Dev.askAgain; simp
@[simp] theorem Dev.ask_frame (l : Nat) (pos : Nat) (k : AskKind) (d : Dev) : Dev.OnlyRegsLanesStallsRails d (Dev.ask l
    pos k d) := by
  unfold Dev.OnlyRegsLanesStallsRails Dev.ask; (repeat' split) <;> simp
@[simp] theorem Dev.askStall_frame (s : Nat) (k : AskKind) (d : Dev) : Dev.OnlyRegsLanesStallsRails d (Dev.askStall s k
    d) := by
  unfold Dev.OnlyRegsLanesStallsRails Dev.askStall; simp
@[simp] theorem Dev.writeParam_frame (p : Nat) (s : Nat) (d : Dev) : Dev.OnlyRegsLanesStallsRails d (Dev.writeParam p s
    d) := by
  unfold Dev.OnlyRegsLanesStallsRails Dev.writeParam; simp
@[simp] theorem Dev.writeParamYard_frame (n : Nat) (p : Nat) (d : Dev) : Dev.OnlyRegsLanesStallsRails d
    (Dev.writeParamYard n p d) := by
  unfold Dev.OnlyRegsLanesStallsRails Dev.writeParamYard; simp
@[simp] theorem Dev.countLeft_frame (e : Dev) (l : Nat) (d : Dev) : Dev.OnlyRegsLanes d (Dev.countLeft e l d) := by
  unfold Dev.OnlyRegsLanes Dev.countLeft; simp
@[simp] theorem Dev.toInstant_frame (t : Nat) (d : Dev) : Dev.OnlyRegsTbLanesPairDom d (Dev.toInstant t d) := by
  unfold Dev.OnlyRegsTbLanesPairDom Dev.toInstant; simp
@[simp] theorem Dev.addOutput_frame (k : Nat) (d : Dev) : Dev.OnlyMeas d (Dev.addOutput k d) := by
  unfold Dev.OnlyMeas Dev.addOutput; simp
@[simp] theorem Dev.catchOutput_frame (d : Dev) : Dev.OnlyMeas d (Dev.catchOutput d) := by
  unfold Dev.OnlyMeas Dev.catchOutput; simp
@[simp] theorem Dev.statusOff_frame (n : Nat) (cause : Nat) (d : Dev) : Dev.OnlyMgmt d (Dev.statusOff n cause d) := by
  unfold Dev.OnlyMgmt Dev.statusOff; simp
@[simp] theorem Dev.statusOtw_frame (n : Nat) (d : Dev) : Dev.OnlyMgmt d (Dev.statusOtw n d) := by
  unfold Dev.OnlyMgmt Dev.statusOtw; simp
@[simp] theorem Dev.statusInput_frame (mask : Nat) (d : Dev) : Dev.OnlyMgmt d (Dev.statusInput mask d) := by
  unfold Dev.OnlyMgmt Dev.statusInput; simp
@[simp] theorem Dev.refuse_frame (code : Nat) (cmd : Nat) (addr : Nat) (d : Dev) : Dev.OnlyRegsMgmt d (Dev.refuse code
    cmd addr d) := by
  unfold Dev.OnlyRegsMgmt Dev.refuse; simp
@[simp] theorem Dev.onAcc_frame (f : Access → Access) (d : Dev) : Dev.OnlyAcc d (Dev.onAcc f d) := by
  unfold Dev.OnlyAcc Dev.onAcc; simp
@[simp] theorem Dev.onInst_frame (f : Install → Install) (d : Dev) : Dev.OnlyAcc d (Dev.onInst f d) := by
  unfold Dev.OnlyAcc Dev.onInst; simp
@[simp] theorem Dev.writeHist_frame (result : Nat) (copyB : Bool) (seq : Nat) (crc : Nat) (session : Nat) (d : Dev) :
    Dev.OnlyLoft d (Dev.writeHist result copyB seq crc session d) := by
  unfold Dev.OnlyLoft Dev.writeHist; simp
@[simp] theorem Dev.rejectInstall_frame (code : Nat) (d : Dev) : Dev.OnlyRegsLoftEvtAcc d (Dev.rejectInstall code d) := by
  unfold Dev.OnlyRegsLoftEvtAcc Dev.rejectInstall; simp
@[simp] theorem Dev.closeSession_frame (reason : Nat) (d : Dev) : Dev.OnlyRegsLoftEvtAcc d (Dev.closeSession reason d) :=
    by
  unfold Dev.OnlyRegsLoftEvtAcc Dev.closeSession; simp
@[simp] theorem Dev.raiseLevel_frame (level : Nat) (method : Nat) (d : Dev) : Dev.OnlyRegsEvtAcc d (Dev.raiseLevel level
    method d) := by
  unfold Dev.OnlyRegsEvtAcc Dev.raiseLevel; simp
@[simp] theorem Dev.fieldSession_frame (d : Dev) : Dev.OnlyRegsEvtAcc d (Dev.fieldSession d) := by
  unfold Dev.OnlyRegsEvtAcc Dev.fieldSession; simp
@[simp] theorem Dev.endSession_frame (reason : Nat) (d : Dev) : Dev.OnlyRegsLoftEvtAcc d (Dev.endSession reason d) := by
  unfold Dev.OnlyRegsLoftEvtAcc Dev.endSession; simp
@[simp] theorem Dev.conduct_frame (w : Nat) (s : Nat) (d : Dev) : Dev.OnlyStalls d (Dev.conduct w s d) := by
  unfold Dev.OnlyStalls Dev.conduct; simp
@[simp] theorem Dev.shedStall_frame (n : Nat) (s : Nat) (d : Dev) : Dev.OnlyStalls d (Dev.shedStall n s d) := by
  unfold Dev.OnlyStalls Dev.shedStall; simp
@[simp] theorem Dev.setM_frame (n : Nat) (m : Nat) (w : Nat) (d : Dev) : Dev.OnlyStallsYards d (Dev.setM n m w d) := by
  unfold Dev.OnlyStallsYards Dev.setM; simp
@[simp] theorem Dev.endBursts_frame (l : Nat) (set : List Nat) (t : Nat) (d : Dev) : Dev.OnlyStalls d (Dev.endBursts l
    set t d) := by
  unfold Dev.OnlyStalls Dev.endBursts; simp
@[simp] theorem Dev.sendCuts_frame (n : Nat) (set : List Nat) (fs : List (Nat × Body)) (d : Dev) :
    Dev.OnlyRegsLanesStallsRails d (Dev.sendCuts n set fs d) := by
  unfold Dev.OnlyRegsLanesStallsRails Dev.sendCuts; simp
@[simp] theorem Dev.sendCutOn_frame (n : Nat) (lanes : List Nat) (set : List Nat) (dur : Nat) (lson : Bool) (nlim : Nat)
    (d : Dev) : Dev.OnlyRegsLanesStallsRails d (Dev.sendCutOn n lanes set dur lson nlim d) := by
  unfold Dev.OnlyRegsLanesStallsRails Dev.sendCutOn; simp
@[simp] theorem Dev.sendCut_frame (n : Nat) (set : List Nat) (dur : Nat) (lson : Bool) (nlim : Nat) (d : Dev) :
    Dev.OnlyRegsLanesStallsRails d (Dev.sendCut n set dur lson nlim d) := by
  unfold Dev.OnlyRegsLanesStallsRails Dev.sendCut; simp
@[simp] theorem Dev.stopFrame_frame (s : Nat) (ready : Nat) (d : Dev) : Dev.OnlyRegsLanesStallsRails d (Dev.stopFrame s
    ready d) := by
  unfold Dev.OnlyRegsLanesStallsRails Dev.stopFrame; simp
@[simp] theorem Dev.dropEdges_frame (s : Nat) (d : Dev) : Dev.OnlyRegsLanes d (Dev.dropEdges s d) := by
  unfold Dev.OnlyRegsLanes Dev.dropEdges; simp
@[simp] theorem Dev.pendChange_frame (n : Nat) (k : ChangeKind) (id : Nat) (d : Dev) : Dev.OnlyYards d (Dev.pendChange n
    k id d) := by
  unfold Dev.OnlyYards Dev.pendChange; simp
@[simp] theorem Dev.refreshFills_frame (n : Nat) (d : Dev) : Dev.OnlyRegsStallsYards d (Dev.refreshFills n d) := by
  unfold Dev.OnlyRegsStallsYards Dev.refreshFills; simp
@[simp] theorem Dev.chooseFor_frame (n : Nat) (r : Nat) (d : Dev) : Dev.OnlyStalls d (Dev.chooseFor n r d) := by
  unfold Dev.OnlyStalls Dev.chooseFor; cases pickSpare (d.spares n) r <;> simp
@[simp] theorem Dev.takeRole_frame (commit : Bool) (n : Nat) (s : Nat) (r : Nat) (d : Dev) : Dev.OnlyStallsYards d
    (Dev.takeRole commit n s r d) := by
  unfold Dev.OnlyStallsYards Dev.takeRole; simp
@[simp] theorem Dev.rebind_frame (was : List Nat) (s : Nat) (d : Dev) : Dev.OnlyStalls d (Dev.rebind was s d) := by
  unfold Dev.OnlyStalls Dev.rebind; simp
@[simp] theorem Dev.keepM_frame (e : Dev) (n : Nat) (d : Dev) : Dev.OnlyStallsYards d (Dev.keepM e n d) := by
  unfold Dev.OnlyStallsYards Dev.keepM; simp
@[simp] theorem Dev.settleM_frame (e : Dev) (n : Nat) (d : Dev) : Dev.OnlyStallsYards d (Dev.settleM e n d) := by
  unfold Dev.OnlyStallsYards Dev.settleM; simp
@[simp] theorem Dev.writeChanged_frame (e : Dev) (stalls : List Nat) (d : Dev) : Dev.OnlyRegsLanesStallsRails d
    (Dev.writeChanged e stalls d) := by
  unfold Dev.OnlyRegsLanesStallsRails Dev.writeChanged; simp
@[simp] theorem Dev.applyIlv_frame (n : Nat) (ws : RMap) (d : Dev) : Dev.OnlyRegsLanesStallsYardsRailsPair d
    (Dev.applyIlv n ws d) := by
  unfold Dev.OnlyRegsLanesStallsYardsRailsPair Dev.applyIlv; simp
@[simp] theorem Dev.retireWorn_frame (n : Nat) (s : Nat) (d : Dev) : Dev.OnlyRegsStallsYards d (Dev.retireWorn n s d) :=
    by
  unfold Dev.OnlyRegsStallsYards Dev.retireWorn; simp
@[simp] theorem Dev.giveBack_frame (commit : Bool) (n : Nat) (s : Nat) (d : Dev) : Dev.OnlyStallsYards d (Dev.giveBack
    commit n s d) := by
  unfold Dev.OnlyStallsYards Dev.giveBack; simp
@[simp] theorem Dev.fillRoles_frame (commit : Bool) (n : Nat) (roles : List Nat) (d : Dev) : Dev.OnlyRegsStallsYards d
    (Dev.fillRoles commit n roles d) := by
  unfold Dev.OnlyRegsStallsYards Dev.fillRoles; simp (disch := (intros; (repeat' split) <;> simp))
@[simp] theorem Dev.markFailed_frame (s : Nat) (cause : Nat) (d : Dev) : Dev.OnlyStallsYards d (Dev.markFailed s cause d)
    := by
  unfold Dev.OnlyStallsYards Dev.markFailed; dsimp only; (repeat' split) <;> simp
@[simp] theorem Dev.failLaneStalls_frame (l : Nat) (rails : List Nat) (d : Dev) : Dev.OnlyRegsStallsYards d
    (Dev.failLaneStalls l rails d) := by
  unfold Dev.OnlyRegsStallsYards Dev.failLaneStalls; simp (disch := (intros; (repeat' split) <;> simp))
@[simp] theorem Dev.retireLane_frame (l : Nat) (cause : Option Nat) (d : Dev) : Dev.OnlyRegsLanesStallsYardsEvt d
    (Dev.retireLane l cause d) := by
  unfold Dev.OnlyRegsLanesStallsYardsEvt Dev.retireLane; simp
@[simp] theorem Dev.retireLame_frame (n : Nat) (l : Nat) (d : Dev) : Dev.OnlyRegsLanesStallsYardsEvt d (Dev.retireLame n
    l d) := by
  unfold Dev.OnlyRegsLanesStallsYardsEvt Dev.retireLame; simp
@[simp] theorem Dev.replaceLaw_frame (u : Nat) (d : Dev) : Dev.OnlyRegsLawUnitsEvt d (Dev.replaceLaw u d) := by
  unfold Dev.OnlyRegsLawUnitsEvt Dev.replaceLaw; (repeat' split) <;> simp
@[simp] theorem Dev.replaceBal_frame (u : Nat) (d : Dev) : Dev.OnlyRegsBalUnitsEvt d (Dev.replaceBal u d) := by
  unfold Dev.OnlyRegsBalUnitsEvt Dev.replaceBal; (repeat' split) <;> simp
@[simp] theorem Dev.takeEpochFields_frame (n : Nat) (d : Dev) : Dev.OnlyRegs d (Dev.takeEpochFields n d) := by
  unfold Dev.OnlyRegs Dev.takeEpochFields; simp
@[simp] theorem Dev.takeLayout_frame (n : Nat) (cs : List Change) (d : Dev) : Dev.Frame1 d (Dev.takeLayout n cs d) := by
  unfold Dev.Frame1 Dev.takeLayout; dsimp only; (repeat' split) <;> simp
@[simp] theorem Dev.takeNow_frame (n : Nat) (d : Dev) : Dev.Frame1 d (Dev.takeNow n d) := by
  unfold Dev.Frame1 Dev.takeNow; simp
@[simp] theorem Dev.afterChange_frame (n : Nat) (d : Dev) : Dev.Frame1 d (Dev.afterChange n d) := by
  unfold Dev.Frame1 Dev.afterChange; simp
@[simp] theorem Dev.formKdr_frame (n : Nat) (d : Dev) : Dev.OnlyLaws d (Dev.formKdr n d) := by
  unfold Dev.OnlyLaws Dev.formKdr; simp
@[simp] theorem Dev.applyGroup_frame (n : Nat) (p : GroupPend) (d : Dev) : Dev.OnlyRegsLaws d (Dev.applyGroup n p d) := by
  unfold Dev.OnlyRegsLaws Dev.applyGroup; simp
@[simp] theorem Dev.applyGroups_frame (n : Nat) (d : Dev) : Dev.OnlyRegsLawsPair d (Dev.applyGroups n d) := by
  unfold Dev.OnlyRegsLawsPair Dev.applyGroups; simp
@[simp] theorem Dev.commitEng_frame (n : Nat) (g : Nat) (d : Dev) : Dev.OnlyRegsLawsPair d (Dev.commitEng n g d) := by
  unfold Dev.OnlyRegsLawsPair Dev.commitEng; simp
@[simp] theorem Dev.lameLaw_frame (u : Nat) (d : Dev) : Dev.OnlyRegsYardsLawUnitsEvt d (Dev.lameLaw u d) := by
  unfold Dev.OnlyRegsYardsLawUnitsEvt Dev.lameLaw; dsimp only; (repeat' split) <;> simp
@[simp] theorem Dev.lameBal_frame (u : Nat) (d : Dev) : Dev.OnlyRegsYardsBalUnitsEvt d (Dev.lameBal u d) := by
  unfold Dev.OnlyRegsYardsBalUnitsEvt Dev.lameBal; dsimp only; (repeat' split) <;> simp
@[simp] theorem Dev.dropLawJob_frame (n : Nat) (d : Dev) : Dev.OnlyRegsYardsLawsLawUnitsEvt d (Dev.dropLawJob n d) := by
  unfold Dev.OnlyRegsYardsLawsLawUnitsEvt Dev.dropLawJob; (repeat' split) <;> simp
@[simp] theorem Dev.dropBalJob_frame (n : Nat) (d : Dev) : Dev.OnlyRegsYardsBalsBalUnitsEvt d (Dev.dropBalJob n d) := by
  unfold Dev.OnlyRegsYardsBalsBalUnitsEvt Dev.dropBalJob; (repeat' split) <;> simp
@[simp] theorem Dev.alertPort_frame (k : Nat) (bit : Nat) (d : Dev) : Dev.OnlyRegs d (Dev.alertPort k bit d) := by
  unfold Dev.OnlyRegs Dev.alertPort; simp
@[simp] theorem Dev.alertOwner_frame (n : Nat) (bit : Nat) (d : Dev) : Dev.OnlyRegs d (Dev.alertOwner n bit d) := by
  unfold Dev.OnlyRegs Dev.alertOwner; (repeat' split) <;> simp
@[simp] theorem Dev.alertSource_frame (n : Nat) (k : Nat) (bit : Nat) (d : Dev) : Dev.OnlyRegs d (Dev.alertSource n k
    bit d) := by
  unfold Dev.OnlyRegs Dev.alertSource; simp
@[simp] theorem Dev.setStatus_frame (n : Nat) (st : CmdStatus) (d : Dev) : Dev.OnlyRails d (Dev.setStatus n st d) := by
  unfold Dev.OnlyRails Dev.setStatus; simp
@[simp] theorem Dev.reach_frame (n : Nat) (d : Dev) : Dev.OnlyRegsRails d (Dev.reach n d) := by
  unfold Dev.OnlyRegsRails Dev.reach; simp
@[simp] theorem Dev.abortCmd_frame (n : Nat) (d : Dev) : Dev.OnlyRegsRails d (Dev.abortCmd n d) := by
  unfold Dev.OnlyRegsRails Dev.abortCmd; simp
@[simp] theorem Dev.holdCmd_frame (n : Nat) (d : Dev) : Dev.OnlyRails d (Dev.holdCmd n d) := by
  unfold Dev.OnlyRails Dev.holdCmd; simp
@[simp] theorem Dev.makeRecord_frame (rail : Option Nat) (cause : Nat) (entered : Nat) (retries : Nat) (d : Dev) :
    Dev.OnlyRegsProtEvt d (Dev.makeRecord rail cause entered retries d) := by
  unfold Dev.OnlyRegsProtEvt Dev.makeRecord; simp
@[simp] theorem Dev.hardStop_frame (n : Nat) (d : Dev) : Dev.OnlyRegsLanesStallsRails d (Dev.hardStop n d) := by
  unfold Dev.OnlyRegsLanesStallsRails Dev.hardStop; simp
@[simp] theorem Dev.crowbarFrame_frame (n : Nat) (sent : Nat) (inReg : Bool) (d : Dev) : Dev.OnlyRegsLanesStallsRails d
    (Dev.crowbarFrame n sent inReg d) := by
  unfold Dev.OnlyRegsLanesStallsRails Dev.crowbarFrame; simp
@[simp] theorem Dev.beginCrowbar_frame (n : Nat) (inReg : Bool) (d : Dev) : Dev.OnlyRegsLanesStallsRails d
    (Dev.beginCrowbar n inReg d) := by
  unfold Dev.OnlyRegsLanesStallsRails Dev.beginCrowbar; simp
@[simp] theorem Dev.oweStops_frame (n : Nat) (d : Dev) : Dev.OnlyStalls d (Dev.oweStops n d) := by
  unfold Dev.OnlyStalls Dev.oweStops; simp
@[simp] theorem Dev.quitRun_frame (n : Nat) (d : Dev) : Dev.Frame2 d (Dev.quitRun n d) := by
  unfold Dev.Frame2 Dev.quitRun; simp
@[simp] theorem Dev.logOff_frame (n : Nat) (cs : List Nat) (d : Dev) : Dev.OnlyRegsRailsProtEvtMgmt d (Dev.logOff n cs d)
    := by
  unfold Dev.OnlyRegsRailsProtEvtMgmt Dev.logOff; simp
@[simp] theorem Dev.enterLatched_frame (n : Nat) (cause : Nat) (d : Dev) : Dev.OnlyRegsRails d (Dev.enterLatched n cause
    d) := by
  unfold Dev.OnlyRegsRails Dev.enterLatched; simp
@[simp] theorem Dev.enterHiccup_frame (n : Nat) (cause : Nat) (retries : Nat) (d : Dev) : Dev.OnlyRegsRails d
    (Dev.enterHiccup n cause retries d) := by
  unfold Dev.OnlyRegsRails Dev.enterHiccup; simp
@[simp] theorem Dev.enterOff_frame (n : Nat) (d : Dev) : Dev.Frame1 d (Dev.enterOff n d) := by
  unfold Dev.Frame1 Dev.enterOff; simp
@[simp] theorem Dev.beginStop_frame (n : Nat) (cause : Nat) (coast : Bool) (d : Dev) : Dev.Frame3 d (Dev.beginStop n
    cause coast d) := by
  unfold Dev.Frame3 Dev.beginStop; simp
@[simp] theorem Dev.turnOff_frame (n : Nat) (cs : List Nat) (ext : Bool) (d : Dev) : Dev.Frame3 d (Dev.turnOff n cs ext
    d) := by
  unfold Dev.Frame3 Dev.turnOff; simp
@[simp] theorem Dev.findCauses_frame (n : Nat) (cs : List Nat) (ext : Bool) (d : Dev) : Dev.Frame3 d (Dev.findCauses n cs
    ext d) := by
  unfold Dev.Frame3 Dev.findCauses; (repeat' split) <;> simp
@[simp] theorem Dev.turnOffFor_frame (n : Nat) (cs : List Nat) (d : Dev) : Dev.Frame3 d (Dev.turnOffFor n cs d) := by
  unfold Dev.Frame3 Dev.turnOffFor; dsimp only; (repeat' split) <;> simp
@[simp] theorem Dev.turnOffNow_frame (n : Nat) (d : Dev) : Dev.Frame3 d (Dev.turnOffNow n d) := by
  unfold Dev.Frame3 Dev.turnOffNow; simp
@[simp] theorem Dev.protectFirst_frame (n : Nat) (d : Dev) : Dev.Frame3 d (Dev.protectFirst n d) := by
  unfold Dev.Frame3 Dev.protectFirst; simp
@[simp] theorem Dev.stopAll_frame (d : Dev) : Dev.Frame3 d (Dev.stopAll d) := by
  unfold Dev.Frame3 Dev.stopAll; simp
@[simp] theorem Dev.stopRail_frame (n : Nat) (cause : Nat) (coast : Bool) (d : Dev) : Dev.Frame3 d (Dev.stopRail n cause
    coast d) := by
  unfold Dev.Frame3 Dev.stopRail; simp
@[simp] theorem Dev.checkShort_frame (n : Nat) (d : Dev) : Dev.Frame3 d (Dev.checkShort n d) := by
  unfold Dev.Frame3 Dev.checkShort; simp
@[simp] theorem Dev.failStall_frame (s : Nat) (cause : Nat) (d : Dev) : Dev.Frame3 d (Dev.failStall s cause d) := by
  unfold Dev.Frame3 Dev.failStall; (repeat' split) <;> simp
@[simp] theorem Dev.judgeTrack_frame (n : Nat) (d : Dev) : Dev.OnlyRegsRailsEvt d (Dev.judgeTrack n d) := by
  unfold Dev.OnlyRegsRailsEvt Dev.judgeTrack; simp
@[simp] theorem Dev.enterProbe_frame (n : Nat) (d : Dev) : Dev.OnlyRegsLanesStallsRails d (Dev.enterProbe n d) := by
  unfold Dev.OnlyRegsLanesStallsRails Dev.enterProbe; simp
@[simp] theorem Dev.leaveOff_frame (n : Nat) (d : Dev) : Dev.OnlyRegsLanesStallsRailsEvt d (Dev.leaveOff n d) := by
  unfold Dev.OnlyRegsLanesStallsRailsEvt Dev.leaveOff; simp
@[simp] theorem Dev.pumpRail_frame (n : Nat) (d : Dev) : Dev.OnlyRegsLanesStallsRailsEvt d (Dev.pumpRail n d) := by
  unfold Dev.OnlyRegsLanesStallsRailsEvt Dev.pumpRail; simp
@[simp] theorem Dev.pump_frame (d : Dev) : Dev.OnlyRegsLanesStallsRailsEvt d (Dev.pump d) := by
  unfold Dev.OnlyRegsLanesStallsRailsEvt Dev.pump; simp
@[simp] theorem Dev.startMany_frame (ns : List Nat) (d : Dev) : Dev.OnlyRegsLanesStallsRailsEvt d (Dev.startMany ns d) :=
    by
  unfold Dev.OnlyRegsLanesStallsRailsEvt Dev.startMany; simp
@[simp] theorem Dev.stopMany_frame (ns : List Nat) (cause : Nat) (coast : Nat → Bool) (d : Dev) : Dev.Frame3 d
    (Dev.stopMany ns cause coast d) := by
  unfold Dev.Frame3 Dev.stopMany; simp
@[simp] theorem Dev.disableRail_frame (n : Nat) (coast : Bool) (d : Dev) : Dev.Frame3 d (Dev.disableRail n coast d) := by
  unfold Dev.Frame3 Dev.disableRail; dsimp only; (repeat' split) <;> simp
@[simp] theorem Dev.clearWarn_frame (n : Nat) (d : Dev) : Dev.OnlyRails d (Dev.clearWarn n d) := by
  unfold Dev.OnlyRails Dev.clearWarn; simp
@[simp] theorem Dev.endWarn_frame (n : Nat) (hit : Bool) (d : Dev) : Dev.OnlyRegsRails d (Dev.endWarn n hit d) := by
  unfold Dev.OnlyRegsRails Dev.endWarn; simp
@[simp] theorem Dev.setDest_frame (n : Nat) (code : Nat) (cls : Nat) (seq : Nat) (src : Nat) (notify : Bool) (d : Dev) :
    Dev.Frame3 d (Dev.setDest n code cls seq src notify d) := by
  unfold Dev.Frame3 Dev.setDest; simp
@[simp] theorem Dev.afterBoundary_frame (d : Dev) (n : Nat) (cs : List Change) : Dev.Frame1 d (Dev.afterBoundary d n cs)
    := by
  unfold Dev.Frame1 Dev.afterBoundary; simp
@[simp] theorem Dev.viewAt_frame (d : Dev) (n : Nat) (start : Nat) : Dev.Frame1 d (Dev.viewAt d n start) := by
  unfold Dev.Frame1 Dev.viewAt; (repeat' split) <;> simp
@[simp] theorem Dev.buildEdge_frame (n : Nat) (s : Nat) (start : Nat) (d : Dev) : Dev.Frame1 d (Dev.buildEdge n s start
    d) := by
  unfold Dev.Frame1 Dev.buildEdge; dsimp only; (repeat' split) <;> simp
@[simp] theorem Dev.untaper_frame (n : Nat) (s : Nat) (d : Dev) : Dev.OnlyLanesStalls d (Dev.untaper n s d) := by
  unfold Dev.OnlyLanesStalls Dev.untaper; dsimp only; (repeat' split) <;> simp
@[simp] theorem Dev.recall_frame (n : Nat) (d : Dev) : Dev.OnlyRegsSysLanesStallsYards d (Dev.recall n d) := by
  unfold Dev.OnlyRegsSysLanesStallsYards Dev.recall; simp
@[simp] theorem Dev.commitTrims_frame (j : BalJob) (d : Dev) : Dev.OnlyStalls d (Dev.commitTrims j d) := by
  unfold Dev.OnlyStalls Dev.commitTrims; simp
@[simp] theorem Dev.checkWorn_frame (s : Nat) (d : Dev) : Dev.Frame1 d (Dev.checkWorn s d) := by
  unfold Dev.Frame1 Dev.checkWorn; (repeat' split) <;> simp
@[simp] theorem Dev.flushStall_frame (s : Nat) (d : Dev) : Dev.OnlyStallsLoft d (Dev.flushStall s d) := by
  unfold Dev.OnlyStallsLoft Dev.flushStall; simp
@[simp] theorem Dev.flushStalls_frame (d : Dev) : Dev.OnlyStallsLoft d (Dev.flushStalls d) := by
  unfold Dev.OnlyStallsLoft Dev.flushStalls; simp
@[simp] theorem Dev.checkStalls_frame (d : Dev) : Dev.Frame1 d (Dev.checkStalls d) := by
  unfold Dev.Frame1 Dev.checkStalls; simp
@[simp] theorem Dev.flushWear_frame (d : Dev) : Dev.Frame4 d (Dev.flushWear d) := by
  unfold Dev.Frame4 Dev.flushWear; simp
@[simp] theorem Dev.judgeSample_frame (n : Nat) (d : Dev) : Dev.Frame5 d (Dev.judgeSample n d) := by
  unfold Dev.Frame5 Dev.judgeSample; simp
@[simp] theorem Dev.movePg_frame (n : Nat) (d : Dev) : Dev.OnlyRails d (Dev.movePg n d) := by
  unfold Dev.OnlyRails Dev.movePg; simp
@[simp] theorem Dev.enterReg_frame (n : Nat) (d : Dev) : Dev.OnlyRegsRails d (Dev.enterReg n d) := by
  unfold Dev.OnlyRegsRails Dev.enterReg; simp
@[simp] theorem Dev.handOver_frame (n : Nat) (d : Dev) : Dev.Frame6 d (Dev.handOver n d) := by
  unfold Dev.Frame6 Dev.handOver; simp
@[simp] theorem Dev.commitLaw_frame (n : Nat) (j : LawJob) (x : LawResult) (d : Dev) : Dev.Frame7 d (Dev.commitLaw n j x
    d) := by
  unfold Dev.Frame7 Dev.commitLaw; simp
@[simp] theorem Dev.discardLaw_frame (n : Nat) (j : LawJob) (d : Dev) : Dev.OnlyRegsYardsLawsLawUnitsEvt d
    (Dev.discardLaw n j d) := by
  unfold Dev.OnlyRegsYardsLawsLawUnitsEvt Dev.discardLaw; simp
@[simp] theorem Dev.closeJob_frame (n : Nat) (d : Dev) : Dev.Frame8 d (Dev.closeJob n d) := by
  unfold Dev.Frame8 Dev.closeJob; (repeat' split) <;> simp
@[simp] theorem Dev.takeSample_frame (n : Nat) (d : Dev) : Dev.OnlyRegsRails d (Dev.takeSample n d) := by
  unfold Dev.OnlyRegsRails Dev.takeSample; simp
@[simp] theorem Dev.takeHint_frame (n : Nat) (d : Dev) : Dev.OnlyRails d (Dev.takeHint n d) := by
  unfold Dev.OnlyRails Dev.takeHint; (repeat' split) <;> simp
@[simp] theorem Dev.moveTo_frame (n : Nat) (dest : Nat) (inc : Nat) (stretched : Bool) (d : Dev) : Dev.OnlyRegsRails d
    (Dev.moveTo n dest inc stretched d) := by
  unfold Dev.OnlyRegsRails Dev.moveTo; simp
@[simp] theorem Dev.followUp_frame (n : Nat) (track : Nat) (d : Dev) : Dev.OnlyRails d (Dev.followUp n track d) := by
  unfold Dev.OnlyRails Dev.followUp; dsimp only; (repeat' split) <;> simp
@[simp] theorem Dev.rampDown_frame (n : Nat) (d : Dev) : Dev.Frame1 d (Dev.rampDown n d) := by
  unfold Dev.Frame1 Dev.rampDown; dsimp only; (repeat' split) <;> simp
@[simp] theorem Dev.coastDown_frame (n : Nat) (d : Dev) : Dev.Frame1 d (Dev.coastDown n d) := by
  unfold Dev.Frame1 Dev.coastDown; simp
@[simp] theorem Dev.rampStep_frame (n : Nat) (track : Nat) (d : Dev) : Dev.Frame1 d (Dev.rampStep n track d) := by
  unfold Dev.Frame1 Dev.rampStep; dsimp only; (repeat' split) <;> simp
@[simp] theorem Dev.warnStep_frame (n : Nat) (d : Dev) : Dev.OnlyRegsRails d (Dev.warnStep n d) := by
  unfold Dev.OnlyRegsRails Dev.warnStep; (repeat' split) <;> simp
@[simp] theorem Dev.offStep_frame (n : Nat) (d : Dev) : Dev.Frame5 d (Dev.offStep n d) := by
  unfold Dev.Frame5 Dev.offStep; simp
@[simp] theorem Dev.setThresholds_frame (n : Nat) (d : Dev) : Dev.OnlyRails d (Dev.setThresholds n d) := by
  unfold Dev.OnlyRails Dev.setThresholds; simp
@[simp] theorem Dev.addStalls_frame (n : Nat) (d : Dev) : Dev.OnlyRegsStallsYards d (Dev.addStalls n d) := by
  unfold Dev.OnlyRegsStallsYards Dev.addStalls; simp
@[simp] theorem Dev.shedStalls_frame (n : Nat) (d : Dev) : Dev.OnlyRegsSysStallsYards d (Dev.shedStalls n d) := by
  unfold Dev.OnlyRegsSysStallsYards Dev.shedStalls; simp
@[simp] theorem Dev.queueLaw_frame (n : Nat) (ec : Int) (satErr : Bool) (entering : Bool) (d : Dev) : Dev.Frame9 d
    (Dev.queueLaw n ec satErr entering d) := by
  unfold Dev.Frame9 Dev.queueLaw; simp
@[simp] theorem Dev.queueBalance_frame (n : Nat) (d : Dev) : Dev.OnlyRegsStallsYardsBalsBalUnitsEvt d (Dev.queueBalance n
    d) := by
  unfold Dev.OnlyRegsStallsYardsBalsBalUnitsEvt Dev.queueBalance; (repeat' split) <;> simp
@[simp] theorem Dev.sendPair_frame (m : PairMsg) (d : Dev) : Dev.OnlyPair d (Dev.sendPair m d) := by
  unfold Dev.OnlyPair Dev.sendPair; simp
@[simp] theorem Dev.commitRail_frame (n : Nat) (d : Dev) : Dev.OnlyRegsPair d (Dev.commitRail n d) := by
  unfold Dev.OnlyRegsPair Dev.commitRail; simp
@[simp] theorem Dev.standbySample_frame (n : Nat) (d : Dev) : Dev.OnlyRails d (Dev.standbySample n d) := by
  unfold Dev.OnlyRails Dev.standbySample; simp
@[simp] theorem Dev.judgeLaw_frame (u : Nat) (n : Nat) (e : Nat) (star : Bool) (d : Dev) : Dev.OnlyRegsYardsLawUnitsEvt d
    (Dev.judgeLaw u n e star d) := by
  unfold Dev.OnlyRegsYardsLawUnitsEvt Dev.judgeLaw; simp
@[simp] theorem Dev.takeDly_frame (old : Nat) (d : Dev) : Dev.OnlyTb d (Dev.takeDly old d) := by
  unfold Dev.OnlyTb Dev.takeDly; simp
@[simp] theorem Dev.takeStart_frame (fs : List (Nat × Nat)) (d : Dev) : Dev.OnlyRegsSysTb d (Dev.takeStart fs d) := by
  unfold Dev.OnlyRegsSysTb Dev.takeStart; simp
@[simp] theorem Dev.enterRamp_frame (n : Nat) (d : Dev) : Dev.OnlySysStallsYardsLawsRails d (Dev.enterRamp n d) := by
  unfold Dev.OnlySysStallsYardsLawsRails Dev.enterRamp; simp
@[simp] theorem Dev.foundCode_frame (n : Nat) (code : Nat) (d : Dev) : Dev.OnlyRails d (Dev.foundCode n code d) := by
  unfold Dev.OnlyRails Dev.foundCode; simp
@[simp] theorem Dev.beginWarmRail_frame (n : Nat) (d : Dev) : Dev.OnlyRegsSysTbRailsEvt d (Dev.beginWarmRail n d) := by
  unfold Dev.OnlyRegsSysTbRailsEvt Dev.beginWarmRail; simp
@[simp] theorem Dev.warmRail_frame (n : Nat) (d : Dev) : Dev.Frame1 d (Dev.warmRail n d) := by
  unfold Dev.Frame1 Dev.warmRail; simp
@[simp] theorem Dev.retrainParked_frame (d : Dev) : Dev.OnlyLanes d (Dev.retrainParked d) := by
  unfold Dev.OnlyLanes Dev.retrainParked; simp
@[simp] theorem Dev.wake_frame (bit : Nat) (d : Dev) : Dev.OnlyRegsSysLanes d (Dev.wake bit d) := by
  unfold Dev.OnlyRegsSysLanes Dev.wake; simp
@[simp] theorem Dev.setLive_frame (a : Nat) (hi : Nat) (lo : Nat) (v : Nat) (d : Dev) : Dev.OnlyRegs d (Dev.setLive a hi
    lo v d) := by
  unfold Dev.OnlyRegs Dev.setLive; simp
@[simp] theorem Dev.onPort_frame (k : Nat) (f : Port → Port) (d : Dev) : Dev.OnlyPorts d (Dev.onPort k f d) := by
  unfold Dev.OnlyPorts Dev.onPort; simp
@[simp] theorem Dev.respond_frame (k : Nat) (seq : Nat) (status : Nat) (data : Nat) (d : Dev) : Dev.OnlyPorts d
    (Dev.respond k seq status data d) := by
  unfold Dev.OnlyPorts Dev.respond; simp
@[simp] theorem Dev.actSetv_frame (k : Nat) (n : Nat) (seq : Nat) (code : Nat) (cls : Nat) (notify : Bool) (d : Dev) :
    Dev.Frame10 d (Dev.actSetv k n seq code cls notify d) := by
  unfold Dev.Frame10 Dev.actSetv; simp
@[simp] theorem Dev.actStep_frame (n : Nat) (lead : Nat) (dir : Nat) (cls : Nat) (d : Dev) : Dev.Frame11 d (Dev.actStep n
    lead dir cls d) := by
  unfold Dev.Frame11 Dev.actStep; dsimp only; (repeat' split) <;> simp
@[simp] theorem Dev.onComp_frame (i : Nat) (f : Comparator → Comparator) (d : Dev) : Dev.OnlyProt d (Dev.onComp i f d) :=
    by
  unfold Dev.OnlyProt Dev.onComp; simp
@[simp] theorem Dev.recordWave_frame (n : Nat) (w : Nat) (d : Dev) : Dev.OnlyProt d (Dev.recordWave n w d) := by
  unfold Dev.OnlyProt Dev.recordWave; simp
@[simp] theorem Dev.accumulate_frame (n : Nat) (c : Int) (d : Dev) : Dev.OnlyRegsRails d (Dev.accumulate n c d) := by
  unfold Dev.OnlyRegsRails Dev.accumulate; simp
@[simp] theorem Dev.sendBurst_frame (n : Nat) (set : List Nat) (d : Dev) : Dev.OnlyRegsLanesStallsRails d (Dev.sendBurst
    n set d).2 := by
  unfold Dev.OnlyRegsLanesStallsRails Dev.sendBurst; simp
@[simp] theorem Dev.sendEpCut_frame (n : Nat) (set : List Nat) (d : Dev) : Dev.OnlyRegsLanesStallsRails d (Dev.sendEpCut
    n set d).2 := by
  unfold Dev.OnlyRegsLanesStallsRails Dev.sendEpCut; simp
@[simp] theorem Dev.sendEpisode_frame (n : Nat) (cut : Bool) (set : List Nat) (d : Dev) : Dev.OnlyRegsLanesStallsRails d
    (Dev.sendEpisode n cut set d) := by
  unfold Dev.OnlyRegsLanesStallsRails Dev.sendEpisode; (repeat' split) <;> simp
@[simp] theorem Dev.voidHandBack_frame (n : Nat) (d : Dev) : Dev.OnlyLaws d (Dev.voidHandBack n d) := by
  unfold Dev.OnlyLaws Dev.voidHandBack; simp
@[simp] theorem Dev.episodeInReg_frame (n : Nat) (cut : Bool) (d : Dev) : Dev.Frame12 d (Dev.episodeInReg n cut d) := by
  unfold Dev.Frame12 Dev.episodeInReg; dsimp only; (repeat' split) <;> simp
@[simp] theorem Dev.startEpisode_frame (n : Nat) (cut : Bool) (d : Dev) : Dev.Frame12 d (Dev.startEpisode n cut d) := by
  unfold Dev.Frame12 Dev.startEpisode; simp
@[simp] theorem Dev.ceilingCut_frame (n : Nat) (d : Dev) : Dev.OnlyRegsLanesStallsRails d (Dev.ceilingCut n d) := by
  unfold Dev.OnlyRegsLanesStallsRails Dev.ceilingCut; (repeat' split) <;> simp
@[simp] theorem Dev.moveCeiling_frame (d : Dev) : Dev.OnlyRegsLanesStallsRailsRetEvt d (Dev.moveCeiling d) := by
  unfold Dev.OnlyRegsLanesStallsRailsRetEvt Dev.moveCeiling; simp (disch := (intros; (repeat' split) <;> simp))
@[simp] theorem Dev.ringCurrents_frame (d : Dev) : Dev.OnlyRailsProt d (Dev.ringCurrents d) := by
  unfold Dev.OnlyRailsProt Dev.ringCurrents; simp
@[simp] theorem Dev.captureEdge_frame (src : Nat) (level : Bool) (d : Dev) : Dev.OnlyRegsProt d (Dev.captureEdge src
    level d) := by
  unfold Dev.OnlyRegsProt Dev.captureEdge; simp
@[simp] theorem Dev.readCapl_frame (d : Dev) : Dev.OnlyRegsProt d (Dev.readCapl d).2 := by
  unfold Dev.OnlyRegsProt Dev.readCapl; simp
@[simp] theorem Dev.actCauses_frame (n : Nat) (d : Dev) : Dev.Frame3 d (Dev.actCauses n d) := by
  unfold Dev.Frame3 Dev.actCauses; simp
@[simp] theorem Dev.popRecord_frame (d : Dev) : Dev.OnlyProt d (Dev.popRecord d) := by
  unfold Dev.OnlyProt Dev.popRecord; simp
@[simp] theorem Dev.settleSeq_frame (d : Dev) : Dev.OnlyProt d (Dev.settleSeq d) := by
  unfold Dev.OnlyProt Dev.settleSeq; simp
@[simp] theorem Dev.scanSlots_frame (m : Memory) (d : Dev) : Dev.OnlyRegsProtLoft d (Dev.scanSlots m d) := by
  unfold Dev.OnlyRegsProtLoft Dev.scanSlots; simp
@[simp] theorem Dev.beginAttempt_frame (l : Nat) (k : Nat) (d : Dev) : Dev.OnlyRegsLanes d (Dev.beginAttempt l k d) := by
  unfold Dev.OnlyRegsLanes Dev.beginAttempt; simp
@[simp] theorem Dev.trainLane_frame (l : Nat) (d : Dev) : Dev.OnlyRegsLanes d (Dev.trainLane l d) := by
  unfold Dev.OnlyRegsLanes Dev.trainLane; simp
@[simp] theorem Dev.retrainLane_frame (l : Nat) (d : Dev) : Dev.OnlyRegsLanesStallsYardsEvt d (Dev.retrainLane l d) := by
  unfold Dev.OnlyRegsLanesStallsYardsEvt Dev.retrainLane; simp
@[simp] theorem Dev.afterLoss_frame (d : Dev) : Dev.Frame3 d (Dev.afterLoss d) := by
  unfold Dev.Frame3 Dev.afterLoss; simp
@[simp] theorem Dev.downLane_frame (l : Nat) (d : Dev) : Dev.Frame3 d (Dev.downLane l d) := by
  unfold Dev.Frame3 Dev.downLane; simp
@[simp] theorem Dev.failAttempt_frame (l : Nat) (d : Dev) : Dev.Frame3 d (Dev.failAttempt l d) := by
  unfold Dev.Frame3 Dev.failAttempt; dsimp only; (repeat' split) <;> simp
@[simp] theorem Dev.askCensus_frame (l : Nat) (d : Dev) : Dev.OnlyRegsLanesStallsRails d (Dev.askCensus l d) := by
  unfold Dev.OnlyRegsLanesStallsRails Dev.askCensus; simp
@[simp] theorem Dev.sendClaim_frame (l : Nat) (d : Dev) : Dev.OnlyRegsLanesStallsRails d (Dev.sendClaim l d) := by
  unfold Dev.OnlyRegsLanesStallsRails Dev.sendClaim; simp
@[simp] theorem Dev.noteOffsets_frame (l : Nat) (d : Dev) : Dev.OnlyPair d (Dev.noteOffsets l d) := by
  unfold Dev.OnlyPair Dev.noteOffsets; simp
@[simp] theorem Dev.sendParams_frame (l : Nat) (d : Dev) : Dev.OnlyRegsLanesStallsRailsPair d (Dev.sendParams l d) := by
  unfold Dev.OnlyRegsLanesStallsRailsPair Dev.sendParams; simp
@[simp] theorem Dev.endParams_frame (l : Nat) (d : Dev) : Dev.OnlyRegsLanesStallsRailsPair d (Dev.endParams l d) := by
  unfold Dev.OnlyRegsLanesStallsRailsPair Dev.endParams; simp
@[simp] theorem Dev.offerBack_frame (l : Nat) (d : Dev) : Dev.OnlyRegsLanesStallsRails d (Dev.offerBack l d) := by
  unfold Dev.OnlyRegsLanesStallsRails Dev.offerBack; simp
@[simp] theorem Dev.laneTrained_frame (l : Nat) (d : Dev) : Dev.OnlyRegsLanesStallsRailsEvt d (Dev.laneTrained l d) := by
  unfold Dev.OnlyRegsLanesStallsRailsEvt Dev.laneTrained; simp
@[simp] theorem Dev.toStep_frame (k : Nat) (d : Dev) : Dev.OnlySys d (Dev.toStep k d) := by
  unfold Dev.OnlySys Dev.toStep; simp
@[simp] theorem Dev.enterStep6_frame (d : Dev) : Dev.OnlyRegsSysLanes d (Dev.enterStep6 d) := by
  unfold Dev.OnlyRegsSysLanes Dev.enterStep6; simp
@[simp] theorem Dev.warmRole_frame (d : Dev) : Dev.OnlyPair d (Dev.warmRole d) := by
  unfold Dev.OnlyPair Dev.warmRole; simp
@[simp] theorem Dev.endStep2_frame (d : Dev) : Dev.OnlyRegsSysLanesEvtAccPair d (Dev.endStep2 d) := by
  unfold Dev.OnlyRegsSysLanesEvtAccPair Dev.endStep2; simp
@[simp] theorem Dev.tryStep1_frame (d : Dev) : Dev.Frame13 d (Dev.tryStep1 d) := by
  unfold Dev.Frame13 Dev.tryStep1; simp
@[simp] theorem Dev.dropMirror_frame (d : Dev) : Dev.OnlyRegsRails d (Dev.dropMirror d) := by
  unfold Dev.OnlyRegsRails Dev.dropMirror; simp
@[simp] theorem Dev.warmStart_frame (kind : Nat) (d : Dev) : Dev.KeepsPinsPortsHsw d (Dev.warmStart kind d) := by
  unfold Dev.KeepsPinsPortsHsw Dev.warmStart; simp
@[simp] theorem Dev.backToStep1_frame (d : Dev) : Dev.Frame13 d (Dev.backToStep1 d) := by
  unfold Dev.Frame13 Dev.backToStep1; simp
@[simp] theorem Dev.enterHalt_frame (step : Nat) (d : Dev) : Dev.OnlyRegsSysProtEvt d (Dev.enterHalt step d) := by
  unfold Dev.OnlyRegsSysProtEvt Dev.enterHalt; simp
@[simp] theorem Dev.leaveForInput_frame (d : Dev) : Dev.KeepsPinsPortsHsw d (Dev.leaveForInput d) := by
  unfold Dev.KeepsPinsPortsHsw Dev.leaveForInput; (repeat' split) <;> simp
@[simp] theorem Dev.overTempWarn_frame (s : Nat) (temp : Nat) (d : Dev) : Dev.OnlyRegsEvtMgmt d (Dev.overTempWarn s temp
    d) := by
  unfold Dev.OnlyRegsEvtMgmt Dev.overTempWarn; dsimp only; (repeat' split) <;> simp
@[simp] theorem Dev.takeTelem_frame (s : Nat) (b : Body) (d : Dev) : Dev.OnlyRegsStallsEvtAccMgmt d (Dev.takeTelem s b d)
    := by
  unfold Dev.OnlyRegsStallsEvtAccMgmt Dev.takeTelem; simp
@[simp] theorem Dev.settleAsk_frame (l : Nat) (a : Ask) (d : Dev) : Dev.OnlyLanes d (Dev.settleAsk l a d) := by
  unfold Dev.OnlyLanes Dev.settleAsk; simp
@[simp] theorem Dev.returnStall_frame (s : Nat) (d : Dev) : Dev.Frame1 d (Dev.returnStall s d) := by
  unfold Dev.Frame1 Dev.returnStall; (repeat' split) <;> simp
@[simp] theorem Dev.probePassed_frame (s : Nat) (kind : Nat) (vsw : Nat) (d : Dev) : Dev.Frame3 d (Dev.probePassed s kind
    vsw d) := by
  unfold Dev.Frame3 Dev.probePassed; dsimp only; (repeat' split) <;> simp
@[simp] theorem Dev.probeLost_frame (s : Nat) (kind : Nat) (d : Dev) : Dev.Frame3 d (Dev.probeLost s kind d) := by
  unfold Dev.Frame3 Dev.probeLost; simp
@[simp] theorem Dev.loseAuthority_frame (d : Dev) : Dev.KeepsPinsPortsHsw d (Dev.loseAuthority d) := by
  unfold Dev.KeepsPinsPortsHsw Dev.loseAuthority; simp
@[simp] theorem Dev.windowOver_frame (l : Nat) (a : Ask) (d : Dev) : Dev.KeepsPinsPortsHsw d (Dev.windowOver l a d) := by
  unfold Dev.KeepsPinsPortsHsw Dev.windowOver; (repeat' split) <;> simp
@[simp] theorem Dev.takeFaults_frame (s : Nat) (faults : Nat) (seg : Nat) (d : Dev) : Dev.Frame3 d (Dev.takeFaults s
    faults seg d) := by
  unfold Dev.Frame3 Dev.takeFaults; dsimp only; (repeat' split) <;> simp
@[simp] theorem Dev.lameLane_frame (l : Nat) (d : Dev) : Dev.Frame3 d (Dev.lameLane l d) := by
  unfold Dev.Frame3 Dev.lameLane; simp
@[simp] theorem Dev.noteHold_frame (l : Nat) (ok : Bool) (d : Dev) : Dev.Frame3 d (Dev.noteHold l ok d) := by
  unfold Dev.Frame3 Dev.noteHold; simp
@[simp] theorem Dev.endTraining_frame (l : Nat) (d : Dev) : Dev.Frame3 d (Dev.endTraining l d) := by
  unfold Dev.Frame3 Dev.endTraining; simp
@[simp] theorem Dev.nextPhase_frame (l : Nat) (marks : List Nat) (d : Dev) : Dev.Frame3 d (Dev.nextPhase l marks d) := by
  unfold Dev.Frame3 Dev.nextPhase; dsimp only; (repeat' split) <;> simp
@[simp] theorem Dev.onHsw_frame (f : Hsw → Hsw) (d : Dev) : Dev.OnlyHsw d (Dev.onHsw f d) := by
  unfold Dev.OnlyHsw Dev.onHsw; simp
@[simp] theorem Dev.setStop_frame (d : Dev) : Dev.OnlyHsw d (Dev.setStop d) := by
  unfold Dev.OnlyHsw Dev.setStop; simp
@[simp] theorem Dev.writeInput_frame (r : Nat) (d : Dev) : Dev.OnlyRegsHswLoftEvt d (Dev.writeInput r d) := by
  unfold Dev.OnlyRegsHswLoftEvt Dev.writeInput; simp
@[simp] theorem Dev.checkInput_frame (d : Dev) : Dev.Frame14 d (Dev.checkInput d) := by
  unfold Dev.Frame14 Dev.checkInput; simp
@[simp] theorem Dev.arm_frame (d : Dev) : Dev.OnlyRegsHswLoftEvt d (Dev.arm d) := by
  unfold Dev.OnlyRegsHswLoftEvt Dev.arm; simp
@[simp] theorem Dev.gateOff_frame (d : Dev) : Dev.OnlyHsw d (Dev.gateOff d) := by
  unfold Dev.OnlyHsw Dev.gateOff; simp
@[simp] theorem Dev.enterWait_frame (from_ : Nat) (d : Dev) : Dev.OnlyRegsHswLoftEvt d (Dev.enterWait from_ d) := by
  unfold Dev.OnlyRegsHswLoftEvt Dev.enterWait; simp
@[simp] theorem Dev.latchPath_frame (d : Dev) : Dev.OnlyRegsHswLoftEvt d (Dev.latchPath d) := by
  unfold Dev.OnlyRegsHswLoftEvt Dev.latchPath; simp
@[simp] theorem Dev.raiseTrip_frame (d : Dev) : Dev.OnlyRegsEvt d (Dev.raiseTrip d) := by
  unfold Dev.OnlyRegsEvt Dev.raiseTrip; simp
@[simp] theorem Dev.retryTrip_frame (d : Dev) : Dev.OnlyRegsHswLoftEvt d (Dev.retryTrip d) := by
  unfold Dev.OnlyRegsHswLoftEvt Dev.retryTrip Dev.afterTrip; dsimp only; (repeat' split) <;> simp
@[simp] theorem Dev.trip_frame (cause : Nat) (d : Dev) : Dev.Frame15 d (Dev.trip cause d) := by
  unfold Dev.Frame15 Dev.trip; simp
@[simp] theorem Dev.tripNow_frame (cause : Nat) (d : Dev) : Dev.Frame15 d (Dev.tripNow cause d) := by
  unfold Dev.Frame15 Dev.tripNow; simp
@[simp] theorem Dev.endStep8_frame (d : Dev) : Dev.OnlySys d (Dev.endStep8 d) := by
  unfold Dev.OnlySys Dev.endStep8; simp
@[simp] theorem Dev.enterOn_frame (d : Dev) : Dev.Frame16 d (Dev.enterOn d) := by
  unfold Dev.Frame16 Dev.enterOn; simp
@[simp] theorem Dev.enterBleed_frame (ext : Bool) (d : Dev) : Dev.OnlyRegsHsw d (Dev.enterBleed ext d) := by
  unfold Dev.OnlyRegsHsw Dev.enterBleed; simp
@[simp] theorem Dev.step8Waits_frame (d : Dev) : Dev.OnlySys d (Dev.step8Waits d) := by
  unfold Dev.OnlySys Dev.step8Waits; simp
@[simp] theorem Dev.step8Ramp_frame (m : Memory) (d : Dev) : Dev.OnlyRegsHswLoftEvt d (Dev.step8Ramp m d) := by
  unfold Dev.OnlyRegsHswLoftEvt Dev.step8Ramp; dsimp only; (repeat' split) <;> simp
@[simp] theorem Dev.hvReport_frame (d : Dev) : Dev.Frame16 d (Dev.hvReport d) := by
  unfold Dev.Frame16 Dev.hvReport; simp
@[simp] theorem Dev.enterStep8_frame (m : Memory) (d : Dev) : Dev.Frame16 d (Dev.enterStep8 m d) := by
  unfold Dev.Frame16 Dev.enterStep8; simp
@[simp] theorem Dev.endBleed_frame (m : Memory) (d : Dev) : Dev.Frame17 d (Dev.endBleed m d) := by
  unfold Dev.Frame17 Dev.endBleed; simp
@[simp] theorem Dev.sendLimits_frame (d : Dev) : Dev.OnlyHsw d (Dev.sendLimits d) := by
  unfold Dev.OnlyHsw Dev.sendLimits; simp
@[simp] theorem Dev.setLimit_frame (acting : Bool) (d : Dev) : Dev.OnlyRegsHsw d (Dev.setLimit acting d) := by
  unfold Dev.OnlyRegsHsw Dev.setLimit; simp
@[simp] theorem Dev.watchIbov_frame (d : Dev) : Dev.OnlyRegsHswEvt d (Dev.watchIbov d) := by
  unfold Dev.OnlyRegsHswEvt Dev.watchIbov; simp
@[simp] theorem Dev.decideGate_frame (d : Dev) : Dev.Frame15 d (Dev.decideGate d) := by
  unfold Dev.Frame15 Dev.decideGate; simp
@[simp] theorem Dev.startRamp_frame (d : Dev) : Dev.OnlyHsw d (Dev.startRamp d) := by
  unfold Dev.OnlyHsw Dev.startRamp; simp
@[simp] theorem Dev.extractOff_frame (d : Dev) : Dev.OnlyHsw d (Dev.extractOff d) := by
  unfold Dev.OnlyHsw Dev.extractOff; simp
@[simp] theorem Dev.ticksReturn_frame (d : Dev) : Dev.Frame16 d (Dev.ticksReturn d) := by
  unfold Dev.Frame16 Dev.ticksReturn; simp
@[simp] theorem Dev.clearLatch_frame (d : Dev) : Dev.OnlyRegsHswLoftEvt d (Dev.clearLatch d) := by
  unfold Dev.OnlyRegsHswLoftEvt Dev.clearLatch; simp
@[simp] theorem Dev.commandBleed_frame (d : Dev) : Dev.OnlyRegsHsw d (Dev.commandBleed d) := by
  unfold Dev.OnlyRegsHsw Dev.commandBleed; simp
@[simp] theorem Dev.inputFall_frame (d : Dev) : Dev.OnlyRegsHswLoftEvt d (Dev.inputFall d) := by
  unfold Dev.OnlyRegsHswLoftEvt Dev.inputFall; dsimp only; (repeat' split) <;> simp
@[simp] theorem Dev.onMeas_frame (f : Meas → Meas) (d : Dev) : Dev.OnlyMeas d (Dev.onMeas f d) := by
  unfold Dev.OnlyMeas Dev.onMeas; simp
@[simp] theorem Dev.hvSample_frame (vraw : Nat) (iraw : Int) (drop : Nat) (acting : Bool) (d : Dev) :
    Dev.OnlyRegsTbHsw d (Dev.hvSample vraw iraw drop acting d) := by
  unfold Dev.OnlyRegsTbHsw Dev.hvSample; simp
@[simp] theorem Dev.flushLife_frame (d : Dev) : Dev.OnlyHswLoft d (Dev.flushLife d) := by
  unfold Dev.OnlyHswLoft Dev.flushLife; simp
@[simp] theorem Dev.snapshot_frame (ts : Nat) (label : Nat) (d : Dev) : Dev.OnlyRegsMeas d (Dev.snapshot ts label d) := by
  unfold Dev.OnlyRegsMeas Dev.snapshot; simp
@[simp] theorem Dev.trigger_frame (te : Nat) (label : Option Nat) (d : Dev) : Dev.OnlyRegsMeas d (Dev.trigger te label d)
    := by
  unfold Dev.OnlyRegsMeas Dev.trigger; simp
@[simp] theorem Dev.queueEntry_frame (k : Nat) (e : Word) (d : Dev) : Dev.OnlyRegsMeas d (Dev.queueEntry k e d) := by
  unfold Dev.OnlyRegsMeas Dev.queueEntry; simp
@[simp] theorem Dev.onEvt_frame (f : Recorder → Recorder) (d : Dev) : Dev.OnlyEvt d (Dev.onEvt f d) := by
  unfold Dev.OnlyEvt Dev.onEvt; simp
@[simp] theorem Dev.noteSlots_frame (p : Nat) (n : Nat) (d : Dev) : Dev.OnlyRegsLoft d (Dev.noteSlots p n d) := by
  unfold Dev.OnlyRegsLoft Dev.noteSlots; simp
@[simp] theorem Dev.latchesWritten_frame (d : Dev) : Dev.OnlyRegsEvt d (Dev.latchesWritten d) := by
  unfold Dev.OnlyRegsEvt Dev.latchesWritten; simp
@[simp] theorem Dev.advanceHead_frame (always : Bool) (d : Dev) : Dev.OnlyLoftEvt d (Dev.advanceHead always d) := by
  unfold Dev.OnlyLoftEvt Dev.advanceHead; simp
@[simp] theorem Dev.recordDropped_frame (c : RecCur) (d : Dev) : Dev.OnlyRegsEvt d (Dev.recordDropped c d) := by
  unfold Dev.OnlyRegsEvt Dev.recordDropped; (repeat' split) <;> simp
@[simp] theorem Dev.raiseWriteFailed_frame (pos : Nat) (d : Dev) : Dev.OnlyRegsEvt d (Dev.raiseWriteFailed pos d) := by
  unfold Dev.OnlyRegsEvt Dev.raiseWriteFailed; simp
@[simp] theorem Dev.recordFailed_frame (c : RecCur) (d : Dev) : Dev.OnlyRegsLoftEvt d (Dev.recordFailed c d) := by
  unfold Dev.OnlyRegsLoftEvt Dev.recordFailed; (repeat' split) <;> simp
@[simp] theorem Dev.recordRefused_frame (d : Dev) : Dev.OnlyRegs d (Dev.recordRefused d) := by
  unfold Dev.OnlyRegs Dev.recordRefused; simp
@[simp] theorem Dev.recordEnded_frame (d : Dev) : Dev.OnlyRegsLoftEvt d (Dev.recordEnded d) := by
  unfold Dev.OnlyRegsLoftEvt Dev.recordEnded; (repeat' split) <;> simp
@[simp] theorem Dev.clearWritten_frame (pos : Nat) (d : Dev) : Dev.OnlyRegsLoftEvt d (Dev.clearWritten pos d) := by
  unfold Dev.OnlyRegsLoftEvt Dev.clearWritten; (repeat' split) <;> simp
@[simp] theorem Dev.settleRecord_frame (d : Dev) : Dev.OnlyRegsLoftEvt d (Dev.settleRecord d) := by
  unfold Dev.OnlyRegsLoftEvt Dev.settleRecord; (repeat' split) <;> simp
@[simp] theorem Dev.queueToLatches_frame (d : Dev) : Dev.OnlyRegsEvt d (Dev.queueToLatches d) := by
  unfold Dev.OnlyRegsEvt Dev.queueToLatches; simp
@[simp] theorem Dev.loftUnusable_frame (addr : Nat) (d : Dev) : Dev.OnlyRegsSysLoftEvt d (Dev.loftUnusable addr d) :=
    by
  unfold Dev.OnlyRegsSysLoftEvt Dev.loftUnusable; simp
@[simp] theorem Dev.startClear_frame (d : Dev) : Dev.OnlyEvt d (Dev.startClear d) := by
  unfold Dev.OnlyEvt Dev.startClear; simp
@[simp] theorem Dev.endClear_frame (code : Nat) (d : Dev) : Dev.OnlyEvt d (Dev.endClear code d) := by
  unfold Dev.OnlyEvt Dev.endClear; simp
@[simp] theorem Dev.setLive2_frame (a : Nat) (v : Word) (d : Dev) : Dev.OnlyRegs d (Dev.setLive2 a v d) := by
  unfold Dev.OnlyRegs Dev.setLive2; simp
@[simp] theorem Dev.latchRecord_frame (m : Memory) (d : Dev) : Dev.OnlyRegsLoftEvt d (Dev.latchRecord m d) := by
  unfold Dev.OnlyRegsLoftEvt Dev.latchRecord; simp
@[simp] theorem Dev.beginInstall_frame (dual : Bool) (d : Dev) : Dev.OnlyLoftAcc d (Dev.beginInstall dual d) := by
  unfold Dev.OnlyLoftAcc Dev.beginInstall; simp
@[simp] theorem Dev.bodyStep_frame (copyB : Bool) (off : Nat) (bytes : List Byte) (d : Dev) : Dev.OnlyLoft d
    (Dev.bodyStep copyB off bytes d) := by
  unfold Dev.OnlyLoft Dev.bodyStep; simp
@[simp] theorem Dev.flushBody_frame (d : Dev) : Dev.OnlyLoftAcc d (Dev.flushBody d) := by
  unfold Dev.OnlyLoftAcc Dev.flushBody; simp
@[simp] theorem Dev.streamWord_frame (w : Word) (d : Dev) : Dev.OnlyLoftAcc d (Dev.streamWord w d) := by
  unfold Dev.OnlyLoftAcc Dev.streamWord; simp
@[simp] theorem Dev.commitInstall_frame (d : Dev) : Dev.OnlyRegsLoftEvtAcc d (Dev.commitInstall d) := by
  unfold Dev.OnlyRegsLoftEvtAcc Dev.commitInstall; simp
@[simp] theorem Dev.beginSecond_frame (m : Memory) (d : Dev) : Dev.OnlyRegsLoftAcc d (Dev.beginSecond m d) := by
  unfold Dev.OnlyRegsLoftAcc Dev.beginSecond; simp
@[simp] theorem Dev.abortInstall_frame (d : Dev) : Dev.OnlyRegsLoftEvtAcc d (Dev.abortInstall d) := by
  unfold Dev.OnlyRegsLoftEvtAcc Dev.abortInstall; simp
@[simp] theorem Dev.rejectCert_frame (code : Nat) (d : Dev) : Dev.OnlyRegsEvtAcc d (Dev.rejectCert code d) := by
  unfold Dev.OnlyRegsEvtAcc Dev.rejectCert; simp
@[simp] theorem Dev.installCert_frame (d : Dev) : Dev.OnlyRegsLoftEvtAcc d (Dev.installCert d) := by
  unfold Dev.OnlyRegsLoftEvtAcc Dev.installCert; simp
@[simp] theorem Dev.certWritten_frame (p : Nat) (payload : List Byte) (ok : Bool) (d : Dev) : Dev.OnlyRegsHswEvtAcc d
    (Dev.certWritten p payload ok d) := by
  unfold Dev.OnlyRegsHswEvtAcc Dev.certWritten; simp
@[simp] theorem Dev.noteTableEnd_frame (d : Dev) : Dev.OnlyRegsEvt d (Dev.noteTableEnd d) := by
  unfold Dev.OnlyRegsEvt Dev.noteTableEnd; simp
@[simp] theorem Dev.takeRemap_frame (w : RemapWrite) (d : Dev) : Dev.OnlyRegsLoftEvt d (Dev.takeRemap w d) := by
  unfold Dev.OnlyRegsLoftEvt Dev.takeRemap; (repeat' split) <;> simp
@[simp] theorem Dev.noSpare_frame (p : Nat) (d : Dev) : Dev.OnlyRegsEvt d (Dev.noSpare p d) := by
  unfold Dev.OnlyRegsEvt Dev.noSpare; simp
@[simp] theorem Dev.beginRemap_frame (w : RemapWrite) (d : Dev) : Dev.OnlyRegsLoftEvt d (Dev.beginRemap w d).1 := by
  unfold Dev.OnlyRegsLoftEvt Dev.beginRemap; dsimp only; (repeat' split) <;> simp
@[simp] theorem Dev.countSpare_frame (bad1 : Bool) (d : Dev) : Dev.OnlyRegs d (Dev.countSpare bad1 d) := by
  unfold Dev.OnlyRegs Dev.countSpare; simp
@[simp] theorem Dev.markSpare_frame (d : Dev) : Dev.OnlyRegs d (Dev.markSpare d) := by
  unfold Dev.OnlyRegs Dev.markSpare; simp
theorem remapPage_frame (fail1 fail2 : List Nat) (p : Nat) (content : List Byte) (left : Nat × List Byte) (fuel : Nat)
    (table : List RemapEntry) (r : Memory × Dev) : Dev.OnlyRegsLoftEvt r.2 (remapPage fail1 fail2 p content left fuel table r).2.1 := by
  induction fuel generalizing table r with
  | zero => unfold Dev.OnlyRegsLoftEvt; exact (by simp [remapPage])
  | succ n ih =>
    rw [remapPage]
    generalize spareFree table = o
    cases o with
    | none => unfold Dev.OnlyRegsLoftEvt; simp [remapTry]
    | some i =>
      rw [remapTry]; split
      · have h := ih (⟨i, 0, 2⟩ :: table) (r.1, r.2.markSpare)
        unfold Dev.OnlyRegsLoftEvt at h ⊢; simpa using h
      · unfold Dev.OnlyRegsLoftEvt; simp
@[simp] theorem programPage_frame (fail1 fail2 : List Nat) (p a : Nat) (bs : List Byte) (left : Nat × List Byte) (m : Memory)
    (d : Dev) : Dev.OnlyRegsLoftEvt d (programPage fail1 fail2 p a bs left m d).2.1 := by
  unfold programPage; dsimp only; split
  · split
    · unfold Dev.OnlyRegsLoftEvt; simp
    · have h := remapPage_frame fail1 fail2 p (physBytes (m.wrs (d.loft.pageOf p * 512 + a % 512) bs)
        (d.loft.pageOf p * 512) 512) left 993 (withoutPage p d.loft.remap)
      unfold Dev.OnlyRegsLoftEvt at h ⊢; simp [h]
  · unfold Dev.OnlyRegsLoftEvt; simp
@[simp] theorem programPages_frame (fail1 fail2 : List Nat) (fuel a : Nat) (bs : List Byte) (m : Memory) (d : Dev) :
    Dev.OnlyRegsLoftEvt d (programPages fail1 fail2 fuel a bs m d).2.1 := by
  induction fuel generalizing a bs m d with
  | zero => unfold Dev.OnlyRegsLoftEvt; simp [programPages]
  | succ n ih =>
    unfold programPages; dsimp only; split
    · unfold Dev.OnlyRegsLoftEvt; simp
    · split
      · have h := ih (a + (512 - a % 512)) (bs.drop (512 - a % 512))
          (programPage fail1 fail2 (a / 512) a (bs.take (512 - a % 512)) (a + (512 - a % 512), bs.drop (512 - a % 512)) m d).1
          (programPage fail1 fail2 (a / 512) a (bs.take (512 - a % 512)) (a + (512 - a % 512), bs.drop (512 - a % 512)) m d).2.1
        have k := programPage_frame fail1 fail2 (a / 512) a (bs.take (512 - a % 512))
          (a + (512 - a % 512), bs.drop (512 - a % 512)) m d
        unfold Dev.OnlyRegsLoftEvt at h k ⊢; simp only [h, k, and_self]
      · exact programPage_frame _ _ _ _ _ _ _ _
@[simp] theorem Dev.inputWritten_frame (payload : List Byte) (ok : Bool) (d : Dev) : Dev.OnlyHsw d (Dev.inputWritten
    payload ok d) := by
  unfold Dev.OnlyHsw Dev.inputWritten; simp
@[simp] theorem Dev.lastFaultWritten_frame (d : Dev) : Dev.OnlyRegsProt d (Dev.lastFaultWritten d) := by
  unfold Dev.OnlyRegsProt Dev.lastFaultWritten; (repeat' split) <;> simp
@[simp] theorem Dev.lastFaultEnded_frame (e : LoftEnd) (d : Dev) : Dev.OnlyRegsProtEvt d (Dev.lastFaultEnded e d) := by
  unfold Dev.OnlyRegsProtEvt Dev.lastFaultEnded; (repeat' split) <;> simp
@[simp] theorem Dev.archiveEnded_frame (e : LoftEnd) (d : Dev) : Dev.OnlyRegsProtEvt d (Dev.archiveEnded e d) := by
  unfold Dev.OnlyRegsProtEvt Dev.archiveEnded; (repeat' split) <;> simp
@[simp] theorem Dev.serialsEnded_frame (ok : Bool) (d : Dev) : Dev.OnlyRegsLoftEvt d (Dev.serialsEnded ok d) := by
  unfold Dev.OnlyRegsLoftEvt Dev.serialsEnded; simp
@[simp] theorem Dev.histWritten_frame (d : Dev) : Dev.OnlyLoft d (Dev.histWritten d) := by
  unfold Dev.OnlyLoft Dev.histWritten; simp
@[simp] theorem Dev.installFailed_frame (d : Dev) : Dev.OnlyLoftAcc d (Dev.installFailed d) := by
  unfold Dev.OnlyLoftAcc Dev.installFailed; simp
@[simp] theorem Dev.jobEnded_frame (j : LoftJob) (e : LoftEnd) (d : Dev) : Dev.Frame18 d (Dev.jobEnded j e d) := by
  unfold Dev.Frame18 Dev.jobEnded; (repeat' split) <;> simp
@[simp] theorem Dev.endJob_frame (e : LoftEnd) (d : Dev) : Dev.Frame18 d (Dev.endJob e d) := by
  unfold Dev.Frame18 Dev.endJob; (repeat' split) <;> simp
@[simp] theorem Dev.stepEnded_frame (d : Dev) : Dev.Frame18 d (Dev.stepEnded d) := by
  unfold Dev.Frame18 Dev.stepEnded; dsimp only; (repeat' split) <;> simp
@[simp] theorem Dev.resumeStep_frame (left : Nat × List Byte) (d : Dev) : Dev.OnlyLoft d (Dev.resumeStep left d) := by
  unfold Dev.OnlyLoft Dev.resumeStep; simp
@[simp] theorem Dev.remapEnded_frame (w : RemapWrite) (d : Dev) : Dev.Frame18 d (Dev.remapEnded w d) := by
  unfold Dev.Frame18 Dev.remapEnded; simp
@[simp] theorem remapStep_frame (fail1 : List Nat) (fail2 : List Nat) (w : RemapWrite) (m : Memory) (d : Dev) :
    Dev.Frame18 d (remapStep fail1 fail2 w m d).2 := by
  unfold Dev.Frame18 remapStep; dsimp only; (repeat' split) <;> simp
@[simp] theorem programStep_frame (fail1 : List Nat) (fail2 : List Nat) (x : Nat × List Byte) (m : Memory) (d : Dev) :
    Dev.Frame18 d (programStep fail1 fail2 x m d).2 := by
  unfold Dev.Frame18 programStep; dsimp only; (repeat' split) <;> simp
@[simp] theorem Dev.cutLoft_frame (m : Memory) (d : Dev) : Dev.OnlyLoft d (Dev.cutLoft m d).2 := by
  unfold Dev.OnlyLoft Dev.cutLoft; (repeat' split) <;> simp
@[simp] theorem Dev.writeProt_frame (bp : Nat) (d : Dev) : Dev.OnlyRegsLoftEvt d (Dev.writeProt bp d) := by
  unfold Dev.OnlyRegsLoftEvt Dev.writeProt; simp
@[simp] theorem Dev.hostPush_frame (w : Word) (d : Dev) : Dev.OnlyLoft d (Dev.hostPush w d) := by
  unfold Dev.OnlyLoft Dev.hostPush; simp
@[simp] theorem Dev.hostDiscard_frame (d : Dev) : Dev.OnlyLoft d (Dev.hostDiscard d) := by
  unfold Dev.OnlyLoft Dev.hostDiscard; simp
@[simp] theorem Dev.hostGo_frame (d : Dev) : Dev.OnlyLoft d (Dev.hostGo d) := by
  unfold Dev.OnlyLoft Dev.hostGo; simp
@[simp] theorem Dev.sampleStraps_frame (role : Nat) (domRoot : Bool) (d : Dev) : Dev.OnlyPins d (Dev.sampleStraps role
    domRoot d) := by
  unfold Dev.OnlyPins Dev.sampleStraps; simp
@[simp] theorem Dev.declareLock_frame (time : Nat) (d : Dev) : Dev.Frame19 d (Dev.declareLock time d) := by
  unfold Dev.Frame19 Dev.declareLock; simp
@[simp] theorem Dev.lockAtTime_frame (w : Nat) (time : Nat) (d : Dev) : Dev.Frame30 d (Dev.lockAtTime w time d) := by
  unfold Dev.Frame30 Dev.lockAtTime; simp
@[simp] theorem Dev.timebaseStop_frame (n : Nat) (d : Dev) : Dev.Frame3 d (Dev.timebaseStop n d) := by
  unfold Dev.Frame3 Dev.timebaseStop; simp
@[simp] theorem Dev.flushOpTime_frame (d : Dev) : Dev.OnlyLoft d (Dev.flushOpTime d) := by
  unfold Dev.OnlyLoft Dev.flushOpTime; simp
@[simp] theorem Dev.loadEntry_frame (e : ImgEntry) (d : Dev) : Dev.OnlyRegsSysEvt d (Dev.loadEntry e d) := by
  unfold Dev.OnlyRegsSysEvt Dev.loadEntry; (repeat' split) <;> simp
@[simp] theorem Dev.disableYard_frame (n : Nat) (code : Nat) (d : Dev) : Dev.OnlyRegsEvt d (Dev.disableYard n code d) :=
    by
  unfold Dev.OnlyRegsEvt Dev.disableYard; simp
@[simp] theorem Dev.initStall_frame (s : Nat) (d : Dev) : Dev.OnlyStalls d (Dev.initStall s d) := by
  unfold Dev.OnlyStalls Dev.initStall; simp
@[simp] theorem Dev.initRail_frame (n : Nat) (d : Dev) : Dev.OnlyYardsLawsRails d (Dev.initRail n d) := by
  unfold Dev.OnlyYardsLawsRails Dev.initRail; simp
@[simp] theorem Dev.checkShedCfg_frame (n : Nat) (d : Dev) : Dev.OnlyRegsEvt d (Dev.checkShedCfg n d) := by
  unfold Dev.OnlyRegsEvt Dev.checkShedCfg; simp
@[simp] theorem Dev.loadImage_frame (copyB : Bool) (i : Image) (d : Dev) : Dev.Frame20 d (Dev.loadImage copyB i d) := by
  unfold Dev.Frame20 Dev.loadImage; simp
@[simp] theorem Dev.sendDown_frame (ms : List DomMsg) (d : Dev) : Dev.OnlyDom d (Dev.sendDown ms d) := by
  unfold Dev.OnlyDom Dev.sendDown; simp
@[simp] theorem Dev.sendIlv_frame (d : Dev) : Dev.OnlyDom d (Dev.sendIlv d) := by
  unfold Dev.OnlyDom Dev.sendIlv; simp
@[simp] theorem Dev.enroll_frame (r : ReportMsg) (d : Dev) : Dev.OnlyDom d (Dev.enroll r d) := by
  unfold Dev.OnlyDom Dev.enroll; simp
@[simp] theorem Dev.report_frame (d : Dev) : Dev.OnlyDom d (Dev.report d) := by
  unfold Dev.OnlyDom Dev.report; simp
@[simp] theorem Dev.holdId_frame (id : Nat) (range : Nat) (depth : Nat) (noid : Bool) (d : Dev) : Dev.OnlyDom d
    (Dev.holdId id range depth noid d) := by
  unfold Dev.OnlyDom Dev.holdId; simp
@[simp] theorem Dev.takeId_frame (d : Dev) : Dev.OnlySysLoftEvtDom d (Dev.takeId d) := by
  unfold Dev.OnlySysLoftEvtDom Dev.takeId; dsimp only; (repeat' split) <;> simp
@[simp] theorem Dev.noteRec_frame (r : Rec2) (d : Dev) : Dev.OnlyRegsLoft d (Dev.noteRec r d) := by
  unfold Dev.OnlyRegsLoft Dev.noteRec; simp
@[simp] theorem Dev.scanRec_frame (m : Memory) (r : Rec2) (d : Dev) : Dev.OnlyRegsLoftEvt d (Dev.scanRec m r d) := by
  unfold Dev.OnlyRegsLoftEvt Dev.scanRec; dsimp only; (repeat' split) <;> simp
@[simp] theorem Dev.scanRemap_frame (m : Memory) (d : Dev) : Dev.OnlyRegsLoftEvt d (Dev.scanRemap m d) := by
  unfold Dev.OnlyRegsLoftEvt Dev.scanRemap; dsimp only; generalize
  ((d.scanRec m .remap).loft.winnerOf m .remap).1 = o; cases o <;> simp
@[simp] theorem Dev.scanCounters_frame (m : Memory) (d : Dev) : Dev.OnlyRegsLoftEvt d (Dev.scanCounters m d) := by
  unfold Dev.OnlyRegsLoftEvt Dev.scanCounters; simp
@[simp] theorem Dev.noteScan_frame (l : Loft) (m : Memory) (fuel p : Nat) (d : Dev) :
    Dev.OnlyRegsLoft d (Dev.noteScan l m fuel p d) := by
  induction fuel generalizing p d with
  | zero => unfold Dev.OnlyRegsLoft; simp [Dev.noteScan]
  | succ n ih =>
    have h := fun q => ih q (d.noteSlots p 1)
    unfold Dev.OnlyRegsLoft at h ⊢
    rw [Dev.noteScan]; split
    · split
      · simp [h]
      · split <;> simp [h]
    · simp
@[simp] theorem Dev.scanLog_frame (m : Memory) (d : Dev) : Dev.OnlyRegsLoftEvt d (Dev.scanLog m d) := by
  unfold Dev.OnlyRegsLoftEvt Dev.scanLog; simp
@[simp] theorem Dev.scanHistory_frame (m : Memory) (d : Dev) : Dev.OnlyRegsLoftEvt d (Dev.scanHistory m d) := by
  unfold Dev.OnlyRegsLoftEvt Dev.scanHistory; simp
@[simp] theorem Dev.noteImages_frame (a : Option Image) (b : Option Image) (d : Dev) : Dev.OnlyLoft d (Dev.noteImages a b
    d) := by
  unfold Dev.OnlyLoft Dev.noteImages; simp
@[simp] theorem Dev.scanLoft_frame (m : Memory) (d : Dev) : Dev.OnlyRegsProtHswLoftEvt d (Dev.scanLoft m d) := by
  unfold Dev.OnlyRegsProtHswLoftEvt Dev.scanLoft; simp
@[simp] theorem Dev.loadPath_frame (m : Memory) (p : Nat) (d : Dev) : Dev.OnlyRegsHswLoftEvt d (Dev.loadPath m p d) := by
  unfold Dev.OnlyRegsHswLoftEvt Dev.loadPath; dsimp only; (repeat' split) <;> simp
@[simp] theorem Dev.settleAs_frame (primary : Bool) (alone : Bool) (both : Bool) (d : Dev) :
    Dev.OnlyRegsSysLanesEvtAccPair d (Dev.settleAs primary alone both d) := by
  unfold Dev.OnlyRegsSysLanesEvtAccPair Dev.settleAs; simp
@[simp] theorem Dev.settleRole_frame (d : Dev) : Dev.OnlyRegsSysLanesEvtAccPair d (Dev.settleRole d) := by
  unfold Dev.OnlyRegsSysLanesEvtAccPair Dev.settleRole; (repeat' split) <;> simp
@[simp] theorem Dev.endStep5_frame (d : Dev) : Dev.OnlyRegsSysLanesEvtAccPair d (Dev.endStep5 d) := by
  unfold Dev.OnlyRegsSysLanesEvtAccPair Dev.endStep5; simp
@[simp] theorem Dev.fallback_frame (copyB : Bool) (i : Image) (d : Dev) : Dev.Frame21 d (Dev.fallback copyB i d) := by
  unfold Dev.Frame21 Dev.fallback; simp
@[simp] theorem Dev.censusStall_frame (s : Nat) (d : Dev) : Dev.Frame3 d (Dev.censusStall s d) := by
  unfold Dev.Frame3 Dev.censusStall; simp
@[simp] theorem Dev.restartCounter_frame (s : Nat) (d : Dev) : Dev.OnlyLoft d (Dev.restartCounter s d) := by
  unfold Dev.OnlyLoft Dev.restartCounter; simp
@[simp] theorem Dev.checkSerials_frame (m : Memory) (d : Dev) : Dev.OnlyRegsStallsLoftEvtAcc d (Dev.checkSerials m d) :=
    by
  unfold Dev.OnlyRegsStallsLoftEvtAcc Dev.checkSerials; simp
@[simp] theorem Dev.endStart_frame (d : Dev) : Dev.Frame22 d (Dev.endStart d) := by
  unfold Dev.Frame22 Dev.endStart; simp
@[simp] theorem Dev.noteInterrupted_frame (m : Memory) (d : Dev) : Dev.OnlyRegsLoft d (Dev.noteInterrupted m d) := by
  unfold Dev.OnlyRegsLoft Dev.noteInterrupted; dsimp only; (repeat' split) <;> simp
@[simp] theorem Dev.rescan_frame (m : Memory) (d : Dev) : Dev.OnlyRegsStallsHswLoftAcc d (Dev.rescan m d) := by
  unfold Dev.OnlyRegsStallsHswLoftAcc Dev.rescan; simp
@[simp] theorem Dev.noteArchive_frame (m : Memory) (d : Dev) : Dev.OnlyRegsLoft d (Dev.noteArchive m d) := by
  unfold Dev.OnlyRegsLoft Dev.noteArchive; simp
@[simp] theorem Dev.beginTail_frame (m : Memory) (d : Dev) : Dev.OnlyRegsSysProtLoft d (Dev.beginTail m d) := by
  unfold Dev.OnlyRegsSysProtLoft Dev.beginTail; simp
@[simp] theorem Dev.noteLate_frame (a : Nat) (v : Word) (d : Dev) : Dev.OnlyLaws d (Dev.noteLate a v d) := by
  unfold Dev.OnlyLaws Dev.noteLate; simp
@[simp] theorem Dev.noteOnlim_frame (a : Nat) (old : Word) (d : Dev) : Dev.OnlyYards d (Dev.noteOnlim a old d) := by
  unfold Dev.OnlyYards Dev.noteOnlim; simp
@[simp] theorem Dev.land_frame (r : RegDesc) (a : Nat) (v : Word) (d : Dev) : Dev.OnlyRegsSysYardsLaws d (Dev.land r a
    v d) := by
  unfold Dev.OnlyRegsSysYardsLaws Dev.land; simp
@[simp] theorem Dev.landAt_frame (a : Nat) (v : Word) (d : Dev) : Dev.Frame36 d (Dev.landAt a v d) := by
  unfold Dev.Frame36 Dev.landAt; (repeat' split) <;> simp
@[simp] theorem Dev.copyReg_frame (a : Nat) (shadow : Word) (inForce : Word) (d : Dev) : Dev.OnlyRegs d (Dev.copyReg a
    shadow inForce d) := by
  unfold Dev.OnlyRegs Dev.copyReg; (repeat' split) <;> simp
@[simp] theorem Dev.onPair_frame (f : Pair → Pair) (d : Dev) : Dev.OnlyPair d (Dev.onPair f d) := by
  unfold Dev.OnlyPair Dev.onPair; simp
@[simp] theorem Dev.startJoin_frame (d : Dev) : Dev.OnlyPair d (Dev.startJoin d) := by
  unfold Dev.OnlyPair Dev.startJoin; simp
@[simp] theorem Dev.followCommit_frame (g : Nat) (n : Nat) (d : Dev) : Dev.Frame24 d (Dev.followCommit g n d) := by
  unfold Dev.Frame24 Dev.followCommit; simp
@[simp] theorem Dev.takeCommit_frame (g : Nat) (n : Nat) (k : Nat) (d : Dev) : Dev.Frame24 d (Dev.takeCommit g n k d) :=
    by
  unfold Dev.Frame24 Dev.takeCommit; simp
@[simp] theorem Dev.dueCommits_frame (n : Nat) (k : Nat) (d : Dev) : Dev.Frame24 d (Dev.dueCommits n k d) := by
  unfold Dev.Frame24 Dev.dueCommits; simp
@[simp] theorem Dev.pendCommit_frame (g : Nat) (n : Nat) (d : Dev) : Dev.OnlyYardsLaws d (Dev.pendCommit g n d) := by
  unfold Dev.OnlyYardsLaws Dev.pendCommit; simp
@[simp] theorem Dev.adoptRc_frame (m : RcMsg) (d : Dev) : Dev.Frame25 d (Dev.adoptRc m d) := by
  unfold Dev.Frame25 Dev.adoptRc; simp
@[simp] theorem Dev.clearMiss_frame (d : Dev) : Dev.OnlyPair d (Dev.clearMiss d) := by
  unfold Dev.OnlyPair Dev.clearMiss; simp
@[simp] theorem Dev.adoptDc_frame (m : DcMsg) (d : Dev) : Dev.OnlyRailsRetPairDom d (Dev.adoptDc m d) := by
  unfold Dev.OnlyRailsRetPairDom Dev.adoptDc; simp
@[simp] theorem Dev.partnerLoft_frame (m : DcMsg) (d : Dev) : Dev.OnlyRegsEvtPair d (Dev.partnerLoft m d) := by
  unfold Dev.OnlyRegsEvtPair Dev.partnerLoft; simp
@[simp] theorem Dev.recordDest_frame (n : Nat) (code : Nat) (cls : Nat) (seq : Nat) (src : Nat) (notify : Bool) (d : Dev)
    : Dev.OnlyRails d (Dev.recordDest n code cls seq src notify d) := by
  unfold Dev.OnlyRails Dev.recordDest; simp
@[simp] theorem Dev.noteCmd_frame (src : Nat) (raw : Nat) (d : Dev) : Dev.OnlyRegsRailsPorts d (Dev.noteCmd src raw d) :=
    by
  unfold Dev.OnlyRegsRailsPorts Dev.noteCmd; dsimp only; (repeat' split) <;> simp
@[simp] theorem Dev.copyStall_frame (s : Nat) (state : Nat) (roleOf : Nat) (cause : Nat) (segok : Nat) (d : Dev) :
    Dev.OnlyStallsYards d (Dev.copyStall s state roleOf cause segok d) := by
  unfold Dev.OnlyStallsYards Dev.copyStall; dsimp only; (repeat' split) <;> simp
@[simp] theorem Dev.copyUnit_frame (a : Nat) (v : Word) (d : Dev) : Dev.OnlyLawUnitsBalUnits d (Dev.copyUnit a v d) := by
  unfold Dev.OnlyLawUnitsBalUnits Dev.copyUnit; simp
@[simp] theorem Dev.applyDelta_frame (x : Delta) (d : Dev) : Dev.Frame26 d (Dev.applyDelta x d) := by
  unfold Dev.Frame26 Dev.applyDelta; (repeat' split) <;> simp
@[simp] theorem Dev.tryArm_frame (d : Dev) : Dev.OnlyPair d (Dev.tryArm d) := by
  unfold Dev.OnlyPair Dev.tryArm; simp
@[simp] theorem Dev.takeDelta_frame (seq : Nat) (x : Delta) (d : Dev) : Dev.Frame26 d (Dev.takeDelta seq x d) := by
  unfold Dev.Frame26 Dev.takeDelta; simp
@[simp] theorem Dev.applyItem_frame (x : JoinItem) (d : Dev) : Dev.Frame27 d (Dev.applyItem x d) := by
  unfold Dev.Frame27 Dev.applyItem; (repeat' split) <;> simp
@[simp] theorem Dev.freshRail_frame (n : Nat) (d : Dev) : Dev.OnlyStallsYardsLawsRails d (Dev.freshRail n d) := by
  unfold Dev.OnlyStallsYardsLawsRails Dev.freshRail; simp
@[simp] theorem Dev.adoptDomain_frame (d : Dev) : Dev.OnlyRetPairDom d (Dev.adoptDomain d) := by
  unfold Dev.OnlyRetPairDom Dev.adoptDomain; simp
@[simp] theorem Dev.adoptGate_frame (d : Dev) : Dev.OnlyHsw d (Dev.adoptGate d) := by
  unfold Dev.OnlyHsw Dev.adoptGate; (repeat' split) <;> simp
@[simp] theorem Dev.adoptCommits_frame (d : Dev) : Dev.OnlyYardsLawsPair d (Dev.adoptCommits d) := by
  unfold Dev.OnlyYardsLawsPair Dev.adoptCommits; simp
@[simp] theorem Dev.adopt_frame (d : Dev) : Dev.Frame38 d (Dev.adopt d) := by
  unfold Dev.Frame38 Dev.adopt; simp
@[simp] theorem Dev.claimAll_frame (d : Dev) : Dev.OnlyRegsLanesStallsRails d (Dev.claimAll d) := by
  unfold Dev.OnlyRegsLanesStallsRails Dev.claimAll; simp
@[simp] theorem Dev.edgesFrom_frame (t : Nat) (d : Dev) : Dev.OnlyStalls d (Dev.edgesFrom t d) := by
  unfold Dev.OnlyStalls Dev.edgesFrom; simp
@[simp] theorem Dev.takeOver_frame (d : Dev) : Dev.Frame39 d (Dev.takeOver d) := by
  unfold Dev.Frame39 Dev.takeOver; simp
@[simp] theorem Dev.takeOn_frame (d : Dev) : Dev.Frame39 d (Dev.takeOn d) := by
  unfold Dev.Frame39 Dev.takeOn; simp
@[simp] theorem Dev.missed_frame (d : Dev) : Dev.Frame39 d (Dev.missed d) := by
  unfold Dev.Frame39 Dev.missed; simp
@[simp] theorem Dev.warmCommand_frame (d : Dev) : Dev.KeepsPinsPortsHsw d (Dev.warmCommand d) := by
  unfold Dev.KeepsPinsPortsHsw Dev.warmCommand; simp
@[simp] theorem Dev.checkLane_frame (l : Nat) (d : Dev) : Dev.OnlyRegsLanesStallsRailsPair d (Dev.checkLane l d) := by
  unfold Dev.OnlyRegsLanesStallsRailsPair Dev.checkLane; dsimp only; (repeat' split) <;> simp
@[simp] theorem Dev.acceptInput_frame (d : Dev) : Dev.OnlyRegsHswLoftEvtPair d (Dev.acceptInput d) := by
  unfold Dev.OnlyRegsHswLoftEvtPair Dev.acceptInput; simp
@[simp] theorem Dev.releaseInput_frame (d : Dev) : Dev.Frame14 d (Dev.releaseInput d) := by
  unfold Dev.Frame14 Dev.releaseInput; simp
@[simp] theorem Dev.onDom_frame (f : Dom → Dom) (d : Dev) : Dev.OnlyDom d (Dev.onDom f d) := by
  unfold Dev.OnlyDom Dev.onDom; simp
@[simp] theorem Dev.sendUp_frame (m : DomMsg) (d : Dev) : Dev.OnlyDom d (Dev.sendUp m d) := by
  unfold Dev.OnlyDom Dev.sendUp; simp
@[simp] theorem Dev.stepBack_frame (err : Int) (d : Dev) : Dev.OnlyRegsTbProtHswMeasAccPair d (Dev.stepBack err d) :=
    by
  unfold Dev.OnlyRegsTbProtHswMeasAccPair Dev.stepBack; simp
@[simp] theorem Dev.alignTo_frame (target : Nat) (d : Dev) : Dev.Frame40 d (Dev.alignTo target d) := by
  unfold Dev.Frame40 Dev.alignTo; simp
@[simp] theorem Dev.takeTime_frame (x : Link) (sender : Nat) (d : Dev) : Dev.Frame30 d (Dev.takeTime x sender d) := by
  unfold Dev.Frame30 Dev.takeTime; simp
@[simp] theorem Dev.advanceEpoch_frame (d : Dev) : Dev.OnlyDom d (Dev.advanceEpoch d) := by
  unfold Dev.OnlyDom Dev.advanceEpoch; simp
@[simp] theorem Dev.moveYard_frame (k : Nat) (n : Nat) (d : Dev) : Dev.Frame1 d (Dev.moveYard k n d) := by
  unfold Dev.Frame1 Dev.moveYard; simp
@[simp] theorem Dev.newDelta_frame (v : Nat) (d : Dev) : Dev.Frame31 d (Dev.newDelta v d) := by
  unfold Dev.Frame31 Dev.newDelta; simp
@[simp] theorem Dev.dueSnap_frame (seq : Nat) (ts : Nat) (d : Dev) : Dev.OnlyDom d (Dev.dueSnap seq ts d) := by
  unfold Dev.OnlyDom Dev.dueSnap; simp
@[simp] theorem Dev.startSnap_frame (d : Dev) : Dev.OnlyDom d (Dev.startSnap d) := by
  unfold Dev.OnlyDom Dev.startSnap; simp
@[simp] theorem Dev.clearAlarms_frame (d : Dev) : Dev.OnlyDom d (Dev.clearAlarms d) := by
  unfold Dev.OnlyDom Dev.clearAlarms; simp
@[simp] theorem Dev.changeKey_frame (f : KeyArea → KeyArea) (d : Dev) : Dev.OnlyRegsLoftEvtAcc d (Dev.changeKey f d) := by
  unfold Dev.OnlyRegsLoftEvtAcc Dev.changeKey; simp
@[simp] theorem Dev.setLock_frame (d : Dev) : Dev.OnlyRegsLoftEvtAcc d (Dev.setLock d) := by
  unfold Dev.OnlyRegsLoftEvtAcc Dev.setLock; simp
@[simp] theorem Dev.clearLock_frame (d : Dev) : Dev.OnlyRegsLoftEvtAcc d (Dev.clearLock d) := by
  unfold Dev.OnlyRegsLoftEvtAcc Dev.clearLock; simp
@[simp] theorem Dev.setPassword_frame (pw : List Byte) (d : Dev) : Dev.OnlyRegsLoftEvtAcc d (Dev.setPassword pw d) := by
  unfold Dev.OnlyRegsLoftEvtAcc Dev.setPassword; simp
@[simp] theorem Dev.commitIlv_frame (n : Nat) (d : Dev) : Dev.Frame1 d (Dev.commitIlv n d) := by
  unfold Dev.Frame1 Dev.commitIlv; simp
@[simp] theorem Dev.noteCommit_frame (code : Nat) (g : Nat) (n : Nat) (d : Dev) : Dev.OnlyRegs d (Dev.noteCommit code g n
    d) := by
  unfold Dev.OnlyRegs Dev.noteCommit; simp
@[simp] theorem Dev.groupCommit_frame (g : Nat) (n : Nat) (d : Dev) : Dev.Frame32 d (Dev.groupCommit g n d) := by
  unfold Dev.Frame32 Dev.groupCommit; simp
@[simp] theorem Dev.latchUpper_frame (h : Nat) (v : Word) (d : Dev) : Dev.OnlyRegs d (Dev.latchUpper h v d) := by
  unfold Dev.OnlyRegs Dev.latchUpper; simp
@[simp] theorem Dev.latchOf_frame (u : Option (Nat × Word)) (d : Dev) : Dev.OnlyRegs d (Dev.latchOf u d) := by
  unfold Dev.OnlyRegs Dev.latchOf; (repeat' split) <;> simp
@[simp] theorem Dev.readUpper_frame (a : Nat) (d : Dev) : Dev.OnlyRegs d (Dev.readUpper a d).2 := by
  unfold Dev.OnlyRegs Dev.readUpper; (repeat' split) <;> simp
@[simp] theorem Dev.freshen_frame (upper : List Nat) (d : Dev) : Dev.OnlyRegs d (Dev.freshen upper d) := by
  unfold Dev.OnlyRegs Dev.freshen; simp
@[simp] theorem Dev.readRecord_frame (m : Memory) (d : Dev) : Dev.OnlyRegsLoftEvt d (Dev.readRecord m d).2 := by
  unfold Dev.OnlyRegsLoftEvt Dev.readRecord; simp
@[simp] theorem Dev.readLatch_frame (d : Dev) : Dev.OnlyRegs d (Dev.readLatch d).2 := by
  unfold Dev.OnlyRegs Dev.readLatch; simp
@[simp] theorem Dev.readLoft_frame (m : Memory) (d : Dev) : Dev.OnlyRegsLoft d (Dev.readLoft m d).2 := by
  unfold Dev.OnlyRegsLoft Dev.readLoft; simp
@[simp] theorem Dev.popQueue_frame (k : Nat) (d : Dev) : Dev.OnlyMeas d (Dev.popQueue k d) := by
  unfold Dev.OnlyMeas Dev.popQueue; simp
@[simp] theorem Dev.readPlain_frame (m : Memory) (a : Nat) (d : Dev) : Dev.OnlyRegsProtMeasLoftEvt d (Dev.readPlain m a
    d).2 := by
  unfold Dev.OnlyRegsProtMeasLoftEvt Dev.readPlain; (repeat' split) <;> simp
@[simp] theorem Dev.readReg_frame (m : Memory) (a : Nat) (d : Dev) : Dev.OnlyRegsProtMeasLoftEvt d (Dev.readReg m a
    d).2.2 := by
  unfold Dev.OnlyRegsProtMeasLoftEvt Dev.readReg; (repeat' split) <;> simp
@[simp] theorem Dev.addressed_frame (d : Dev) : Dev.OnlyAccMgmt d (Dev.addressed d) := by
  unfold Dev.OnlyAccMgmt Dev.addressed; simp
@[simp] theorem Dev.unheard_frame (d : Dev) : Dev.OnlyMgmt d (Dev.unheard d) := by
  unfold Dev.OnlyMgmt Dev.unheard; simp
@[simp] theorem Dev.answers_frame (bs : List Byte) (d : Dev) : Dev.OnlyMgmt d (Dev.answers bs d) := by
  unfold Dev.OnlyMgmt Dev.answers; simp
@[simp] theorem Dev.serveRead_frame (m : Memory) (cmd : Nat) (a : Nat) (d : Dev) : Dev.OnlyRegsProtMeasLoftEvtMgmt d
    (Dev.serveRead m cmd a d) := by
  unfold Dev.OnlyRegsProtMeasLoftEvtMgmt Dev.serveRead; simp
@[simp] theorem Dev.hostRead_frame (a : Nat) (m : Memory) (d : Dev) : Dev.Frame33 d (Dev.hostRead a m d) := by
  unfold Dev.Frame33 Dev.hostRead; simp
@[simp] theorem Dev.noteRefused_frame (k : Nat) (a : Nat) (v : Word) (d : Dev) : Dev.OnlyRegsEvt d (Dev.noteRefused k a v
    d) := by
  unfold Dev.OnlyRegsEvt Dev.noteRefused; simp
@[simp] theorem Dev.landHost_frame (r : RegDesc) (a : Nat) (v : Word) (d : Dev) : Dev.OnlyRegsSysYardsLawsEvtPair d
    (Dev.landHost r a v d) := by
  unfold Dev.OnlyRegsSysYardsLawsEvtPair Dev.landHost; simp
@[simp] theorem Dev.writeBits_frame (a : Nat) (hi : Nat) (lo : Nat) (v : Nat) (d : Dev) :
    Dev.OnlyRegsSysYardsLawsEvtPair d (Dev.writeBits a hi lo v d) := by
  unfold Dev.OnlyRegsSysYardsLawsEvtPair Dev.writeBits; (repeat' split) <;> simp
@[simp] theorem Dev.afterEnables_frame (old : Dev) (d : Dev) : Dev.Frame10 d (Dev.afterEnables old d) := by
  unfold Dev.Frame10 Dev.afterEnables; simp
@[simp] theorem Dev.afterNlim_frame (n : Nat) (old : Dev) (d : Dev) : Dev.OnlyRegsLanesStallsRails d (Dev.afterNlim n old
    d) := by
  unfold Dev.OnlyRegsLanesStallsRails Dev.afterNlim; simp
@[simp] theorem Dev.afterBalance_frame (n : Nat) (d : Dev) : Dev.OnlyStalls d (Dev.afterBalance n d) := by
  unfold Dev.OnlyStalls Dev.afterBalance; simp
@[simp] theorem Dev.afterLand_frame (old : Dev) (a : Nat) (d : Dev) : Dev.Frame34 d (Dev.afterLand old a d) := by
  unfold Dev.Frame34 Dev.afterLand; simp [Dev.ofArray]
@[simp] theorem Dev.perfControl_frame (v : Word) (d : Dev) : Dev.OnlyRegsMeas d (Dev.perfControl v d) := by
  unfold Dev.OnlyRegsMeas Dev.perfControl; simp
@[simp] theorem Dev.sarControl_frame (v : Word) (d : Dev) : Dev.OnlyRegsMeas d (Dev.sarControl v d) := by
  unfold Dev.OnlyRegsMeas Dev.sarControl; simp
@[simp] theorem Dev.domControl_frame (v : Word) (d : Dev) : Dev.OnlyDom d (Dev.domControl v d) := by
  unfold Dev.OnlyDom Dev.domControl; simp
@[simp] theorem Dev.accControl_frame (v : Word) (d : Dev) : Dev.OnlyRegsLoftEvtAcc d (Dev.accControl v d) := by
  unfold Dev.OnlyRegsLoftEvtAcc Dev.accControl; simp
@[simp] theorem Dev.instBegin_frame (dual : Bool) (d : Dev) : Dev.OnlyLoftAcc d (Dev.instBegin dual d) := by
  unfold Dev.OnlyLoftAcc Dev.instBegin; simp
@[simp] theorem Dev.instControl_frame (v : Word) (d : Dev) : Dev.OnlyRegsLoftEvtAcc d (Dev.instControl v d) := by
  unfold Dev.OnlyRegsLoftEvtAcc Dev.instControl; simp
@[simp] theorem Dev.actOn_frame (a : Nat) (v : Word) (d : Dev) : Dev.KeepsPinsPorts d (Dev.actOn a v d) := by
  unfold Dev.KeepsPinsPorts Dev.actOn; simp
@[simp] theorem Dev.writeAccepted_frame (a : Nat) (v : Word) (d : Dev) : Dev.KeepsPinsPorts d (Dev.writeAccepted a v d)
    := by
  unfold Dev.KeepsPinsPorts Dev.writeAccepted; (repeat' split) <;> simp
@[simp] theorem Dev.serveWrite_frame (cmd : Nat) (a : Nat) (v : Word) (d : Dev) : Dev.KeepsPinsPorts d (Dev.serveWrite
    cmd a v d) := by
  unfold Dev.KeepsPinsPorts Dev.serveWrite; simp
@[simp] theorem Dev.hostWrite_frame (a : Nat) (v : Word) (d : Dev) : Dev.KeepsPinsPorts d (Dev.hostWrite a v d) := by
  unfold Dev.KeepsPinsPorts Dev.hostWrite; simp
@[simp] theorem Dev.withPec_frame (cmd : Nat) (x : Txn) (d : Dev) : Dev.OnlyMgmt d (Dev.withPec cmd x d) := by
  unfold Dev.OnlyMgmt Dev.withPec; simp
@[simp] theorem Dev.transact_pins (cmd : Nat) (x : Txn) (w r : Option (Dev → Dev)) (d : Dev)
    (hw : ∀ f, w = some f → ∀ e, (f e).pins = e.pins) (hr : ∀ f, r = some f → ∀ e, (f e).pins = e.pins) :
    (d.transact cmd x w r).pins = d.pins := by
  unfold Dev.transact; cases w <;> cases r <;> simp only [Option.getD] <;> (repeat' split) <;> simp_all
@[simp] theorem Dev.transact_sys (cmd : Nat) (x : Txn) (w r : Option (Dev → Dev)) (d : Dev)
    (hw : ∀ f, w = some f → ∀ e, (f e).sys = e.sys) (hr : ∀ f, r = some f → ∀ e, (f e).sys = e.sys) :
    (d.transact cmd x w r).sys = d.sys := by
  unfold Dev.transact; cases w <;> cases r <;> simp only [Option.getD] <;> (repeat' split) <;> simp_all
@[simp] theorem Dev.transact_tb (cmd : Nat) (x : Txn) (w r : Option (Dev → Dev)) (d : Dev)
    (hw : ∀ f, w = some f → ∀ e, (f e).tb = e.tb) (hr : ∀ f, r = some f → ∀ e, (f e).tb = e.tb) :
    (d.transact cmd x w r).tb = d.tb := by
  unfold Dev.transact; cases w <;> cases r <;> simp only [Option.getD] <;> (repeat' split) <;> simp_all
@[simp] theorem Dev.transact_lanes (cmd : Nat) (x : Txn) (w r : Option (Dev → Dev)) (d : Dev)
    (hw : ∀ f, w = some f → ∀ e, (f e).lanes = e.lanes) (hr : ∀ f, r = some f → ∀ e, (f e).lanes = e.lanes) :
    (d.transact cmd x w r).lanes = d.lanes := by
  unfold Dev.transact; cases w <;> cases r <;> simp only [Option.getD] <;> (repeat' split) <;> simp_all
@[simp] theorem Dev.transact_stalls (cmd : Nat) (x : Txn) (w r : Option (Dev → Dev)) (d : Dev)
    (hw : ∀ f, w = some f → ∀ e, (f e).stalls = e.stalls) (hr : ∀ f, r = some f → ∀ e, (f e).stalls = e.stalls) :
    (d.transact cmd x w r).stalls = d.stalls := by
  unfold Dev.transact; cases w <;> cases r <;> simp only [Option.getD] <;> (repeat' split) <;> simp_all
@[simp] theorem Dev.transact_yards (cmd : Nat) (x : Txn) (w r : Option (Dev → Dev)) (d : Dev)
    (hw : ∀ f, w = some f → ∀ e, (f e).yards = e.yards) (hr : ∀ f, r = some f → ∀ e, (f e).yards = e.yards) :
    (d.transact cmd x w r).yards = d.yards := by
  unfold Dev.transact; cases w <;> cases r <;> simp only [Option.getD] <;> (repeat' split) <;> simp_all
@[simp] theorem Dev.transact_laws (cmd : Nat) (x : Txn) (w r : Option (Dev → Dev)) (d : Dev)
    (hw : ∀ f, w = some f → ∀ e, (f e).laws = e.laws) (hr : ∀ f, r = some f → ∀ e, (f e).laws = e.laws) :
    (d.transact cmd x w r).laws = d.laws := by
  unfold Dev.transact; cases w <;> cases r <;> simp only [Option.getD] <;> (repeat' split) <;> simp_all
@[simp] theorem Dev.transact_bals (cmd : Nat) (x : Txn) (w r : Option (Dev → Dev)) (d : Dev)
    (hw : ∀ f, w = some f → ∀ e, (f e).bals = e.bals) (hr : ∀ f, r = some f → ∀ e, (f e).bals = e.bals) :
    (d.transact cmd x w r).bals = d.bals := by
  unfold Dev.transact; cases w <;> cases r <;> simp only [Option.getD] <;> (repeat' split) <;> simp_all
@[simp] theorem Dev.transact_lawUnits (cmd : Nat) (x : Txn) (w r : Option (Dev → Dev)) (d : Dev)
    (hw : ∀ f, w = some f → ∀ e, (f e).lawUnits = e.lawUnits) (hr : ∀ f, r = some f → ∀ e, (f e).lawUnits = e.lawUnits) :
    (d.transact cmd x w r).lawUnits = d.lawUnits := by
  unfold Dev.transact; cases w <;> cases r <;> simp only [Option.getD] <;> (repeat' split) <;> simp_all
@[simp] theorem Dev.transact_balUnits (cmd : Nat) (x : Txn) (w r : Option (Dev → Dev)) (d : Dev)
    (hw : ∀ f, w = some f → ∀ e, (f e).balUnits = e.balUnits) (hr : ∀ f, r = some f → ∀ e, (f e).balUnits = e.balUnits) :
    (d.transact cmd x w r).balUnits = d.balUnits := by
  unfold Dev.transact; cases w <;> cases r <;> simp only [Option.getD] <;> (repeat' split) <;> simp_all
@[simp] theorem Dev.transact_rails (cmd : Nat) (x : Txn) (w r : Option (Dev → Dev)) (d : Dev)
    (hw : ∀ f, w = some f → ∀ e, (f e).rails = e.rails) (hr : ∀ f, r = some f → ∀ e, (f e).rails = e.rails) :
    (d.transact cmd x w r).rails = d.rails := by
  unfold Dev.transact; cases w <;> cases r <;> simp only [Option.getD] <;> (repeat' split) <;> simp_all
@[simp] theorem Dev.transact_ports (cmd : Nat) (x : Txn) (w r : Option (Dev → Dev)) (d : Dev)
    (hw : ∀ f, w = some f → ∀ e, (f e).ports = e.ports) (hr : ∀ f, r = some f → ∀ e, (f e).ports = e.ports) :
    (d.transact cmd x w r).ports = d.ports := by
  unfold Dev.transact; cases w <;> cases r <;> simp only [Option.getD] <;> (repeat' split) <;> simp_all
@[simp] theorem Dev.transact_prot (cmd : Nat) (x : Txn) (w r : Option (Dev → Dev)) (d : Dev)
    (hw : ∀ f, w = some f → ∀ e, (f e).prot = e.prot) (hr : ∀ f, r = some f → ∀ e, (f e).prot = e.prot) :
    (d.transact cmd x w r).prot = d.prot := by
  unfold Dev.transact; cases w <;> cases r <;> simp only [Option.getD] <;> (repeat' split) <;> simp_all
@[simp] theorem Dev.transact_ret (cmd : Nat) (x : Txn) (w r : Option (Dev → Dev)) (d : Dev)
    (hw : ∀ f, w = some f → ∀ e, (f e).ret = e.ret) (hr : ∀ f, r = some f → ∀ e, (f e).ret = e.ret) :
    (d.transact cmd x w r).ret = d.ret := by
  unfold Dev.transact; cases w <;> cases r <;> simp only [Option.getD] <;> (repeat' split) <;> simp_all
@[simp] theorem Dev.transact_hsw (cmd : Nat) (x : Txn) (w r : Option (Dev → Dev)) (d : Dev)
    (hw : ∀ f, w = some f → ∀ e, (f e).hsw = e.hsw) (hr : ∀ f, r = some f → ∀ e, (f e).hsw = e.hsw) :
    (d.transact cmd x w r).hsw = d.hsw := by
  unfold Dev.transact; cases w <;> cases r <;> simp only [Option.getD] <;> (repeat' split) <;> simp_all
@[simp] theorem Dev.transact_meas (cmd : Nat) (x : Txn) (w r : Option (Dev → Dev)) (d : Dev)
    (hw : ∀ f, w = some f → ∀ e, (f e).meas = e.meas) (hr : ∀ f, r = some f → ∀ e, (f e).meas = e.meas) :
    (d.transact cmd x w r).meas = d.meas := by
  unfold Dev.transact; cases w <;> cases r <;> simp only [Option.getD] <;> (repeat' split) <;> simp_all
@[simp] theorem Dev.transact_loft (cmd : Nat) (x : Txn) (w r : Option (Dev → Dev)) (d : Dev)
    (hw : ∀ f, w = some f → ∀ e, (f e).loft = e.loft) (hr : ∀ f, r = some f → ∀ e, (f e).loft = e.loft) :
    (d.transact cmd x w r).loft = d.loft := by
  unfold Dev.transact; cases w <;> cases r <;> simp only [Option.getD] <;> (repeat' split) <;> simp_all
@[simp] theorem Dev.transact_evt (cmd : Nat) (x : Txn) (w r : Option (Dev → Dev)) (d : Dev)
    (hw : ∀ f, w = some f → ∀ e, (f e).evt = e.evt) (hr : ∀ f, r = some f → ∀ e, (f e).evt = e.evt) :
    (d.transact cmd x w r).evt = d.evt := by
  unfold Dev.transact; cases w <;> cases r <;> simp only [Option.getD] <;> (repeat' split) <;> simp_all
@[simp] theorem Dev.transact_pair (cmd : Nat) (x : Txn) (w r : Option (Dev → Dev)) (d : Dev)
    (hw : ∀ f, w = some f → ∀ e, (f e).pair = e.pair) (hr : ∀ f, r = some f → ∀ e, (f e).pair = e.pair) :
    (d.transact cmd x w r).pair = d.pair := by
  unfold Dev.transact; cases w <;> cases r <;> simp only [Option.getD] <;> (repeat' split) <;> simp_all
@[simp] theorem Dev.transact_dom (cmd : Nat) (x : Txn) (w r : Option (Dev → Dev)) (d : Dev)
    (hw : ∀ f, w = some f → ∀ e, (f e).dom = e.dom) (hr : ∀ f, r = some f → ∀ e, (f e).dom = e.dom) :
    (d.transact cmd x w r).dom = d.dom := by
  unfold Dev.transact; cases w <;> cases r <;> simp only [Option.getD] <;> (repeat' split) <;> simp_all
@[simp] theorem Dev.transact_deviceKey (cmd : Nat) (x : Txn) (w r : Option (Dev → Dev)) (d : Dev)
    (hw : ∀ f, w = some f → ∀ e, (f e).deviceKey = e.deviceKey) (hr : ∀ f, r = some f → ∀ e, (f e).deviceKey = e.deviceKey) :
    (d.transact cmd x w r).deviceKey = d.deviceKey := by
  unfold Dev.transact; cases w <;> cases r <;> simp only [Option.getD] <;> (repeat' split) <;> simp_all
@[simp] theorem Dev.transact_fuseSerial (cmd : Nat) (x : Txn) (w r : Option (Dev → Dev)) (d : Dev)
    (hw : ∀ f, w = some f → ∀ e, (f e).fuseSerial = e.fuseSerial) (hr : ∀ f, r = some f → ∀ e, (f e).fuseSerial = e.fuseSerial) :
    (d.transact cmd x w r).fuseSerial = d.fuseSerial := by
  unfold Dev.transact; cases w <;> cases r <;> simp only [Option.getD] <;> (repeat' split) <;> simp_all
@[simp] theorem Dev.serveCmd_pins (cmd : Nat) (lenOk : Bool) (kind : WriteKind) (level : Nat) (f : Dev → Dev) (d : Dev)
    (h : ∀ e, (f e).pins = e.pins) : (d.serveCmd cmd lenOk kind level f).pins = d.pins := by
  unfold Dev.serveCmd; (repeat' split) <;> simp [h]
@[simp] theorem Dev.serveCmd_sys (cmd : Nat) (lenOk : Bool) (kind : WriteKind) (level : Nat) (f : Dev → Dev) (d : Dev)
    (h : ∀ e, (f e).sys = e.sys) : (d.serveCmd cmd lenOk kind level f).sys = d.sys := by
  unfold Dev.serveCmd; (repeat' split) <;> simp [h]
@[simp] theorem Dev.serveCmd_tb (cmd : Nat) (lenOk : Bool) (kind : WriteKind) (level : Nat) (f : Dev → Dev) (d : Dev)
    (h : ∀ e, (f e).tb = e.tb) : (d.serveCmd cmd lenOk kind level f).tb = d.tb := by
  unfold Dev.serveCmd; (repeat' split) <;> simp [h]
@[simp] theorem Dev.serveCmd_lanes (cmd : Nat) (lenOk : Bool) (kind : WriteKind) (level : Nat) (f : Dev → Dev) (d : Dev)
    (h : ∀ e, (f e).lanes = e.lanes) : (d.serveCmd cmd lenOk kind level f).lanes = d.lanes := by
  unfold Dev.serveCmd; (repeat' split) <;> simp [h]
@[simp] theorem Dev.serveCmd_stalls (cmd : Nat) (lenOk : Bool) (kind : WriteKind) (level : Nat) (f : Dev → Dev) (d : Dev)
    (h : ∀ e, (f e).stalls = e.stalls) : (d.serveCmd cmd lenOk kind level f).stalls = d.stalls := by
  unfold Dev.serveCmd; (repeat' split) <;> simp [h]
@[simp] theorem Dev.serveCmd_yards (cmd : Nat) (lenOk : Bool) (kind : WriteKind) (level : Nat) (f : Dev → Dev) (d : Dev)
    (h : ∀ e, (f e).yards = e.yards) : (d.serveCmd cmd lenOk kind level f).yards = d.yards := by
  unfold Dev.serveCmd; (repeat' split) <;> simp [h]
@[simp] theorem Dev.serveCmd_laws (cmd : Nat) (lenOk : Bool) (kind : WriteKind) (level : Nat) (f : Dev → Dev) (d : Dev)
    (h : ∀ e, (f e).laws = e.laws) : (d.serveCmd cmd lenOk kind level f).laws = d.laws := by
  unfold Dev.serveCmd; (repeat' split) <;> simp [h]
@[simp] theorem Dev.serveCmd_bals (cmd : Nat) (lenOk : Bool) (kind : WriteKind) (level : Nat) (f : Dev → Dev) (d : Dev)
    (h : ∀ e, (f e).bals = e.bals) : (d.serveCmd cmd lenOk kind level f).bals = d.bals := by
  unfold Dev.serveCmd; (repeat' split) <;> simp [h]
@[simp] theorem Dev.serveCmd_lawUnits (cmd : Nat) (lenOk : Bool) (kind : WriteKind) (level : Nat) (f : Dev → Dev) (d : Dev)
    (h : ∀ e, (f e).lawUnits = e.lawUnits) : (d.serveCmd cmd lenOk kind level f).lawUnits = d.lawUnits := by
  unfold Dev.serveCmd; (repeat' split) <;> simp [h]
@[simp] theorem Dev.serveCmd_balUnits (cmd : Nat) (lenOk : Bool) (kind : WriteKind) (level : Nat) (f : Dev → Dev) (d : Dev)
    (h : ∀ e, (f e).balUnits = e.balUnits) : (d.serveCmd cmd lenOk kind level f).balUnits = d.balUnits := by
  unfold Dev.serveCmd; (repeat' split) <;> simp [h]
@[simp] theorem Dev.serveCmd_rails (cmd : Nat) (lenOk : Bool) (kind : WriteKind) (level : Nat) (f : Dev → Dev) (d : Dev)
    (h : ∀ e, (f e).rails = e.rails) : (d.serveCmd cmd lenOk kind level f).rails = d.rails := by
  unfold Dev.serveCmd; (repeat' split) <;> simp [h]
@[simp] theorem Dev.serveCmd_ports (cmd : Nat) (lenOk : Bool) (kind : WriteKind) (level : Nat) (f : Dev → Dev) (d : Dev)
    (h : ∀ e, (f e).ports = e.ports) : (d.serveCmd cmd lenOk kind level f).ports = d.ports := by
  unfold Dev.serveCmd; (repeat' split) <;> simp [h]
@[simp] theorem Dev.serveCmd_prot (cmd : Nat) (lenOk : Bool) (kind : WriteKind) (level : Nat) (f : Dev → Dev) (d : Dev)
    (h : ∀ e, (f e).prot = e.prot) : (d.serveCmd cmd lenOk kind level f).prot = d.prot := by
  unfold Dev.serveCmd; (repeat' split) <;> simp [h]
@[simp] theorem Dev.serveCmd_ret (cmd : Nat) (lenOk : Bool) (kind : WriteKind) (level : Nat) (f : Dev → Dev) (d : Dev)
    (h : ∀ e, (f e).ret = e.ret) : (d.serveCmd cmd lenOk kind level f).ret = d.ret := by
  unfold Dev.serveCmd; (repeat' split) <;> simp [h]
@[simp] theorem Dev.serveCmd_hsw (cmd : Nat) (lenOk : Bool) (kind : WriteKind) (level : Nat) (f : Dev → Dev) (d : Dev)
    (h : ∀ e, (f e).hsw = e.hsw) : (d.serveCmd cmd lenOk kind level f).hsw = d.hsw := by
  unfold Dev.serveCmd; (repeat' split) <;> simp [h]
@[simp] theorem Dev.serveCmd_meas (cmd : Nat) (lenOk : Bool) (kind : WriteKind) (level : Nat) (f : Dev → Dev) (d : Dev)
    (h : ∀ e, (f e).meas = e.meas) : (d.serveCmd cmd lenOk kind level f).meas = d.meas := by
  unfold Dev.serveCmd; (repeat' split) <;> simp [h]
@[simp] theorem Dev.serveCmd_loft (cmd : Nat) (lenOk : Bool) (kind : WriteKind) (level : Nat) (f : Dev → Dev) (d : Dev)
    (h : ∀ e, (f e).loft = e.loft) : (d.serveCmd cmd lenOk kind level f).loft = d.loft := by
  unfold Dev.serveCmd; (repeat' split) <;> simp [h]
@[simp] theorem Dev.serveCmd_evt (cmd : Nat) (lenOk : Bool) (kind : WriteKind) (level : Nat) (f : Dev → Dev) (d : Dev)
    (h : ∀ e, (f e).evt = e.evt) : (d.serveCmd cmd lenOk kind level f).evt = d.evt := by
  unfold Dev.serveCmd; (repeat' split) <;> simp [h]
@[simp] theorem Dev.serveCmd_acc (cmd : Nat) (lenOk : Bool) (kind : WriteKind) (level : Nat) (f : Dev → Dev) (d : Dev)
    (h : ∀ e, (f e).acc = e.acc) : (d.serveCmd cmd lenOk kind level f).acc = d.acc := by
  unfold Dev.serveCmd; (repeat' split) <;> simp [h]
@[simp] theorem Dev.serveCmd_pair (cmd : Nat) (lenOk : Bool) (kind : WriteKind) (level : Nat) (f : Dev → Dev) (d : Dev)
    (h : ∀ e, (f e).pair = e.pair) : (d.serveCmd cmd lenOk kind level f).pair = d.pair := by
  unfold Dev.serveCmd; (repeat' split) <;> simp [h]
@[simp] theorem Dev.serveCmd_dom (cmd : Nat) (lenOk : Bool) (kind : WriteKind) (level : Nat) (f : Dev → Dev) (d : Dev)
    (h : ∀ e, (f e).dom = e.dom) : (d.serveCmd cmd lenOk kind level f).dom = d.dom := by
  unfold Dev.serveCmd; (repeat' split) <;> simp [h]
@[simp] theorem Dev.serveCmd_deviceKey (cmd : Nat) (lenOk : Bool) (kind : WriteKind) (level : Nat) (f : Dev → Dev) (d : Dev)
    (h : ∀ e, (f e).deviceKey = e.deviceKey) : (d.serveCmd cmd lenOk kind level f).deviceKey = d.deviceKey := by
  unfold Dev.serveCmd; (repeat' split) <;> simp [h]
@[simp] theorem Dev.serveCmd_fuseSerial (cmd : Nat) (lenOk : Bool) (kind : WriteKind) (level : Nat) (f : Dev → Dev) (d : Dev)
    (h : ∀ e, (f e).fuseSerial = e.fuseSerial) : (d.serveCmd cmd lenOk kind level f).fuseSerial = d.fuseSerial := by
  unfold Dev.serveCmd; (repeat' split) <;> simp [h]
@[simp] theorem Dev.sends_frame (n : Nat) (v : Nat) (d : Dev) : Dev.OnlyMgmt d (Dev.sends n v d) := by
  unfold Dev.OnlyMgmt Dev.sends; simp
@[simp] theorem Dev.readOnly_frame (cmd : Nat) (x : Txn) (bytes : Dev → List Byte) (d : Dev) : Dev.OnlyRegsAccMgmt d
    (Dev.readOnly cmd x bytes d) := by
  unfold Dev.OnlyRegsAccMgmt Dev.readOnly; simp
@[simp] theorem Dev.railRead_frame (cmd : Nat) (n : Nat) (v : Dev → Nat → Nat) (d : Dev) : Dev.OnlyRegsMgmt d
    (Dev.railRead cmd n v d) := by
  unfold Dev.OnlyRegsMgmt Dev.railRead; simp
@[simp] theorem Dev.writeEnables_frame (hi : Nat) (lo : Nat) (v : Nat) (d : Dev) : Dev.Frame10 d (Dev.writeEnables hi lo
    v d) := by
  unfold Dev.Frame10 Dev.writeEnables; simp
@[simp] theorem Dev.clearRail_frame (n : Nat) (vout : Nat) (iout : Nat) (temp : Nat) (mfr : Nat) (d : Dev) : Dev.OnlyMgmt
    d (Dev.clearRail n vout iout temp mfr d) := by
  unfold Dev.OnlyMgmt Dev.clearRail; simp
@[simp] theorem Dev.clearInput_frame (mask : Nat) (d : Dev) : Dev.OnlyMgmt d (Dev.clearInput mask d) := by
  unfold Dev.OnlyMgmt Dev.clearInput; simp
@[simp] theorem Dev.clearCml_frame (mask : Nat) (d : Dev) : Dev.OnlyMgmt d (Dev.clearCml mask d) := by
  unfold Dev.OnlyMgmt Dev.clearCml; simp
@[simp] theorem Dev.clearFaults_frame (d : Dev) : Dev.Frame35 d (Dev.clearFaults d) := by
  unfold Dev.Frame35 Dev.clearFaults; simp
@[simp] theorem Dev.clearSummary_frame (v : Nat) (n : Nat) (d : Dev) : Dev.OnlyMgmt d (Dev.clearSummary v n d) := by
  unfold Dev.OnlyMgmt Dev.clearSummary; simp
@[simp] theorem Dev.voutCommand_frame (code : Nat) (n : Nat) (d : Dev) : Dev.Frame3 d (Dev.voutCommand code n d).2 := by
  unfold Dev.Frame3 Dev.voutCommand; (repeat' split) <;> simp
@[simp] theorem Dev.writeLimit_frame (cmd : Nat) (hi : Nat) (lo : Nat) (code : Nat) (d : Dev) :
    Dev.OnlyRegsSysYardsLawsEvtMgmtPair d (Dev.writeLimit cmd hi lo code d) := by
  unfold Dev.OnlyRegsSysYardsLawsEvtMgmtPair Dev.writeLimit; simp
@[simp] theorem Dev.railTelemetry_frame (cmd : Nat) (x : Txn) (v : Dev → Nat → Nat) (d : Dev) : Dev.OnlyRegsAccMgmt d
    (Dev.railTelemetry cmd x v d) := by
  unfold Dev.OnlyRegsAccMgmt Dev.railTelemetry; simp
@[simp] theorem Dev.devTelemetry_frame (cmd : Nat) (x : Txn) (num : Dev → Int) (den : Nat) (d : Dev) :
    Dev.OnlyRegsAccMgmt d (Dev.devTelemetry cmd x num den d) := by
  unfold Dev.OnlyRegsAccMgmt Dev.devTelemetry; simp
@[simp] theorem Dev.moveWindow_frame (k : Nat) (d : Dev) : Dev.OnlyMgmt d (Dev.moveWindow k d) := by
  unfold Dev.OnlyMgmt Dev.moveWindow; simp
@[simp] theorem Dev.autoInc_frame (d : Dev) : Dev.OnlyMgmt d (Dev.autoInc d) := by
  unfold Dev.OnlyMgmt Dev.autoInc; simp
@[simp] theorem Dev.attemptRefused_frame (cmd : Nat) (method : Nat) (d : Dev) : Dev.OnlyRegsEvtMgmt d (Dev.attemptRefused
    cmd method d) := by
  unfold Dev.OnlyRegsEvtMgmt Dev.attemptRefused; simp
@[simp] theorem Dev.attemptFails_frame (method : Nat) (d : Dev) : Dev.OnlyRegsEvtAcc d (Dev.attemptFails method d) := by
  unfold Dev.OnlyRegsEvtAcc Dev.attemptFails; simp
@[simp] theorem Dev.attemptPasses_frame (level : Nat) (method : Nat) (d : Dev) : Dev.OnlyRegsEvtAcc d (Dev.attemptPasses
    level method d) := by
  unfold Dev.OnlyRegsEvtAcc Dev.attemptPasses; simp
@[simp] theorem Dev.login_frame (pw : List Byte) (d : Dev) : Dev.OnlyRegsEvtAccMgmt d (Dev.login pw d) := by
  unfold Dev.OnlyRegsEvtAccMgmt Dev.login; simp
@[simp] theorem Dev.newPassword_frame (pw : List Byte) (d : Dev) : Dev.OnlyRegsLoftEvtAccMgmt d (Dev.newPassword pw d) :=
    by
  unfold Dev.OnlyRegsLoftEvtAccMgmt Dev.newPassword; simp
@[simp] theorem Dev.password_frame (x : Txn) (d : Dev) : Dev.OnlyRegsLoftEvtAccMgmt d (Dev.password x d) := by
  unfold Dev.OnlyRegsLoftEvtAccMgmt Dev.password; dsimp only; (repeat' split) <;> simp

end Sys2Proof.Machine
end

