-- ==== Sys2Proof/WellFormed.lean ====
section
/-! DEFINITION. Well-formed commands: every operand within the range that the row's rule gives it. An ill-formed command
is none that the outside can send; `exec` gives it no effect or cuts its operands to their fields (log entry 11). -/

namespace Sys2Proof

/-- A closed range of integers. -/
def within (lo hi v : Int) : Bool := decide (lo ≤ v) && decide (v ≤ hi)

/-- A port toward a child (R407). -/
def LinkPort.down (p : LinkPort) : Bool := p = .ddn0 || p = .ddn1

/-- A transaction: at most the 255 data bytes that a block count spells, beside the count itself. -/
def Txn.wf (x : Txn) : Bool := decide (x.data.length ≤ 256)

/-- A sample's codes: 12 bits of the intermediate bus, 10 of the drop (R305). -/
def DieSample.wf (x : DieSample) : Bool := x.vib < 4096 && x.drop < 1024

/-- HELLO: the strap of a pair member and a domain ID (R383, R407). -/
def HelloMsg.wf (m : HelloMsg) : Bool := (m.strap = 1 || m.strap = 2) && m.domid < 65536

/-- RC: a rail, the 16-bit boundary count and the five trims of its group (R394). -/
def RcMsg.wf (m : RcMsg) : Bool := m.rail < 8 && m.boundary < 65536 && m.trims.length = 5

/-- DC: eight rails and eight hints (R396). -/
def DcMsg.wf (m : DcMsg) : Bool := m.rails.length = 8 && m.hints.length = 8

/-- JOIN: no more items than one message carries (R393). -/
def JoinMsg.wf (m : JoinMsg) : Bool := m.items.length ≤ 8

/-- Every operand lies in its range. -/
def Instr.wf : Instr → Bool
  | .powerUp _ role _ _ _ => role < 4
  | .resetAssert _ => true
  | .resetRelease _ role _ => role < 4
  | .supplyFall _ _ => true
  | .vauxFall _ => true
  | .supervisorRise _ => true
  | .supervisorFall _ => true
  | .vbusHvBelowPowerOn _ => true
  | .extractAssert _ => true
  | .extractRelease _ => true
  | .enPinEdge _ n _ => n < 8
  | .pfltEdge _ _ => true
  | .trigEdge _ _ => true
  | .comparatorEdge _ src _ => src < 27
  | .wakeRetrainComplete _ okMask => okMask < 2 ^ 32
  | .idleEntry _ => true
  | .holdoverEntry _ => true
  | .syncHoldoverExpired _ => true
  | .syncReturn _ _ => true
  | .syncRestored _ => true
  | .timebaseLock _ _ => true
  | .timebaseLockTimeout _ => true
  | .timeWaitTimeout _ => true
  | .loftIntegrityScan _ => true
  | .calibrationCertificateLoad _ => true
  | .identityAndKeyCheck _ => true
  | .negWaitExpiry _ => true
  | .stallCensus _ => true
  | .preStartProbes _ => true
  | .lawUnitSelfTest _ failLaw failBal => failLaw < 2 ^ 10 && failBal < 2 ^ 3
  | .loftTailRecovery _ => true
  | .railProbe _ n => n < 8
  | .windowSearch _ n _ => n < 8
  | .sequenceSlotDelay _ n => n < 8
  | .stopSlotDelay _ n => n < 8
  | .hiccupTimeExpiry _ n => n < 8
  | .railWarmStart _ n => n < 8
  | .railSampleBoundary _ n _ => n < 8
  | .lawJobDispatch _ => true
  | .lawJobComplete _ unit => unit < 10
  | .lawUnitHung _ unit => unit < 10
  | .lawDeadlineTurnOff _ n => n < 8
  | .balanceJobDispatch _ => true
  | .balanceJobComplete _ unit => unit < 3
  | .edgeFrameSend _ stall _ => stall < 512
  | .edgeFrameDiscard _ stall _ => stall < 512
  | .stopFrameSend _ stall => stall < 512
  | .holdSend _ lane => lane < 32
  | .epochBoundaryDecision _ n => n < 8
  | .epochBoundary _ n => n < 8
  | .drainEnd _ n => n < 8
  | .shedProgress _ stall => stall < 512
  | .telemReceive _ lane _ => lane < 32
  | .telemTimeout _ stall => stall < 512
  | .vinStale _ => true
  | .probeAnswer _ lane _ => lane < 32
  | .cfgAck _ lane _ => lane < 32
  | .cfgNak _ lane _ => lane < 32
  | .faultChange _ lane _ => lane < 32
  | .censusAnswer _ lane _ => lane < 32
  | .answerWindowExpiry _ lane pos => lane < 32 && pos < 16
  | .returnedFrameCheck _ lane _ _ _ => lane < 32
  | .lossOfLock _ lane => lane < 32
  | .laneTrainingPhase _ lane marks => lane < 32 && marks.all (· < 16)
  | .trainingAttemptTimeout _ lane => lane < 32
  | .lcpAbort _ port => port < 4
  | .nop _ port n seq arg => port < 4 && n < 8 && seq < 16 && arg < 2 ^ 29
  | .setv _ port n seq code cls _ => port < 4 && n < 8 && seq < 16 && code < 4096 && cls < 16
  | .pstate _ port n seq hint => port < 4 && n < 8 && seq < 16 && hint < 8
  | .stepAhead _ port n seq lead dir cls => port < 4 && n < 8 && seq < 16 && lead < 64 && dir < 2 && cls < 16
  | .query _ port n seq item => port < 4 && n < 8 && seq < 16 && item < 16
  | .clralert _ port n seq mask => port < 4 && n < 8 && seq < 16 && mask < 32
  | .stepAheadMiss _ n => n < 8
  | .episodeStart _ n => n < 8
  | .episodeRenewal _ n => n < 8
  | .episodeEnd _ n => n < 8
  | .returnedEnergyUpdate _ => true
  | .limitedIntervalCount _ n => n < 8
  | .overcurrentTurnOff _ n => n < 8
  | .railOverTemperature _ n => n < 8
  | .overvoltage _ n => n < 8
  | .undervoltage _ n => n < 8
  | .gpcPersistence _ k => k < 8
  | .crowbarRenewal _ n => n < 8
  | .ringFreeze _ => true
  | .lastFaultRecordWrite _ => true
  | .archiveCopyWrite _ => true
  | .protCaplRead _ => true
  | .hvTick _ vdsRaw _ => vdsRaw < 65536
  | .hvTickLoss _ => true
  | .hvTickResumed _ => true
  | .inputRecordWritten _ => true
  | .rampFullyOn _ => true
  | .faultTimerTrip _ => true
  | .rampTimeout _ => true
  | .severeCurrentTrip _ => true
  | .busOvTrip _ => true
  | .busOvRearm _ => true
  | .retryPeriodExpiry _ => true
  | .retriesReset _ => true
  | .ibcEnReleaseTimeout _ => true
  | .gateOffConfirm _ _ => true
  | .bleedStop _ => true
  | .bleedTimeout _ => true
  | .hswCtrlClear _ => true
  | .hswCtrlBleed _ => true
  | .meteringSample _ vraw iraw x => vraw < 65536 && within (-32768) 32767 iraw && x.wf
  | .lifetimeEnergyFlush _ => true
  | .wearFlush _ => true
  | .spareProbe _ stall => stall < 512
  | .operatingTimeFlush _ => true
  | .sarResult _ conv code => conv < 4 && code < 4096
  | .pathCheck _ conv code => conv < 4 && code < 4096
  | .sparePathSwitch _ conv => conv < 4
  | .windowPublish _ => true
  | .domainSnapshotTrigger _ => true
  | .measSarctrlTrig _ => true
  | .measSarctrlClrq _ mask => mask < 16
  | .measQueueRead _ k => k < 4
  | .splitReadLow _ addr => addr < 2 ^ 24
  | .splitReadHigh _ addr => addr < 2 ^ 24
  | .perfCtrlSnap _ => true
  | .perfCtrlClrall _ => true
  | .perfCtrlClrovf _ => true
  | .perfCtrlWrite _ => true
  | .perfSnapshotComplete _ => true
  | .loftStepComplete _ _ _ => true
  | .loftPortTimeout _ => true
  | .loftPortRetry _ _ => true
  | .eventRecordWritten _ => true
  | .evtCtrlClear _ => true
  | .logClearComplete _ => true
  | .evtRdata0Read _ => true
  | .evtLwdataRead _ => true
  | .loftRdataRead _ => true
  | .loftWdataWrite _ _ => true
  | .loftWctlGo _ => true
  | .loftWctlDiscard _ => true
  | .loftProtWrite _ bp => bp < 4
  | .linkTraining _ _ _ => true
  | .helloSend _ => true
  | .hello _ _ m => m.wf
  | .rc _ _ m => m.wf
  | .dcSend _ => true
  | .dc _ _ m => m.wf
  | .ackSend _ => true
  | .ack _ _ _ _ => true
  | .join _ _ m => m.wf
  | .deltas _ _ _ _ => true
  | .deltaResend _ => true
  | .armedLoss _ => true
  | .messageDueMissed _ rail => rail.all (· < 8)
  | .pfltPersistence _ => true
  | .handover _ _ => true
  | .handoverWaitExpiry _ => true
  | .takenSend _ => true
  | .taken _ _ _ => true
  | .authorityCheck _ => true
  | .ownerOffer _ => true
  | .owner _ _ _ => true
  | .timeSend _ => true
  | .time _ port _ _ => port = .mirb || port = .dup
  | .enum _ _ base _ _ => base < 65536
  | .settleExpiry _ => true
  | .report _ port _ r => port.down && r.id < 65536
  | .epochInterval _ => true
  | .epoch _ _ _ _ => true
  | .epochAdopt _ => true
  | .ilv _ _ target _ _ => target < 65536
  | .snapshotPeriod _ => true
  | .snap _ _ _ _ => true
  | .alarmSend _ => true
  | .alarm _ port _ _ _ _ => port.down
  | .domainLinkLoss _ port => port ≠ .mirb
  | .domCtrlSnap _ => true
  | .domCtrlEpoch _ => true
  | .domCtrlAlmclr _ => true
  | .page _ x => x.wf
  | .operation _ x => x.wf
  | .onOffConfig _ x => x.wf
  | .clearFaults _ x => x.wf
  | .capability _ x => x.wf
  | .voutMode _ x => x.wf
  | .voutCommand _ x => x.wf
  | .voutMax _ x => x.wf
  | .voutMin _ x => x.wf
  | .statusByte _ x => x.wf
  | .statusWord _ x => x.wf
  | .statusVout _ x => x.wf
  | .statusIout _ x => x.wf
  | .statusInput _ x => x.wf
  | .statusTemperature _ x => x.wf
  | .statusCml _ x => x.wf
  | .statusMfrSpecific _ x => x.wf
  | .readVin _ x => x.wf
  | .readIin _ x => x.wf
  | .readPin _ x => x.wf
  | .readVout _ x => x.wf
  | .readIout _ x => x.wf
  | .readPout _ x => x.wf
  | .readTemperature1 _ x => x.wf
  | .readTemperature2 _ x => x.wf
  | .readFrequency _ x => x.wf
  | .pmbusRevision _ x => x.wf
  | .mfrId _ x => x.wf
  | .mfrModel _ x => x.wf
  | .mfrRevision _ x => x.wf
  | .mfrSerial _ x => x.wf
  | .icDeviceId _ x => x.wf
  | .icDeviceRev _ x => x.wf
  | .unsupportedCommand _ code x => code < 256 && x.wf
  | .smbusAlertResponse _ => true
  | .smbusClockLowTimeout _ => true
  | .regAddr _ x => x.wf
  | .regData _ x => x.wf
  | .regWrite _ x => x.wf
  | .regRead _ x => x.wf
  | .regBurst _ x => x.wf
  | .groupCommit _ x => x.wf
  | .warm _ x => x.wf
  | .login _ x => x.wf
  | .passwordSet _ x => x.wf
  | .challenge _ x => x.wf
  | .challengeExpiry _ => true
  | .response _ x => x.wf
  | .logout _ x => x.wf
  | .sessionIdleTimeout _ => true
  | .accessStatus _ x => x.wf
  | .accCtrlLock _ => true
  | .accCtrlUnlock _ => true
  | .installBegin _ _ => true
  | .instData _ x => x.wf
  | .installCommit _ => true
  | .imageInstallComplete _ => true
  | .installAbort _ => true
  | .certificateInstall _ => true
  | .registerWrite _ addr _ => addr < 2 ^ 24
  | .errorConversion _ n _ => n < 8
  | .vbusHvPowerOn _ => true
  | .pairLinkLossOfLock _ => true
  | .badReq _ port raw => port < 4 && raw < 2 ^ 48
  | .protectionWordProgrammed _ => true

end Sys2Proof
end

