-- ==== Sys2Proof/Tests/Slice0.lean ====
section
/-! SUPPORT. Tests: worked examples of the spec, an ill-formed command for each check of `Instr.wf`, and for each
obligation with hypotheses a state and operands that meet them together. Expected values are the spec's own (its rule is named) or
follow from it by hand. -/

namespace Sys2Proof.Machine

-- One proof after another: a worker thread for each would pass the memory limit.
set_option Elab.async false
set_option maxRecDepth 10000

/-! ### Worked examples of the spec -/

/-- R83: the CRC-8 of the nine digits, and the body of a broadcast EMPTY frame. -/
theorem test_crc8_and_empty_frame :
    crc8 [0x31, 0x32, 0x33, 0x34, 0x35, 0x36, 0x37, 0x38, 0x39] = 0xF4 ∧ mkBody 0 31 [] = 0x0F80000000000015 := by
  decide +kernel

/-- R86: stall 0.3, a period from lane time 0x25800, 3,328 eu, all four segments, NLIM class 1. -/
theorem test_edge_frame : edgeBody 3 0x25800 0x0D00 0xF 1 false = 0x1192C00068079075 := by decide +kernel

/-- The CRC-32 of the nine digits (the check value of its catalogue entry). -/
theorem test_crc32 : crc32 [0x31, 0x32, 0x33, 0x34, 0x35, 0x36, 0x37, 0x38, 0x39] = 0xCBF43926 := by decide +kernel

/-- SHA-256 of the three letters abc (the value that its standard gives). -/
theorem test_sha256 : leNat (sha256 [0x61, 0x62, 0x63]).reverse =
    0xba7816bf8f01cfea414140de5dae2223b00361a396177a9cb410ff61f20015ad := by decide +kernel

/-- R5: a spare at lane 11, position 15, segment 2, in a device with domain ID 0x2A. -/
theorem test_address_word : ({ State.reset.dev with dom.id := 0x2A } : Dev).gaWord 0 191 2 = 0x000152FE := by decide +kernel

/-- R72: the ratios of the table; 50.05 MHz is out of range, and 12.48 MHz is off every whole number. -/
theorem test_ratio : [10000000, 25000000, 50000000, 50050000, 10016000].map multOf =
    [some 320, some 128, some 64, none, none] := by decide +kernel

/-- R103: sixteen stages of residence 19 coarse steps on links of 256 eu. -/
theorem test_offsets :
    let d := { State.reset.dev with lanes := modAt State.reset.dev.lanes 0 fun x =>
      { x with present := 0xFFFF, rt := 9216, census := (List.range 16).map fun p => (4 * p, 19) } }
    [0, 3, 15].map (d.offset 0) = [256, 1936, 8656] := by decide +kernel

/-- R154: kdr of a SLOPE of 150, and the reciprocal of 12,000 mV. -/
theorem test_law_constants : kdrOf 150 = (1688849860, 37) ∧ kdrOf 0 = (0, 0) ∧ rvOf 12000 = 715827882 := by decide +kernel

/-- The bank of E1 CORE region 2. -/
def bankE1 : Bank :=
  { b0 := (0x60000000, 29), b1 := (-1395864371, 29), b2 := (0, 0), a1 := (1, 2), a2 := (0, 0), ki := (0x66666666, 35),
    kff := (1, 0), kvin := (1, 0), kll := (1, 4), imin := -13421773, imax := 0xF5C28F, vcmin := 0, vcmax := 0x10000000 }
/-- The inputs of E1 CORE at 12,000 A. -/
def inputsE1 : LawInputs :=
  { bank := bankE1, ec := -4966056, vt := 209379655, ir := 192000, vin := 12000, rvin := 715827882, rvnom := 715827882,
    tp := 51200, igain := 0x8000, kdr := (1688849860, 37), first := false, rebase := .none, held := false, region := 2,
    handBack := false, satErr := false }

/-- R157: one CORE evaluation. -/
theorem test_core_evaluation :
    let r := lawEval { ifilt := 393216000, s := 5368709 } inputsE1
    r.u = 855818 ∧ [r.x0, r.droop, r.vc, r.st.s, r.st.y1] = [134218, 4831838, 210325890, 5375419, 402654] ∧
      (r.satInt || r.satArith) = false := by decide +kernel

/-- R173: the same rail one sample later, with a narrower bank swapped in: the rebase meets IMAX. -/
theorem test_swap_under_saturation :
    let b := { bankE1 with b0 := (2, 0), b1 := (-3, 1), imax := 4026531 }
    let r := lawEval { ifilt := 393216000, s := 5375419, x1 := 134218, y1 := 402654, vcprev := 210325890 }
      { inputsE1 with bank := b, ec := -4831839, rebase := .vcprev }
    (r.u, r.x0, r.vc, r.st.s, r.st.y1, r.satInt) = (848281, 1, 208473686, 4026531, -100662, true) := by decide +kernel

/-- R196: the worked exchange's request and response. -/
theorem test_lcp_frames : reqWord 1 1 5 (0x730 * 2 ^ 17 + 2 * 2 ^ 13 + 2 ^ 12) = 0x12AE60500004 ∧
    respWord 0 5 0x0708 = 0x05070893 := by decide +kernel

/-- R314: entries of tags 0 and 1 on converter 0 and of tag 24 on converter 1. -/
theorem test_queue_entries : [entryOf {} 0 0 0x2A 1523 true false, entryOf {} 0 1 0x2A 1780 false false,
    entryOf {} 1 8 0x2A 3300 true false] = [0x002A85F3, 0x042A06F4, 0x612A8CE4] := by decide +kernel

/-- R322: READ_IOUT, READ_POUT and READ_VIN of E1 CORE, and the word of 0.7615 V. -/
theorem test_telemetry_words : linear11 12000 1 = 0x22EE ∧ linear11 9138 1 = 0x223B ∧ linear11 53898 1000 = 0xE35E ∧
    voutWord (1560 - 37) = 0x0C2F := by decide +kernel

/-- R428: 0.780 V and back. -/
theorem test_voltage_codes : codeOfWord 0x0C7A = 1560 ∧ wordOfCode 1560 = 0x0C7B ∧ codeOfWord 0x0C7B = 1560 := by decide +kernel

/-- R347: part of E1's body, closed by an end entry; an end entry with a count, and a body without one, are none. -/
theorem test_image_body :
    parseBody 9 [0x00010010, 2, 0x12C, 0x1000, 0x00040000, 1, 0xC803, 0xF0000000, 0] =
      some [.run 0x10010 [0x12C, 0x1000], .run 0x40000 [0xC803]] ∧
    parseBody 9 [0xF0000000, 1, 0] = none ∧ parseBody 9 [0x00010010, 1, 0x12C] = none := by decide +kernel

/-! ### Ill-formed commands -/

/-- A HELLO, a rail commit and a device commit of one rail after reset. -/
def hello0 : HelloMsg := ⟨1, 0, 0, 1, 0, false, false, 0, 0⟩
def rc0 : RcMsg := ⟨0, 0, 0, 0, 0, 0, false, 0, 0, 0, 0, 0, 0, 0, 0, 0, 0, 0, 0, 0, false, 0, 0, 0, [0, 0, 0, 0, 0], 0, false, 0, 0, 0⟩
def dc0 : DcMsg := ⟨0, 0, 0, 0, false, false, List.replicate 8 (0, 0, 0, false), 0, List.replicate 8 0, 0, 0⟩

/-- Commands with an operand outside the range of its rule: powerUp to nop. -/
theorem test_ill_formed_1 : (([
  .powerUp 0 4 true true true, .resetRelease 0 4 true, .enPinEdge 0 8 true, .comparatorEdge 0 27 true,
  .wakeRetrainComplete 0 0x100000000, .lawUnitSelfTest 0 1024 0, .lawUnitSelfTest 0 0 8, .railProbe 0 8,
  .windowSearch 0 8 [], .sequenceSlotDelay 0 8, .stopSlotDelay 0 8, .hiccupTimeExpiry 0 8, .railWarmStart 0 8,
  .railSampleBoundary 0 8 0, .lawJobComplete 0 10, .lawUnitHung 0 10, .lawDeadlineTurnOff 0 8,
  .balanceJobComplete 0 3, .edgeFrameSend 0 512 0, .edgeFrameDiscard 0 512 0, .stopFrameSend 0 512, .holdSend 0 32,
  .epochBoundaryDecision 0 8, .epochBoundary 0 8, .drainEnd 0 8, .shedProgress 0 512, .telemReceive 0 32 0,
  .telemTimeout 0 512, .probeAnswer 0 32 0, .cfgAck 0 32 0, .cfgNak 0 32 0, .faultChange 0 32 0,
  .censusAnswer 0 32 0, .answerWindowExpiry 0 32 0, .answerWindowExpiry 0 0 16, .returnedFrameCheck 0 32 0 0 0,
  .lossOfLock 0 32, .laneTrainingPhase 0 32 [], .laneTrainingPhase 0 0 [3, 16], .trainingAttemptTimeout 0 32,
  .lcpAbort 0 4, .nop 0 4 0 0 0, .nop 0 0 8 0 0, .nop 0 0 0 16 0, .nop 0 0 0 0 0x20000000] : List Instr).any (·.wf)) = false := by decide +kernel

/-- Commands with an operand outside the range of its rule: setv to pathCheck. -/
theorem test_ill_formed_2 : (([
  .setv 0 4 0 0 0 0 true, .setv 0 0 8 0 0 0 true, .setv 0 0 0 16 0 0 true, .setv 0 0 0 0 4096 0 true,
  .setv 0 0 0 0 0 16 true, .pstate 0 4 0 0 0, .pstate 0 0 8 0 0, .pstate 0 0 0 16 0, .pstate 0 0 0 0 8,
  .stepAhead 0 4 0 0 0 0 0, .stepAhead 0 0 8 0 0 0 0, .stepAhead 0 0 0 16 0 0 0, .stepAhead 0 0 0 0 64 0 0,
  .stepAhead 0 0 0 0 0 2 0, .stepAhead 0 0 0 0 0 0 16, .query 0 4 0 0 0, .query 0 0 8 0 0, .query 0 0 0 16 0,
  .query 0 0 0 0 16, .clralert 0 4 0 0 0, .clralert 0 0 8 0 0, .clralert 0 0 0 16 0, .clralert 0 0 0 0 32,
  .stepAheadMiss 0 8, .episodeStart 0 8, .episodeRenewal 0 8, .episodeEnd 0 8, .limitedIntervalCount 0 8,
  .overcurrentTurnOff 0 8, .railOverTemperature 0 8, .overvoltage 0 8, .undervoltage 0 8, .gpcPersistence 0 8,
  .crowbarRenewal 0 8, .hvTick 0 65536 true, .meteringSample 0 65536 0 ⟨0, 0, true⟩,
  .meteringSample 0 0 32768 ⟨0, 0, true⟩, .meteringSample 0 0 (-32769) ⟨0, 0, true⟩,
  .meteringSample 0 0 0 ⟨4096, 0, true⟩, .meteringSample 0 0 0 ⟨0, 1024, true⟩, .spareProbe 0 512, .sarResult 0 4 0,
  .sarResult 0 0 4096, .pathCheck 0 4 0, .pathCheck 0 0 4096] : List Instr).any (·.wf)) = false := by decide +kernel

/-- Commands with an operand outside the range of its rule: sparePathSwitch to readPout. -/
theorem test_ill_formed_3 : (([
  .sparePathSwitch 0 4, .measSarctrlClrq 0 16, .measQueueRead 0 4, .splitReadLow 0 0x1000000,
  .splitReadHigh 0 0x1000000, .loftProtWrite 0 4, .hello 0 [] ({ hello0 with strap := 0 }),
  .hello 0 [] ({ hello0 with domid := 65536 }), .rc 0 [] ({ rc0 with rail := 8 }),
  .rc 0 [] ({ rc0 with boundary := 65536 }), .rc 0 [] ({ rc0 with trims := [] }),
  .dc 0 [] ({ dc0 with rails := [] }), .dc 0 [] ({ dc0 with hints := [] }),
  .join 0 [] (⟨0, true, 0, List.replicate 9 (.count 0 0)⟩), .messageDueMissed 0 (some 8), .time 0 .ddn0 [] 0,
  .enum 0 [] 65536 0 0, .report 0 .dup [] ⟨1, 0, 0, 0⟩, .report 0 .ddn0 [] ⟨65536, 0, 0, 0⟩, .ilv 0 [] 65536 0 0,
  .alarm 0 .dup [] 0 0 0, .domainLinkLoss 0 .mirb, .page 0 ⟨true, List.replicate 257 0, none, false⟩,
  .operation 0 ⟨true, List.replicate 257 0, none, false⟩, .onOffConfig 0 ⟨true, List.replicate 257 0, none, false⟩,
  .clearFaults 0 ⟨true, List.replicate 257 0, none, false⟩, .capability 0 ⟨true, List.replicate 257 0, none, false⟩,
  .voutMode 0 ⟨true, List.replicate 257 0, none, false⟩, .voutCommand 0 ⟨true, List.replicate 257 0, none, false⟩,
  .voutMax 0 ⟨true, List.replicate 257 0, none, false⟩, .voutMin 0 ⟨true, List.replicate 257 0, none, false⟩,
  .statusByte 0 ⟨true, List.replicate 257 0, none, false⟩, .statusWord 0 ⟨true, List.replicate 257 0, none, false⟩,
  .statusVout 0 ⟨true, List.replicate 257 0, none, false⟩, .statusIout 0 ⟨true, List.replicate 257 0, none, false⟩,
  .statusInput 0 ⟨true, List.replicate 257 0, none, false⟩,
  .statusTemperature 0 ⟨true, List.replicate 257 0, none, false⟩,
  .statusCml 0 ⟨true, List.replicate 257 0, none, false⟩,
  .statusMfrSpecific 0 ⟨true, List.replicate 257 0, none, false⟩,
  .readVin 0 ⟨true, List.replicate 257 0, none, false⟩, .readIin 0 ⟨true, List.replicate 257 0, none, false⟩,
  .readPin 0 ⟨true, List.replicate 257 0, none, false⟩, .readVout 0 ⟨true, List.replicate 257 0, none, false⟩,
  .readIout 0 ⟨true, List.replicate 257 0, none, false⟩, .readPout 0 ⟨true, List.replicate 257 0, none, false⟩] : List Instr).any (·.wf)) = false := by decide +kernel

/-- Commands with an operand outside the range of its rule: readTemperature1 to badReq. -/
theorem test_ill_formed_4 : (([
  .readTemperature1 0 ⟨true, List.replicate 257 0, none, false⟩,
  .readTemperature2 0 ⟨true, List.replicate 257 0, none, false⟩,
  .readFrequency 0 ⟨true, List.replicate 257 0, none, false⟩,
  .pmbusRevision 0 ⟨true, List.replicate 257 0, none, false⟩, .mfrId 0 ⟨true, List.replicate 257 0, none, false⟩,
  .mfrModel 0 ⟨true, List.replicate 257 0, none, false⟩, .mfrRevision 0 ⟨true, List.replicate 257 0, none, false⟩,
  .mfrSerial 0 ⟨true, List.replicate 257 0, none, false⟩, .icDeviceId 0 ⟨true, List.replicate 257 0, none, false⟩,
  .icDeviceRev 0 ⟨true, List.replicate 257 0, none, false⟩, .unsupportedCommand 0 256 ⟨true, [], none, false⟩,
  .unsupportedCommand 0 0 ⟨true, List.replicate 257 0, none, false⟩,
  .regAddr 0 ⟨true, List.replicate 257 0, none, false⟩, .regData 0 ⟨true, List.replicate 257 0, none, false⟩,
  .regWrite 0 ⟨true, List.replicate 257 0, none, false⟩, .regRead 0 ⟨true, List.replicate 257 0, none, false⟩,
  .regBurst 0 ⟨true, List.replicate 257 0, none, false⟩, .groupCommit 0 ⟨true, List.replicate 257 0, none, false⟩,
  .warm 0 ⟨true, List.replicate 257 0, none, false⟩, .login 0 ⟨true, List.replicate 257 0, none, false⟩,
  .passwordSet 0 ⟨true, List.replicate 257 0, none, false⟩, .challenge 0 ⟨true, List.replicate 257 0, none, false⟩,
  .response 0 ⟨true, List.replicate 257 0, none, false⟩, .logout 0 ⟨true, List.replicate 257 0, none, false⟩,
  .accessStatus 0 ⟨true, List.replicate 257 0, none, false⟩, .instData 0 ⟨true, List.replicate 257 0, none, false⟩,
  .registerWrite 0 0x1000000 0, .errorConversion 0 8 0, .badReq 0 4 0, .badReq 0 0 0x1000000000000] : List Instr).any (·.wf)) = false := by decide +kernel

/-- The same commands with operands in range. -/
theorem test_well_formed : (([
  .powerUp 0 0 true true true, .wakeRetrainComplete 0 0, .sequenceSlotDelay 0 0, .railSampleBoundary 0 0 0,
  .balanceJobComplete 0 0, .holdSend 0 0, .shedProgress 0 0, .cfgAck 0 0 0, .answerWindowExpiry 0 0 0,
  .trainingAttemptTimeout 0 0, .pstate 0 0 0 0 0, .stepAheadMiss 0 0, .limitedIntervalCount 0 0, .undervoltage 0 0,
  .meteringSample 0 0 0 ⟨0, 0, true⟩, .sparePathSwitch 0 0, .splitReadHigh 0 0, .dc 0 [] dc0, .enum 0 [] 0 0 0,
  .domainLinkLoss 0 .dup, .clearFaults 0 ⟨true, [], none, false⟩, .voutMax 0 ⟨true, [], none, false⟩,
  .statusVout 0 ⟨true, [], none, false⟩, .statusCml 0 ⟨true, [], none, false⟩, .readPin 0 ⟨true, [], none, false⟩,
  .readTemperature1 0 ⟨true, [], none, false⟩, .mfrId 0 ⟨true, [], none, false⟩,
  .icDeviceId 0 ⟨true, [], none, false⟩, .regData 0 ⟨true, [], none, false⟩, .groupCommit 0 ⟨true, [], none, false⟩,
  .challenge 0 ⟨true, [], none, false⟩, .instData 0 ⟨true, [], none, false⟩] : List Instr).all (·.wf)) = true := by decide +kernel

/-! ### States that meet the hypotheses -/

/-- An instant past the reach of every timer of a device after reset. -/
def now : Nat := 51200000000 * 1000
/-- The device after reset with its timebase running. -/
def dev0 : Dev := { State.reset.dev with tb.running := true }
/-- What a command finds on a state that holds the device. -/
def seenBy (c : Instr) (d : Dev) : Dev := State.seen { State.reset with dev := d } c
/-- A field of a stored register set. -/
def Dev.bits (a hi lo v : Nat) (d : Dev) : Dev := { d with regs.act := d.regs.act.wr a (setFld (d.regs.act.rd a) hi lo v) }
def zb (n : Nat) : List Byte := List.replicate n 0
/-- A body of an end entry alone, and a header that vouches for it. -/
def body8 : List Byte := leBytes 4 0xF0000000 ++ leBytes 4 0
def hdr : List Byte :=
  let h := leBytes 4 1 ++ leBytes 4 0xFFFFFFFE ++ zb 4 ++ leBytes 4 8 ++ leBytes 4 (crc32 body8) ++ [0x58, 0x51, 0x12, 0x08] ++
    zb (0x1FC - 0x18)
  h ++ leBytes 4 (crc32 ((h.drop 8).take 0x1F4))
/-- A valid copy of a two-copy record, SEQ 1. -/
def rec2 (cls len : Nat) (p : List Byte) : List Byte :=
  let c := [BitVec.ofNat 8 cls, 0, BitVec.ofNat 8 len, 0]
  leBytes 4 1 ++ leBytes 4 0xFFFFFFFE ++ c ++ leBytes 4 (crc32 (c ++ p)) ++ p
def keyp : List Byte := zb 0x80 ++ hmac (List.replicate 32 0) (zb 0x80)
/-- Bytes stored from an address on. -/
def cellsOf (a : Nat) (bs : List Byte) : Memory := (bs.zipIdx.filter (·.1 ≠ 0)).map fun x => (a + x.2, x.1)
/-- A loft with an identity, a key area and image A. -/
def loaded : Memory :=
  cellsOf 0 (rec2 2 96 (zb 96)) ++ cellsOf 0x1000 (rec2 3 160 keyp) ++ cellsOf (imageAddr false) (hdr ++ body8)
/-- A cell of a spread counter (R350). -/
def spreadCell (gen v : Nat) : List Byte :=
  let seven := leBytes 6 v ++ leBytes 1 gen
  seven ++ leBytes 1 (crc8 (seven.reverse.map (·.toNat)))
/-- Stall 5.7's counter of R351: GEN 0x2F in cell 15. -/
def counter87 : Memory := cellsOf (0x2002B80 + 8 * 15) (spreadCell 0x2F 25003210)
/-- Three valid cells of which none is the newest. -/
def tornCounter : Memory :=
  cellsOf 0x2002B80 (spreadCell 0 5) ++ cellsOf (0x2002B80 + 8 * 5) (spreadCell 85 9) ++ cellsOf (0x2002B80 + 8 * 10) (spreadCell 170 7)

/-- R351: the flush of the worked example writes cell 0 with GEN 0x30 and 25,005,610; the counter read 25,003,210. -/
theorem test_counter_step : State.reset.dev.loft.counterVal counter87 87 = 25003210 ∧
    State.reset.dev.loft.counterStep counter87 87 25005610 = (0x2002B80, spreadCell 0x30 25005610) := by decide +kernel

/-- The hypotheses of `Obligations.SpreadCountersReadTheirNewestCell`: a newest cell, ... -/
theorem test_newest_cell : counter87.wf = true ∧ State.reset.dev.loft.cellNewest counter87 (0x2000000 + 0x80 * 87) 15 := by
  simp only [Loft.cellNewest, Loft.cellValid]; decide +kernel
/-- ... valid cells without a newest, ... -/
theorem test_no_newest_cell : tornCounter.wf = true ∧
    (∀ j < 16, ¬ State.reset.dev.loft.cellNewest tornCounter (0x2000000 + 0x80 * 87) j) ∧
    State.reset.dev.loft.cellValid tornCounter (0x2000000 + 0x80 * 87) 5 ∧ State.reset.dev.loft.counterVal tornCounter 87 = 9 := by
  simp only [Loft.cellNewest, Loft.cellValid]; decide +kernel
/-- ... and no valid cell, with a word that was programmed and fails its CRC. -/
theorem test_no_valid_cell : Memory.wf [(0x2002B80, 1)] = true ∧
    ∀ j < 16, j ≠ 0 → State.reset.dev.loft.cellWord [(0x2002B80, 1)] (0x2000000 + 0x80 * 87) j = 0 := by decide +kernel

/-- A message of a kind as it arrives intact, its content two bytes (R386). -/
def blk (k : Nat) : List Block := sealMsg k [5, 6]

/-- A certificate's payload for path 0 with every quantity zero and its HMAC under the device's key (R446), in words. -/
def certP : List Byte := let p := [0, 0, 1, 0] ++ zb 60; p ++ hmac (List.replicate 32 0) p
def certWords0 : List Word := (List.range 24).map fun i => BitVec.ofNat 32 (numAt certP (4 * i) 4)

/-- A device in RUN at the service level whose two buffered words would end past the array. -/
def pastArray : Dev := Dev.bits aLOFT_WADDR 25 2 0xFFFFFF { dev0 with
  sys.state := .run, acc.level := 2, loft.hostBuf := [1, 2], mgmt.window := aLOFT_WCTL }

/-- A step past the array: `Obligations.AStepPastTheArrayFaults`, its four clauses, at the word below the end of the array. -/
theorem test_meets_AStepPastTheArrayFaults : ([
    let d := seenBy (.loftWctlGo now) pastArray
    decide (d.hears = true ∧ d.writeRefusal aLOFT_WCTL 0x1 = 0 ∧ d.hostStarts = true ∧ d.hostFits = false),
    let d := seenBy (.registerWrite now aLOFT_WCTL 1) pastArray
    decide (d.hears = true ∧ sets (1 : Word) 0x1 = true ∧ d.writeRefusal aLOFT_WCTL 1 = 0 ∧ d.hostStarts = true ∧
      d.hostFits = false),
    let x : Txn := ⟨true, leBytes 3 aLOFT_WCTL ++ leBytes 4 1, none, false⟩
    let d := seenBy (.regWrite now x) pastArray
    decide (d.takesWrite 0xD2 x = true ∧ d.writeRefusal aLOFT_WCTL (BitVec.ofNat 32 1) = 0 ∧ d.hostStarts = true ∧
      d.hostFits = false),
    let x : Txn := ⟨true, leBytes 4 1, none, false⟩
    let d := seenBy (.regData now x) pastArray
    decide (d.takesWrite 0xD1 x = true ∧ d.mgmt.window = aLOFT_WCTL ∧ d.writeRefusal aLOFT_WCTL (BitVec.ofNat 32 1) = 0 ∧
      d.hostStarts = true ∧ d.hostFits = false)].all id) = true := by decide +kernel

/-- `Obligations.DeviceStateMovesAsTheTableSays`: RESET# takes the device out of RUN, and the idle dwell into IDLE. -/
theorem test_state_moves :
    let d := { dev0 with sys.state := .run }
    (match exec (.resetAssert now) { State.reset with dev := d } with
      | .next s' => decide (s'.dev.sys.state ≠ .run ∧ mayMove (.resetAssert now) .run s'.dev.sys.state = true)
      | _ => false) = true ∧ mayMove (.idleEntry now) .run .idle = true ∧ mayMove (.nop now 0 0 0 0) .run .idle = false := by
  decide +kernel

/-- A step of one waiting command answers a next state with the rest of the queue. -/
theorem test_step_takes_the_front :
    (match step { State.reset with pending := [.extractAssert now, .retriesReset now], dev := dev0 } with
      | .next s' => decide (s'.pending = [.retriesReset now]) && s'.arrayWf && decide (s'.dev.sys.state = .start)
      | _ => false) = true ∧
    storesArray (.extractAssert now) = false ∧ State.arrayWf { State.reset with dev := dev0 } = true := by decide +kernel

/-- An empty queue idles. -/
theorem test_idle : step State.reset = .next State.reset := rfl

/-- `Obligations.EveryStepKeepsQueuesWithinTheirDepths` at a full depth: 1,024 words buffered for a step of the host. -/
theorem test_queues_full : Dev.queuesBounded { dev0 with loft.hostBuf := List.replicate 1024 0, acc.level := 2 } := by
  simp only [Dev.queuesBounded]; decide +kernel

/-- Operands at the bounds of `Obligations.FrameBodiesCarryTheirFields` and `Obligations.AddressWordsCarryTheirFields`. -/
theorem test_field_bounds : bodyBits (edgeBody 31 0xFFFFF 0xFFFF 15 7 true) 59 55 = 31 ∧
    bodyBits (edgeBody 31 0xFFFFF 0xFFFF 15 7 true) 10 8 = 0 ∧ (State.reset.dev.gaStall (31 * 16 + 15)).toNat / 4 % 512 = 511 ∧
    (State.reset.dev.gaRail 7).toNat / 4 % 8 = 7 := by decide +kernel

/-- R134: the flush margin of E1, 70 A stages and FLUSH 60 s, covers the largest stress of an interval. -/
theorem test_wear_margin :
    (({ dev0 with lanes := modAt dev0.lanes 0 fun x => { x with census := [(0, 70 * 256)] } } : Dev).bits aYARD_WEARGCFG 15 8 60
      |> fun d => (d.flushS, d.rated 0, d.wearMargin 0)) = (60, 70, 3210) := by decide +kernel

/-- R97: at position 0 the frame must have left 37 ns, 1,894.4 eu, before the start. -/
theorem test_edge_bound : edgeBound 51200 0 = 49305 ∧ edgeBound 51200 15 = 51200 - 11111 := by decide +kernel

/-- R79: the header of a frame is sent 0 first, the body follows from bit 63 down, and 39 bits go by before the scrambler's
first tap of a body of zeros with bit 63 set. -/
theorem test_line_order : (Block.frame 0x8000000000000000).header = [false, true] ∧ (Block.control trainBody).header = [true, false] ∧
    ((Block.frame 0x8000000000000000).bits []).1.zipIdx.filterMap (fun x => if x.1 then some x.2 else none) = [1, 2, 41, 60] := by
  decide +kernel

/-- R23, R96, R97, R218: a CUT takes the slot of a BURST and the BURST that of an EDGE, whose next even slot is past its bound; and of two
BURST frames the lower rail's leaves first. -/
theorem test_frames_are_displaced :
    let burst : Tx := { slot := 6, rank := 1, body := burstBody 1 9 15, rail := 2 }
    let edge : Tx := { slot := 8, rank := 3, body := edgeBody 3 0 9 15 0 false, rail := 2, limit := 512 * 8 }
    let p := placeTx 8 [burst, { burst with slot := 7, rail := 4 }, edge] { slot := 6, rank := 0, body := cutBody 1 9 false 0 } none
    p.1.map (fun g => (g.slot, g.rank, g.rail)) = [(8, 1, 4), (7, 1, 2), (6, 0, 8)] ∧
    p.2.map (fun m => (m.1, m.2.isSome)) = [(6, true), (7, true), (8, false)] := by decide +kernel

/-- R386: a message is intact as its sender seals it, and not with one bit changed. -/
theorem test_message_crc : msgIntact (sealMsg 4 [5, 6]) = true ∧
    msgIntact ((sealMsg 4 [5, 6]).map fun b => match b with
      | .frame w => .frame (w ^^^ 0x100000000)
      | b => b) = false := by decide +kernel

/-- `Obligations.CommandsStopOnlyPastTheArray`: a GO with no words buffered meets the first clause's condition. -/
theorem test_go_without_words : (seenBy (.loftWctlGo now) dev0).hostStarts = false := by decide +kernel

/-- A device whose rail 2 is `r`, at E1's rate, with every slew class of rail 2 at 5 and the ramp's floor at 40 codes. -/
def slewDev (r : Rail) : Dev :=
  ((((({ dev0 with rails := modAt dev0.rails 2 fun _ => r } : Dev).bits (aENG_CFG 2) 31 0 0xFFFFFFFF).bits (aENG_CFG 2) 11 0 1600).bits
    (aSYS_RAILSTART 2) 31 0 0x55555555).bits (aLCP_STEPCFG 2) 31 0 0x55555555).bits (aLCP_LIM 2) 27 16 3000

/-- The hypotheses of `Obligations.SlewClassesFollowTheTable`, one entry per clause that has any. -/
theorem test_meets_SlewClassesFollowTheTable : ([
    decide ((slewDev {}).rate 2 = 1600),
    (let r := (slewDev { state := .ramp, searched := true, pos := 7, rdest := 1 }).rail 2
     decide (r.state = .ramp ∧ r.searched = true ∧ r.following = false ∧ r.cmdAt = none ∧ r.pos < 256 * r.rdest)),
    (let r := (slewDev { state := .reg, pos := 255, rdest := 1 }).rail 2
     decide (r.state = .reg ∧ r.cmdAt = none ∧ r.pos < 256 * r.rdest)),
    (let d := { slewDev { state := .reg, cmdAt := some 976, cls := 15 } with tb.running := true, tb.wall := 2000, tb.offset := 0 }
     decide ((d.rail 2).state = .reg ∧ (d.rail 2).cmdAt = some 976 ∧ 976 + 1024 ≤ d.now)),
    (let d := slewDev { state := .stop, pos := 256 * 4000 }
     decide ((d.rail 2).state = .stop ∧ (d.rail 2).coast = false ∧ (d.rail 2).following = false ∧ d.regs.act.XNT_RETCFG_EN = 0 ∧
       256 * (4 * d.regs.act.SYS_RAILSTART_STOP_FLOOR 2) + slewq (d.regs.act.SYS_RAILSTART_STOP_SLEW 2) * d.rate 2 / 25 <
         (d.rail 2).pos)),
    decide (7 < (slewDev {}).rails.length),
    (let d := slewDev { mode := .prepos, pos := 256 * 1000, off := 3, offt := 5 }
     let stp : Int := ((max 1 (slewq (d.regs.act.LCP_STEPCFG_PSLEW 2) * d.rate 2 / 6400) : Nat) : Int)
     decide ((d.rail 2).mode = .prepos ∧ d.vmin 2 ≤ (d.rail 2).code ∧ 0 ≤ (d.rail 2).off ∧ (d.rail 2).off + stp ≤ (d.rail 2).offt ∧
       ((d.rail 2).code : Int) + (d.rail 2).off + stp ≤ d.vmax 2))].all id) = true := by decide +kernel

/-- A state and operands for each hypothesis-bearing clause of `Obligations.PowerAndResetBeginAColdStart`. -/
theorem test_meets_PowerAndResetBeginAColdStart : ([
  -- clause 2
  (let d := seenBy (.resetAssert now) ({ dev0 with pins.resetLow := false })
   decide (d.pins.resetLow = false) : Bool),
  -- clause 4
  (let role : Nat := 1; let domRoot : Bool := true; let d := seenBy (.resetRelease now role domRoot) ({ dev0 with pins.resetLow := true, sys.state := .start, sys.step := 1, sys.kind := 0, pins.supplies := true, pins.vaux := true, pins.extractLow := false, pins.above := true, hsw.extBleed := false })
   decide (d.pins.resetLow = true ∧ d.sys.state = .start ∧ d.sys.step = 1 ∧ d.sys.kind = 0 ∧ d.pins.supplies = true ∧ d.pins.vaux = true ∧ d.pins.extractLow = false ∧ d.pins.above = true ∧ d.hsw.extBleed = false) : Bool)].all id) = true := by decide +kernel

/-- A state and operands for each hypothesis-bearing clause of `Obligations.PinsAndSuppliesAreFollowed`. -/
theorem test_meets_PinsAndSuppliesAreFollowed : ([
  -- clause 2
  (let d := seenBy (.vbusHvPowerOn now) ({ dev0 with pins.vbusHv := false })
   decide (d.pins.vbusHv = false) : Bool),
  -- clause 3
  (let d := seenBy (.supervisorRise now) ({ dev0 with pins.vbusHv := true })
   decide (d.pins.vbusHv = true) : Bool),
  -- clause 5
  (let low : Bool := true; let d := seenBy (.pfltEdge now low) ({ dev0 with sys.state := .run })
   decide (d.pair.pfltLowAt.isSome ≠ low ∧ (d.sys.state ≠ .start ∨ d.sys.step ≠ 6)) : Bool),
  -- clause 6
  (let level : Bool := true; let d := seenBy (.trigEdge now level) (dev0)
   decide (d.pins.trig ≠ level) : Bool)].all id) = true := by decide +kernel

/-- A state and operands for each hypothesis-bearing clause of `Obligations.LosingTheInputReturnsToStepOne`. -/
theorem test_meets_LosingTheInputReturnsToStepOne : ([
  -- clause 1
  (let d := seenBy (.supervisorFall now) ({ dev0 with pins.above := true })
   decide (d.pins.above = true ∧ d.sys.state ≠ .halt) : Bool),
  -- clause 2
  (let d := seenBy (.vbusHvBelowPowerOn now) ({ dev0 with pins.above := true })
   decide (d.pins.above = true ∧ d.sys.state ≠ .halt) : Bool),
  -- clause 3
  (let d := seenBy (.extractAssert now) ({ dev0 with pins.extractLow := false })
   decide (d.pins.extractLow = false ∧ d.sys.state ≠ .halt ∧ d.sys.state ≠ .idle ∧ (d.hsw.tickLost = false ∨ d.hsw.closed = false)) : Bool),
  -- clause 4
  (let d := seenBy (.extractAssert now) ({ dev0 with pins.extractLow := false, hsw.tickLost := true, hsw.state := .on, hsw.pendTrip := 0 })
   decide (d.pins.extractLow = false ∧ d.sys.state ≠ .halt ∧ d.sys.state ≠ .idle ∧ d.hsw.tickLost = true ∧ d.hsw.closed = true) : Bool)].all id) = true := by decide +kernel

/-- A state and operands for each hypothesis-bearing clause of `Obligations.LockEndsStepTwoOrItFails`. -/
theorem test_meets_LockEndsStepTwoOrItFails : ([
  -- clause 1
  (let hz : Nat := 10000000; let d := seenBy (.timebaseLock now hz) ({ dev0 with sys.state := .start, sys.step := 2, sys.kind := 0, tb.running := false, tb.mult := 0 })
   (multOf hz).any fun k => decide (d.locking = true ∧ d.tb.mult = 0 ∧ d.waitsTime = false) : Bool),
  -- clause 2
  (let hz : Nat := 10000000; let d := seenBy (.timebaseLock now hz) ({ dev0 with sys.state := .start, sys.step := 2, sys.kind := 0, tb.running := false, tb.mult := 0, pins.domRoot := false })
   (multOf hz).any fun k => decide (d.locking = true ∧ d.tb.mult = 0 ∧ d.waitsTime = true) : Bool),
  -- clause 3
  (let d := seenBy (.timeWaitTimeout now) ({ dev0 with sys.state := .start, sys.step := 2, sys.kind := 0, tb.running := false, tb.mult := 64, tb.timeGot := none })
   decide (d.locking = true ∧ d.tb.mult ≠ 0 ∧ d.tb.timeGot = none ∧ d.tb.multAt - 64 * 16 * d.tb.mult + 100 * msEu ≤ d.tb.wall) : Bool),
  -- clause 4
  (let d := seenBy (.timebaseLockTimeout now) ({ dev0 with sys.state := .start, sys.step := 2, tb.lock := false })
   decide (d.sys.state = .start ∧ d.sys.step = 2 ∧ d.tb.lock = false ∧ d.sys.stepAt + 400 * msEu ≤ d.tb.wall) : Bool)].all id) = true := by decide +kernel

/-- A state and operands for each hypothesis-bearing clause of `Obligations.HoldoverRunsFromLossToRestoredLock`. -/
theorem test_meets_HoldoverRunsFromLossToRestoredLock : ([
  -- clause 1
  (let d := seenBy (.holdoverEntry now) ({ dev0 with tb.holdover := false })
   decide (d.tb.running = true ∧ d.tb.holdover = false) : Bool),
  -- clause 2
  (let d := seenBy (.syncHoldoverExpired now) (({ dev0 with tb.holdover := true, tb.lossFault := false } : Dev).bits aTB_CFG 9 9 0)
   decide (d.tb.holdover = true ∧ d.tb.lossFault = false ∧ d.tb.holdAt + atLeast1 d.regs.act.TB_CFG_HOLDOVER_MAX * msEu < d.now ∧ d.regs.act.TB_CFG_LOSS_ACTION = 0) : Bool),
  -- clause 3
  (let d := seenBy (.syncHoldoverExpired now) (({ dev0 with tb.holdover := true, tb.lossFault := false } : Dev).bits aTB_CFG 9 9 1)
   decide (d.tb.holdover = true ∧ d.tb.lossFault = false ∧ d.tb.holdAt + atLeast1 d.regs.act.TB_CFG_HOLDOVER_MAX * msEu < d.now ∧ d.regs.act.TB_CFG_LOSS_ACTION = 1) : Bool),
  -- clause 4
  (let phase : Int := 0; let d := seenBy (.syncReturn now phase) ({ dev0 with tb.holdover := true })
   decide (d.tb.holdover = true) : Bool),
  -- clause 5
  (let d := seenBy (.syncRestored now) ({ dev0 with tb.slewing := true })
   decide (d.tb.slewing = true ∧ d.tb.phErr.natAbs < 16) : Bool)].all id) = true := by decide +kernel

/-- A state and operands for each hypothesis-bearing clause of `Obligations.IdleWakeAndEnablePins`. -/
theorem test_meets_IdleWakeAndEnablePins : ([
  -- clause 1
  (let d := seenBy (.idleEntry now) ((({ dev0 with sys.idleSince := some 0, sys.state := .run } : Dev).bits aSYS_IDLECFG 31 31 0).bits aSYS_IDLECFG 0 0 1)
   (d.sys.idleSince).any fun t0 => decide (d.idleOk = true ∧ t0 + atLeast1 d.regs.act.SYS_IDLECFG_DWELL * 100 * usEu ≤ d.now) : Bool),
  -- clause 2
  (let m : Nat := 8; let d := seenBy (.wakeRetrainComplete now m) (({ dev0 with sys.state := .idle, sys.wakeAt := some now } : Dev).onLane 3 fun x => { x with state := .parked, phase := 6 })
   (d.sys.wakeAt).any fun w => decide (d.sys.state = .idle ∧ ((∀ l ∈ List.range 32, (d.lane l).state = .parked → (d.lane l).phase = 6 ∧ m.testBit l = true) ∨ w + 10 * usEu < d.now)) : Bool),
  -- clause 3
  (let d := seenBy (.operatingTimeFlush now) ({ dev0 with loft.countersRead := true })
   decide (d.loft.countersRead = true ∧ d.loft.opFlushed + atLeast1 d.regs.act.LOFT_CFG_OPFLUSH * secEu ≤ d.now) : Bool),
  -- clause 4
  (let n : Nat := 2; let level : Bool := true; let d := seenBy (.enPinEdge now n level) (dev0)
   decide (n < 8 ∧ d.pins.en.testBit n ≠ level) : Bool)].all id) = true := by decide +kernel

/-- A state and operands for each hypothesis-bearing clause of `Obligations.LoftStepsOfAColdStart`. -/
theorem test_meets_LoftStepsOfAColdStart : ([
  -- clause 1
  (let M : Memory := loaded; let d := seenBy (.loftIntegrityScan now) ({ dev0 with sys.state := .start, sys.step := 3, loft.portOk := true })
   (match pickImage ((d.scanLoft M).loft.image M false) ((d.scanLoft M).loft.image M true) with
   | (some (copyB, i), tie) => decide (d.inStep 3 = true ∧ d.loft.portOk = true ∧ ((d.scanLoft M).loft.winner .identity).isSome = true)
   | _ => false) : Bool),
  -- clause 2
  (let d := seenBy (.loftIntegrityScan now) ({ dev0 with sys.state := .start, sys.step := 3, loft.portOk := false })
   decide (d.inStep 3 = true ∧ d.loft.portOk = false) : Bool),
  -- clause 3
  (let d := seenBy (.calibrationCertificateLoad now) ({ dev0 with sys.state := .start, sys.step := 4, loft.portOk := true })
   decide (d.inStep 4 = true ∧ d.loft.portOk = true) : Bool),
  -- clause 4
  (let M : Memory := loaded; let d := seenBy (.identityAndKeyCheck now) ({ dev0 with sys.state := .start, sys.step := 5, loft.portOk := true })
   (d.keyPayload M).any fun k => decide (d.inStep 5 = true ∧ d.loft.portOk = true ∧ numAt (d.loft.identity M) 0 8 = d.fuseSerial ∧ ((d.loft.image M d.sys.imageB).any fun i => d.bindingOk i.header) = true ∧ d.inPair = false) : Bool),
  -- clause 5
  (let M : Memory := []; let d := seenBy (.identityAndKeyCheck now) ({ dev0 with sys.state := .start, sys.step := 5, loft.portOk := true })
   decide (d.inStep 5 = true ∧ (d.loft.portOk = false ∨ d.keyPayload M = none)) : Bool)].all id) = true := by decide +kernel

/-- A state and operands for each hypothesis-bearing clause of `Obligations.LaterStepsOfAStartReachRun`. -/
theorem test_meets_LaterStepsOfAStartReachRun : ([
  -- clause 1
  (let d := seenBy (.negWaitExpiry now) ({ dev0 with pair.pfltLowAt := some 0, pins.role := 1, sys.state := .start, sys.step := 6, pair.settled := false })
   (d.pair.pfltLowAt).any fun t0 => decide (d.awaitsRole = true ∧ d.silent = true ∧ max t0 d.pair.negAt + d.negWait ≤ d.now) : Bool),
  -- clause 2
  (let d := seenBy (.stallCensus now) ({ dev0 with sys.state := .start, sys.step := 6 })
   decide (d.inStep 6 = true ∧ d.awaitsRole = false ∧ d.lanesSettled = true ∧ d.isStandby = false) : Bool),
  -- clause 3
  (let d := seenBy (.preStartProbes now) ({ dev0 with sys.state := .start, sys.step := 7 })
   decide (d.inStep 7 = true ∧ d.probesOver = true) : Bool),
  -- clause 4
  (let failLaw : Nat := 3; let failBal : Nat := 1; let d := seenBy (.lawUnitSelfTest now failLaw failBal) ({ dev0 with sys.state := .start, sys.step := 9, sys.kind := 0 })
   decide (d.inStep 9 = true ∧ (maskList 10 failLaw).length ≤ 2 ∧ (maskList 3 failBal).length ≤ 1 ∧ d.sys.kind = 0) : Bool),
  -- clause 5
  (let failLaw : Nat := 3; let failBal : Nat := 1; let d := seenBy (.lawUnitSelfTest now failLaw failBal) ({ dev0 with sys.state := .start, sys.step := 9, sys.kind := 1 })
   decide (d.inStep 9 = true ∧ (maskList 10 failLaw).length ≤ 2 ∧ (maskList 3 failBal).length ≤ 1 ∧ d.sys.kind ≠ 0) : Bool),
  -- clause 6
  (let failLaw : Nat := 7; let failBal : Nat := 0; let d := seenBy (.lawUnitSelfTest now failLaw failBal) ({ dev0 with sys.state := .start, sys.step := 9 })
   decide (d.inStep 9 = true ∧ (2 < (maskList 10 failLaw).length ∨ 1 < (maskList 3 failBal).length)) : Bool),
  -- clause 7
  (let d := seenBy (.loftTailRecovery now) ({ dev0 with sys.state := .start, sys.step := 10, loft.portOk := true, sys.tail := true })
   decide (d.inStep 10 = true ∧ d.tailReady = true) : Bool),
  -- clause 8
  (let d := seenBy (.loftTailRecovery now) ({ dev0 with sys.state := .start, sys.step := 10, sys.tail := false, prot.archBusy := false, loft.portOk := true })
   decide (d.inStep 10 = true ∧ d.sys.tail = false ∧ d.tailIdle = true ∧ d.prot.archBusy = false) : Bool)].all id) = true := by decide +kernel

/-- A state and operands for each hypothesis-bearing clause of `Obligations.RailsProbeRampAndReturn`. -/
theorem test_meets_RailsProbeRampAndReturn : ([
  -- clause 1
  (let n : Nat := 2; let d := seenBy (.railProbe now n) ({ ((({ dev0 with pins.above := true, hsw.state := .on, hsw.vibSent := 40000 } : Dev).onRail n fun x => { x with state := .probe }).bits (aYARD_CFG n) 0 0 1).onRail n fun x => { x with dest := 1000 } with pins.above := true, hsw.state := .on, hsw.vibSent := 40000 })
   decide (d.isStandby = false ∧ (d.rail n).state = .probe ∧ d.probesDone n = true ∧ d.tooFew n = false ∧ ((d.followersOf n).any fun f => (d.rail f).state = .probe) = false ∧ d.wantsOn n = true ∧ d.leaderLost n = false ∧ d.inputGood = true) : Bool),
  -- clause 2
  (let n : Nat := 2; let convs : List Int := List.replicate 8 4; let code : Nat := 260; let d := seenBy (.windowSearch now n convs) (dev0.onRail n fun x => { x with state := .ramp, searched := false })
   decide (d.isStandby = false ∧ (d.rail n).state = .ramp ∧ (d.rail n).searched = false ∧ searchWindows convs 128 0 0 0 = some (some code)) : Bool),
  -- clause 3
  (let n : Nat := 2; let convs : List Int := List.replicate 8 255; let d := seenBy (.windowSearch now n convs) (dev0.onRail n fun x => { x with state := .ramp, searched := false })
   decide (d.isStandby = false ∧ (d.rail n).state = .ramp ∧ (d.rail n).searched = false ∧ searchWindows convs 128 0 0 0 = some none ∧ d.tooFew n = false ∧ d.holdoverMet = false) : Bool),
  -- clause 4
  (let n : Nat := 2; let d := seenBy (.sequenceSlotDelay now n) (dev0.onRail n fun x => { x with seqDue := some 0, seqMask := 0 })
   ((d.rail n).seqDue).any fun t0 => decide (n < 8 ∧ d.isStandby = false ∧ t0 ≤ d.now ∧ (d.rail n).seqMask = 0) : Bool),
  -- clause 5
  (let n : Nat := 2; let d := seenBy (.stopSlotDelay now n) (({ dev0 with pins.above := true, hsw.state := .on, hsw.vibSent := 40000 } : Dev).onRail n fun x => { x with stopDue := some 0, state := .reg, fired := true })
   ((d.rail n).stopDue).any fun t0 => decide (d.isStandby = false ∧ t0 ≤ d.now ∧ d.wantsOn n = false ∧ (d.rail n).state = .reg ∧ (d.rail n).fired = true ∧ d.causesNow n = []) : Bool),
  -- clause 6
  (let n : Nat := 2; let d := seenBy (.hiccupTimeExpiry now n) (((dev0.onRail n fun x => { x with state := .hiccup, hicOver := false }).bits (aYARD_CFG n) 0 0 1).onRail n fun x => { x with dest := 1000 })
   decide (n < 8 ∧ d.isStandby = false ∧ (d.rail n).state = .hiccup ∧ (d.rail n).hicOver = false ∧ (d.rail n).hicEnd ≤ d.now ∧ d.wantsOn n = true ∧ (d.beginWarmRail n).released n = false) : Bool),
  -- clause 7
  (let n : Nat := 2; let d := seenBy (.hiccupTimeExpiry now n) ((fun d : Dev => { d with regs.hold := d.regs.act }) (((({ dev0 with pins.above := true, hsw.state := .on, hsw.vibSent := 40000 } : Dev).onRail n fun x => { x with state := .hiccup, hicOver := false }).bits (aYARD_CFG n) 0 0 1).onRail n fun x => { x with dest := 1000 }))
   decide (n < 8 ∧ d.isStandby = false ∧ (d.rail n).state = .hiccup ∧ (d.rail n).hicOver = false ∧ (d.rail n).hicEnd ≤ d.now ∧ d.wantsOn n = true ∧ (d.beginWarmRail n).released n = true ∧ (d.beginWarmRail n).wantsOn n = true) : Bool),
  -- clause 8
  (let n : Nat := 2; let d := seenBy (.railWarmStart now n) ((fun d : Dev => { d with regs.hold := d.regs.act }) ((((({ dev0 with pins.above := true, hsw.state := .on, hsw.vibSent := 40000 } : Dev).bits (aYARD_CFG n) 0 0 1).onRail n fun x => { x with dest := 1000, state := .hiccup, hicOver := true }).bits (aYARD_CFG n) 0 0 1).onRail n fun x => { x with dest := 1000 }))
   decide (d.isStandby = false ∧ (d.rail n).state = .hiccup ∧ (d.rail n).hicOver = true ∧ d.released n = true ∧ d.wantsOn n = true) : Bool)].all id) = true := by decide +kernel

/-- A state and operands for each hypothesis-bearing clause of `Obligations.SampleBoundaryQueuesALawJob`. -/
theorem test_meets_SampleBoundaryQueuesALawJob : ([
  -- clause 1
  (let n : Nat := 2; let track : Nat := 1; let d := seenBy (.railSampleBoundary now n track) (dev0.onRail n fun x => { x with state := .reg })
   decide (n < 8 ∧ d.rails.length = 8 ∧ d.laws.length = 8 ∧ d.tb.running = true ∧ d.now % d.p n = 0 ∧ d.isStandby = false ∧ (d.rail n).state = .reg) : Bool),
  -- clause 2
  (let t : Nat := now + 1; let n : Nat := 2; let track : Nat := 1; let d := seenBy (.railSampleBoundary t n track) (dev0)
   decide (d.tb.running = true ∧ d.now % d.p n ≠ 0) : Bool)].all id) = true := by decide +kernel

/-- A state and operands for each hypothesis-bearing clause of `Obligations.LawAndBalanceJobsRunThroughTheirUnits`. -/
theorem test_meets_LawAndBalanceJobsRunThroughTheirUnits : ([
  -- clause 1
  (let d := seenBy (.lawJobDispatch now) ((dev0.onLaw 2 fun x => { x with job := some ⟨⟨⟨(1, 0), (0, 0), (0, 0), (0, 0), (0, 0), (0, 0), (0, 0), (0, 0), (0, 0), 0, 100, 0, 100⟩, 5, 1000, 0, 48000, 10, 10, 400, 0, (0, 0), false, .none, false, 0, false, false⟩, now + 100, .pending, none⟩ }).onLawUnit 1 fun x => { x with serving := true })
   (freeUnit d.lawUnits).any fun u => (earliest (d.laws.zipIdx.filterMap fun x => match x.1.job with | some j => if j.phase = .pending then some (x.2, j.deadline) else none | none => none)).any fun n => decide (d.isStandby = false) : Bool),
  -- clause 2
  (let u : Nat := 1; let d := seenBy (.lawJobComplete now u) ((dev0.onLawUnit u fun x => { x with running := some (2, 0), dropped := false }).onLaw 2 fun x => { x with job := some ⟨⟨⟨(1, 0), (0, 0), (0, 0), (0, 0), (0, 0), (0, 0), (0, 0), (0, 0), (0, 0), 0, 100, 0, 100⟩, 5, 1000, 0, 48000, 10, 10, 400, 0, (0, 0), false, .none, false, 0, false, false⟩, now + 100, .running 1, none⟩ })
   (match (d.lawUnit u).running with
   | some (n, t0) => ((d.law n).job).any fun j => decide (d.isStandby = false ∧ (d.lawUnit u).dropped = false ∧ j.phase = .running u ∧ d.now ≤ j.deadline)
   | _ => false) : Bool),
  -- clause 3
  (let u : Nat := 1; let d := seenBy (.lawUnitHung now u) (dev0.onLawUnit u fun x => { x with running := some (2, 0), hung := false })
   (match (d.lawUnit u).running with
   | some (n, t0) => decide (d.isStandby = false ∧ (d.lawUnit u).hung = false ∧ t0 + 8 * usEu ≤ d.now)
   | _ => false) : Bool),
  -- clause 4
  (let d := seenBy (.balanceJobDispatch now) ((({ dev0 with bals := dev0.bals.set 2 (some ⟨now, now + 100, .pending, [(37, 3), (38, 4)]⟩) })).onBalUnit 1 fun x => { x with serving := true })
   (freeUnit d.balUnits).any fun u => (earliest (d.bals.zipIdx.filterMap fun x => match x.1 with | some j => if j.phase = .pending then some (x.2, j.deadline) else none | none => none)).any fun n => decide (d.isStandby = false) : Bool),
  -- clause 5
  (let u : Nat := 1; let d := seenBy (.balanceJobComplete now u) ((fun d : Dev => { d with bals := d.bals.set 2 (some ⟨now, now + 100, .running 1, [(37, 3), (38, 4)]⟩) }) ((dev0.onBalUnit u fun x => { x with running := some (2, 0), dropped := false }).onStall 37 fun x => { x with state := .conducting }))
   (match (d.balUnit u).running with
   | some (n, t0) => (d.bals.getD n none).any fun j => decide (d.isStandby = false ∧ (d.balUnit u).dropped = false ∧ j.phase = .running u ∧ d.now ≤ j.deadline)
   | _ => false) : Bool)].all id) = true := by decide +kernel

/-- A state and operands for each hypothesis-bearing clause of `Obligations.FramesLeaveForTheStages`. -/
theorem test_meets_FramesLeaveForTheStages : ([
  -- clause 1
  (let s : Nat := 37; let start : Nat := now + 6400; let d := seenBy (.edgeFrameSend now s start) ({ ((((((((dev0.bits aTB_LEAD 10 0 240).onLane (s / 16) fun x => { x with tx := [] }).bits (aYARD_CFG 2) 0 0 1).bits (aYARD_CFG 2) 17 4 400).bits (aYARD_BIND 37) 4 3 1).bits (aYARD_BIND 37) 2 0 2).onRail 2 fun x => { x with state := .reg }).onLane 2 fun x => { x with state := .up }).onStall 37 fun x => { x with state := .conducting } with sys.state := .run })
   ((List.range 8).find? (fun k => d.edgeDue k s start)).any fun n => decide (d.isStandby = false ∧ s < d.stalls.length ∧ (d.lane (s / 16)).tx = [] ∧ 512 * fitSlot 3 (slotAt (max (start - d.lead) d.now)) ≤ max 1 (edgeBound start (s % 16))) : Bool),
  -- clause 2
  (let s : Nat := 37; let start : Nat := now; let d := seenBy (.edgeFrameDiscard now s start) ({ (((((((dev0.onLane (s / 16) fun x => { x with tx := [] }).bits (aYARD_CFG 2) 0 0 1).bits (aYARD_CFG 2) 17 4 400).bits (aYARD_BIND 37) 4 3 1).bits (aYARD_BIND 37) 2 0 2).onRail 2 fun x => { x with state := .reg }).onLane 2 fun x => { x with state := .up }).onStall 37 fun x => { x with state := .conducting } with sys.state := .run })
   ((List.range 8).find? (fun k => d.edgeDue k s start)).any fun n => decide (d.isStandby = false ∧ s < d.stalls.length ∧ edgeBound start (s % 16) < d.now ∧ (d.lane (s / 16)).tx = []) : Bool),
  -- clause 3
  (let s : Nat := 37; let d := seenBy (.stopFrameSend now s) ((dev0.onStall s fun x => { x with stopDue := true, edges := [⟨0, 100, false, 0, 0, 0⟩] }).onLane (s / 16) fun x => { x with state := .up })
   ((d.stall s).edges.head?).any fun x => decide (d.isStandby = false ∧ (d.stall s).stopDue = true ∧ x.start + x.on ≤ d.now ∧ d.laneUp (s / 16) = true) : Bool),
  -- clause 4
  (let t : Nat := 51200 * 3; let l : Nat := 3; let d := seenBy (.holdSend t l) (dev0.onLane l fun x => { x with tx := [], state := .up })
   decide (d.tb.running = true ∧ (d.lane l).holds? = true ∧ d.now % 2 ^ 32 % 51200 = 0 ∧ (d.lane l).tx = []) : Bool)].all id) = true := by decide +kernel

/-- A state and operands for each hypothesis-bearing clause of `Obligations.FramesFromTheStagesAreTaken`. -/
theorem test_meets_FramesFromTheStagesAreTaken : ([
  -- clause 1
  (let l : Nat := 3; let b : Body := mkBody 8 4 [(43, 100), (35, 60), (27, 9), (26, 1), (24, 1)]; let d := seenBy (.telemReceive now l b) (dev0.onLane l fun x => { x with state := .up })
   decide (l < 32 ∧ (d.lane l).state = .up ∧ bodyOk b = true ∧ bfld b 63 60 = 8 ∧ bfld b 59 55 < 16 ∧ 16 * l + bfld b 59 55 < d.stalls.length) : Bool),
  -- clause 2
  (let l : Nat := 3; let b : Body := 1; let d := seenBy (.telemReceive now l b) (dev0.onLane l fun x => { x with state := .up })
   decide (l < 32 ∧ (d.lane l).state = .up ∧ bodyOk b = false) : Bool),
  -- clause 3
  (let l : Nat := 3; let b : Body := mkBody 9 4 [(51, 0)]; let d := seenBy (.probeAnswer now l b) (dev0.onLane l fun x => { x with state := .up, asks := [⟨4, .probe 0, 0, now + 100000⟩] })
   ((d.lane l).owed d.now (bfld b 59 55) AskKind.isProbe).any fun a => decide (l < 32 ∧ (d.lane l).state = .up ∧ bodyOk b = true ∧ bfld b 63 60 = 9 ∧ bfld b 59 55 < 16 ∧ bfld b 54 51 = 0 ∧ bfld b 50 43 = 0 ∧ a.kind = .probe 0 ∧ (d.stall (16 * l + bfld b 59 55)).returning ≠ 1 ∧ d.railOf (16 * l + bfld b 59 55) = none) : Bool),
  -- clause 4
  (let l : Nat := 3; let b : Body := mkBody 9 4 [(51, 0), (43, 4)]; let d := seenBy (.probeAnswer now l b) (dev0.onLane l fun x => { x with state := .up, asks := [⟨4, .probe 0, 0, now + 100000⟩] })
   ((d.lane l).owed d.now (bfld b 59 55) AskKind.isProbe).any fun a => decide (l < 32 ∧ (d.lane l).state = .up ∧ bodyOk b = true ∧ bfld b 63 60 = 9 ∧ bfld b 59 55 < 16 ∧ bfld b 54 51 = 0 ∧ bfld b 50 43 ≠ 0) : Bool),
  -- clause 5
  (let l : Nat := 3; let b : Body := mkBody 9 4 [(51, 1), (35, 7), (27, 5)]; let d := seenBy (.cfgAck now l b) (dev0.onLane l fun x => { x with state := .up, asks := [⟨4, .cfg 7 5, 0, now + 100000⟩] })
   ((d.lane l).owed d.now (bfld b 59 55) (AskKind.acked b)).any fun a => decide (l < 32 ∧ (d.lane l).state = .up ∧ bodyOk b = true ∧ bfld b 63 60 = 9 ∧ bfld b 59 55 < 16 ∧ bfld b 54 51 = 1) : Bool),
  -- clause 6
  (let l : Nat := 3; let b : Body := mkBody 9 4 [(51, 2)]; let d := seenBy (.cfgNak now l b) (dev0.onLane l fun x => { x with state := .up })
   decide (l < 32 ∧ (d.lane l).state = .up ∧ bodyOk b = true ∧ bfld b 63 60 = 9 ∧ bfld b 59 55 < 16 ∧ bfld b 54 51 = 2) : Bool),
  -- clause 7
  (let l : Nat := 3; let b : Body := mkBody 9 4 [(51, 3), (43, 6)]; let d := seenBy (.faultChange now l b) ({ dev0.onLane l fun x => { x with state := .up } with pins.role := 1 })
   decide (l < 32 ∧ (d.lane l).state = .up ∧ bodyOk b = true ∧ bfld b 63 60 = 9 ∧ bfld b 59 55 < 16 ∧ bfld b 54 51 = 3 ∧ d.isStandby = true) : Bool),
  -- clause 8
  (let l : Nat := 3; let b : Body := mkBody 9 4 [(51, 3), (43, 0)]; let d := seenBy (.faultChange now l b) ((dev0.onLane l fun x => { x with state := .up }).onStall (16 * l + 4) fun x => { x with faults := 2 })
   decide (l < 32 ∧ (d.lane l).state = .up ∧ bodyOk b = true ∧ bfld b 63 60 = 9 ∧ bfld b 59 55 < 16 ∧ bfld b 54 51 = 3 ∧ d.isStandby = false ∧ (bfld b 50 43).testBit 2 = false ∧ d.faultCause (bfld b 50 43 &&& (255 - (d.stall (16 * l + bfld b 59 55)).faults % 256)) = none) : Bool),
  -- clause 9
  (let l : Nat := 3; let b : Body := mkBody 9 4 [(51, 0)]; let d := seenBy (.probeAnswer now l b) (((dev0.onLane l fun x => { x with state := .up, asks := [⟨4, .probe 0, 0, now + 100000⟩] }).bits (aYARD_BIND 52) 4 3 1).bits (aYARD_BIND 52) 2 0 2)
   ((d.lane l).owed d.now (bfld b 59 55) AskKind.isProbe).any fun a => decide (l < 32 ∧ 16 * l + bfld b 59 55 < d.stalls.length ∧ (d.lane l).state = .up ∧ bodyOk b = true ∧ bfld b 63 60 = 9 ∧ bfld b 59 55 < 16 ∧ bfld b 54 51 = 0 ∧ bfld b 50 43 = 0 ∧ a.kind = .probe 0 ∧ (d.stall (16 * l + bfld b 59 55)).returning ≠ 1) : Bool)].all id) = true := by decide +kernel

/-- A state and operands for each hypothesis-bearing clause of `Obligations.CensusRequestsAreSettledOrRepeated`. -/
theorem test_meets_CensusRequestsAreSettledOrRepeated : ([
  -- clause 1
  (let l : Nat := 3; let b : Body := mkBody 10 4 [(54, 1), (52, 2), (20, 0x12345678)]; let d := seenBy (.censusAnswer now l b) (dev0.onLane l fun x => { x with state := .training, asks := [⟨4, .census 2, 0, now + 100000⟩] })
   ((d.lane l).owed d.now (bfld b 59 55) (fun k => k = .census (bfld b 53 52))).any fun a => decide (l < 32 ∧ (d.lane l).state = .training ∧ bodyOk b = true ∧ bfld b 63 60 = 10 ∧ bfld b 59 55 < 16 ∧ bfld b 54 54 = 1) : Bool),
  -- clause 2
  (let l : Nat := 3; let p : Nat := 4; let d := seenBy (.answerWindowExpiry now l p) (dev0.onLane l fun x => { x with asks := [⟨4, .census 2, 1, 0⟩] })
   (match (d.lane l).asks.filter (fun a => a.pos = p && decide (a.due ≤ d.now)) with
   | [a] => (match a.kind with
   | .census w => decide (a.tries < 3)
   | _ => false)
   | _ => false) : Bool),
  -- clause 3
  (let l : Nat := 3; let p : Nat := 4; let d := seenBy (.answerWindowExpiry now l p) (dev0.onLane l fun x => { x with asks := [⟨4, .census 2, 3, 0⟩] })
   (match (d.lane l).asks.filter (fun a => a.pos = p && decide (a.due ≤ d.now)) with
   | [a] => (match a.kind with
   | .census w => decide (3 ≤ a.tries)
   | _ => false)
   | _ => false) : Bool)].all id) = true := by decide +kernel

/-- A state and operands for each hypothesis-bearing clause of `Obligations.LanesTrainAndLoseLock`. -/
theorem test_meets_LanesTrainAndLoseLock : ([
  -- clause 1
  (let l : Nat := 3; let marks : List Nat := []; let d := seenBy (.laneTrainingPhase now l marks) (dev0.onLane l fun x => { x with phase := 1 })
   decide ((d.lane l).phase = 1) : Bool),
  -- clause 2
  (let l : Nat := 3; let marks : List Nat := List.replicate 16 1000; let d := seenBy (.laneTrainingPhase now l marks) (dev0.onLane l fun x => { x with phase := 2 })
   (meanRt marks).any fun rt => decide ((d.lane l).phase = 2 ∧ (d.lane l).state ≠ .parked) : Bool),
  -- clause 3
  (let l : Nat := 3; let marks : List Nat := []; let d := seenBy (.laneTrainingPhase now l marks) (dev0.onLane l fun x => { x with phase := 3, asks := [] })
   decide ((d.lane l).phase = 3 ∧ (d.lane l).asks = [] ∧ d.isStandby = false) : Bool),
  -- clause 4
  (let l : Nat := 3; let marks : List Nat := []; let d := seenBy (.laneTrainingPhase now l marks) (dev0.onLane l fun x => { x with phase := 4 })
   decide ((d.lane l).phase = 4) : Bool),
  -- clause 5
  (let l : Nat := 3; let marks : List Nat := []; let d := seenBy (.laneTrainingPhase now l marks) (dev0.onLane l fun x => { x with phase := 5, asks := [] })
   decide ((d.lane l).phase = 5 ∧ (d.lane l).asks = [] ∧ d.inPair = false) : Bool),
  -- clause 6
  (let l : Nat := 3; let marks : List Nat := []; let d := seenBy (.laneTrainingPhase now l marks) (dev0.onLane l fun x => { x with phase := 6, state := .training })
   decide ((d.lane l).phase = 6 ∧ (d.lane l).state = .training) : Bool),
  -- clause 7
  (let l : Nat := 3; let d := seenBy (.trainingAttemptTimeout now l) ((dev0.onLane l fun x => { x with phase := 2 }).bits aLANE_GCFG 31 0 0)
   decide ((d.lane l).phase ≠ 0 ∧ (d.lane l).attemptAt + 500 * usEu ≤ d.now ∧ (d.lane l).attempt < atLeast1 d.regs.act.LANE_GCFG_TRAIN_TRIES) : Bool),
  -- clause 8
  (let l : Nat := 3; let slot : Nat := 7; let b : Body := 1; let dev : Int := 0; let d := seenBy (.returnedFrameCheck now l slot b dev) (dev0.onLane l fun x => { x with tx := [⟨7, 3, 2, 8, 0, false⟩] })
   ((d.lane l).tx.find? (fun g => g.slot = slot)).any fun g => decide (b ≠ g.body ∧ g.rank ≠ 4) : Bool),
  -- clause 9
  (let l : Nat := 3; let slot : Nat := 7; let b : Body := holdBody 3584; let dev : Int := 0; let d := seenBy (.returnedFrameCheck now l slot b dev) (dev0.onLane l fun x => { x with tx := [⟨7, 4, holdBody 3584, 8, 0, false⟩] })
   ((d.lane l).tx.find? (fun g => g.slot = slot)).any fun g => decide (bodyOk b = true ∧ b = g.body ∧ g.rank = 4 ∧ dev.natAbs ≤ 32 ∧ (((true :: (d.lane l).holds).take 256).filter (!·)).length < 16) : Bool),
  -- clause 10
  (let l : Nat := 3; let d := seenBy (.lossOfLock now l) (dev0.onLane l fun x => { x with state := .up })
   decide ((d.lane l).state = .up) : Bool),
  -- clause 11
  (let l : Nat := 3; let marks : List Nat := List.replicate 16 1000; let d := seenBy (.laneTrainingPhase now l marks) (dev0.onLane l fun x => { x with phase := 2, state := .parked })
   (meanRt marks).any fun rt => decide ((d.lane l).phase = 2 ∧ (d.lane l).state = .parked) : Bool),
  -- clause 12
  (let l : Nat := 3; let marks : List Nat := []; let d := seenBy (.laneTrainingPhase now l marks) ({ dev0.onLane l fun x => { x with phase := 6, state := .parked } with sys.wakeAt := some now })
   (d.sys.wakeAt).any fun w => decide ((d.lane l).phase = 6 ∧ (d.lane l).state = .parked ∧ d.now ≤ w + 10 * usEu) : Bool),
  -- clause 13
  (let l : Nat := 3; let marks : List Nat := []; let d := seenBy (.laneTrainingPhase now l marks) ({ dev0.onLane l fun x => { x with phase := 6, state := .parked } with sys.wakeAt := some 0 })
   (d.sys.wakeAt).any fun w => decide ((d.lane l).phase = 6 ∧ (d.lane l).state = .parked ∧ w + 10 * usEu < d.now) : Bool)].all id) = true := by decide +kernel

/-- A state and operands for each hypothesis-bearing clause of `Obligations.EpochBoundariesAreTakenOrDeferred`. -/
theorem test_meets_EpochBoundariesAreTakenOrDeferred : ([
  -- clause 1
  (let n : Nat := 2; let d := seenBy (.epochBoundaryDecision now n) (((dev0.onRail n fun x => { x with state := .reg }).onYard n fun x => { x with boundary := none, pend := [⟨.fill, 5, 0⟩] }).onRail n fun x => { x with mode := .linear })
   decide (d.isStandby = false ∧ (d.rail n).state = .reg ∧ (d.yard n).boundary = none ∧ (d.yard n).pend.filter (fun c => c.since + d.p n ≤ d.now) ≠ [] ∧ d.now % d.p n = 0 ∧ (d.yard n).drainEnd.getD 0 ≤ d.now + d.lead ∧ (d.rail n).mode = .linear ∧ (d.yard n).linearSince + d.p n ≤ d.now) : Bool),
  -- clause 2
  (let n : Nat := 2; let d := seenBy (.epochBoundaryDecision now n) (((dev0.onRail n fun x => { x with state := .reg }).onYard n fun x => { x with boundary := none, pend := [⟨.fill, 5, 0⟩] }).onRail n fun x => { x with mode := .cut })
   decide (d.isStandby = false ∧ (d.rail n).state = .reg ∧ (d.yard n).boundary = none ∧ (d.yard n).pend.filter (fun c => c.since + d.p n ≤ d.now) ≠ [] ∧ d.now % d.p n = 0 ∧ (d.yard n).drainEnd.getD 0 ≤ d.now + d.lead ∧ ((d.rail n).mode = .burst ∨ (d.rail n).mode = .cut ∨ d.now < (d.yard n).linearSince + d.p n)) : Bool),
  -- clause 3
  (let n : Nat := 2; let d := seenBy (.epochBoundary now n) (dev0.onYard n fun x => { x with boundary := some 0 })
   ((d.yard n).boundary).any fun b => decide (d.isStandby = false ∧ b ≤ d.now) : Bool),
  -- clause 4
  (let n : Nat := 2; let d := seenBy (.drainEnd now n) (dev0.onYard n fun x => { x with boundary := none, drainEnd := some 0 })
   ((d.yard n).drainEnd).any fun b => decide (d.isStandby = false ∧ (d.yard n).boundary = none ∧ b ≤ d.now) : Bool)].all id) = true := by decide +kernel

/-- A state and operands for each hypothesis-bearing clause of `Obligations.StallsAreShedProbedAndFlushed`. -/
theorem test_meets_StallsAreShedProbedAndFlushed : ([
  -- clause 1
  (let s : Nat := 37; let d := seenBy (.shedProgress now s) (((dev0.bits (aYARD_BIND s) 4 3 1).bits (aYARD_BIND s) 2 0 2).onStall s fun x => { x with state := .tapering })
   (d.railOf s).any fun n => decide (d.isStandby = false ∧ (d.stall s).state = .tapering ∧ (d.stall s).taperFrom + d.regs.act.YARD_SHEDTIME_TAPER n * d.tp n ≤ d.now) : Bool),
  -- clause 2
  (let s : Nat := 37; let d := seenBy (.shedProgress now s) (((dev0.bits (aYARD_BIND s) 4 3 1).bits (aYARD_BIND s) 2 0 2).onStall s fun x => { x with state := .held })
   (d.railOf s).any fun n => decide (d.isStandby = false ∧ (d.stall s).state = .held ∧ (d.stall s).heldEnd ≤ d.now) : Bool),
  -- clause 3
  (let s : Nat := 37; let n : Nat := 2; let d := seenBy (.telemTimeout now s) ((((dev0.bits (aYARD_BIND s) 4 3 1).bits (aYARD_BIND s) 2 0 2).onRail n fun x => { x with state := .reg }).onStall s fun x => { x with state := .conducting })
   (d.railOf s).any fun n => decide (d.isStandby = false ∧ (d.rail n).state = .reg ∧ (d.stall s).state = .conducting ∧ (d.stall s).fromW ≤ d.now ∧ (∀ y ∈ d.yards, y.pend = []) ∧ max ((d.stall s).telemAt.getD 0) (d.stall s).entered + 8 * d.tp n ≤ d.now) : Bool),
  -- clause 4
  (let s : Nat := 37; let d := seenBy (.spareProbe now s) (((dev0.bits aYARD_SPARECFG 7 0 1).onStall s fun x => { x with state := .spare }).onLane (s / 16) fun x => { x with state := .up })
   decide (d.isStandby = false ∧ d.regs.act.YARD_SPARECFG_PROBE_INT ≠ 0 ∧ (d.stall s).state = .spare ∧ d.laneUp (s / 16) = true ∧ (d.stall s).probes + d.regs.act.YARD_SPARECFG_PROBE_INT * msEu ≤ d.now) : Bool),
  -- clause 5
  (let d := seenBy (.wearFlush now) ({ dev0 with pins.role := 1 })
   decide (d.tb.running = true ∧ d.isStandby = true ∧ d.hsw.wearFlush + atLeast1 d.regs.act.YARD_WEARGCFG_FLUSH * secEu ≤ d.now) : Bool),
  -- clause 6
  (let d := seenBy (.wearFlush now) (dev0)
   decide (d.tb.running = true ∧ d.isStandby = false ∧ d.hsw.wearFlush + atLeast1 d.regs.act.YARD_WEARGCFG_FLUSH * secEu ≤ d.now) : Bool)].all id) = true := by decide +kernel

/-- A state and operands for each hypothesis-bearing clause of `Obligations.LoadPortsAnswerTheirRequests`. -/
theorem test_meets_LoadPortsAnswerTheirRequests : ([
  -- clause 1
  (let k : Nat := 1; let n : Nat := 2; let seq : Nat := 5; let arg : Nat := 1; let d := seenBy (.nop now k n seq arg) (({ dev0 with sys.state := .run } : Dev).bits (aLCP_PORTCFG k) 0 0 1)
   decide (d.lcpServed = true ∧ k < 4 ∧ d.portEn k = true) : Bool),
  -- clause 2
  (let k : Nat := 1; let n : Nat := 2; let seq : Nat := 5; let item : Nat := 5; let d := seenBy (.query now k n seq item) (({ dev0 with sys.state := .run } : Dev).bits (aLCP_PORTCFG k) 0 0 1)
   decide (d.lcpServed = true ∧ k < 4 ∧ item % 16 < 7 ∧ d.portEn k = true ∧ (item % 16 = 5 ∨ (d.regs.act.LCP_PORTCFG_READMASK k).testBit n = true)) : Bool),
  -- clause 3
  (let k : Nat := 1; let n : Nat := 2; let seq : Nat := 5; let item : Nat := 8; let d := seenBy (.query now k n seq item) ({ dev0 with sys.state := .run })
   decide (d.lcpServed = true ∧ k < 4 ∧ 7 ≤ item % 16) : Bool),
  -- clause 4
  (let k : Nat := 1; let n : Nat := 2; let seq : Nat := 5; let mask : Nat := 1; let d := seenBy (.clralert now k n seq mask) (({ dev0 with sys.state := .run } : Dev).bits (aLCP_PORTCFG k) 0 0 1)
   decide (d.lcpServed = true ∧ k < 4 ∧ d.portEn k = true ∧ (d.port k).last ≠ reqWord 5 n seq ((mask % 32) * 2 ^ 24)) : Bool),
  -- clause 5
  (let k : Nat := 1; let n : Nat := 2; let seq : Nat := 5; let hint : Nat := 1; let d := seenBy (.pstate now k n seq hint) (((({ dev0 with sys.state := .run } : Dev).bits (aLCP_PORTCFG k) 0 0 1).bits (aYARD_CFG n) 0 0 1).bits (aLCP_RAILCFG n) 2 0 k)
   decide (d.lcpServed = true ∧ k < 4 ∧ d.portEn k = true ∧ d.owner n = some k ∧ (d.port k).last ≠ reqWord 2 n seq ((hint % 8) * 2 ^ 26)) : Bool),
  -- clause 6
  (let k : Nat := 1; let raw : Nat := 1; let d := seenBy (.badReq now k raw) ({ dev0 with sys.state := .run })
   decide (d.lcpServed = true ∧ k < 4 ∧ rawStatus raw ≠ 0) : Bool),
  -- clause 7
  (let k : Nat := 1; let d := seenBy (.lcpAbort now k) ({ dev0 with sys.state := .run })
   decide (d.lcpServed = true ∧ k < 4) : Bool)].all id) = true := by decide +kernel

/-- A state and operands for each hypothesis-bearing clause of `Obligations.SetvMovesTheDestination`. -/
theorem test_meets_SetvMovesTheDestination : ([
  -- clause 1
  (let k : Nat := 1; let n : Nat := 2; let seq : Nat := 5; let code : Nat := 1000; let cls : Nat := 3; let notify : Bool := true; let d := seenBy (.setv now k n seq code cls notify) (((((({ dev0 with sys.state := .run } : Dev).bits (aLCP_PORTCFG k) 0 0 1).bits (aYARD_CFG n) 0 0 1).bits (aLCP_RAILCFG n) 2 0 k).bits (aLCP_LIM n) 11 0 600).bits (aLCP_LIM n) 27 16 3000)
   decide (d.lcpServed = true ∧ k < 4 ∧ k < d.ports.length ∧ n < d.rails.length ∧ d.portEn k = true ∧ d.owner n = some k ∧ d.inRange n (code % 4096) = true ∧ (d.port k).last ≠ reqWord 1 n seq ((code % 4096) * 2 ^ 17 + (cls % 16) * 2 ^ 13 + notify.toNat * 2 ^ 12) ∧ code % 4096 ≠ 0) : Bool),
  -- clause 2
  (let k : Nat := 1; let n : Nat := 2; let seq : Nat := 5; let code : Nat := 0; let cls : Nat := 3; let notify : Bool := true; let d := seenBy (.setv now k n seq code cls notify) (((({ dev0 with sys.state := .run } : Dev).bits (aLCP_PORTCFG k) 0 0 1).bits (aYARD_CFG n) 0 0 1).bits (aLCP_RAILCFG n) 2 0 k)
   decide (d.lcpServed = true ∧ k < 4 ∧ k < d.ports.length ∧ n < d.rails.length ∧ d.portEn k = true ∧ d.owner n = some k ∧ (d.port k).last ≠ reqWord 1 n seq ((code % 4096) * 2 ^ 17 + (cls % 16) * 2 ^ 13 + notify.toNat * 2 ^ 12) ∧ code % 4096 = 0) : Bool),
  -- clause 3
  (let k : Nat := 1; let n : Nat := 2; let seq : Nat := 5; let code : Nat := 1000; let cls : Nat := 3; let notify : Bool := true; let d := seenBy (.setv now k n seq code cls notify) ({ dev0 with sys.state := .run })
   decide (d.lcpServed = true ∧ k < 4 ∧ (d.port k).last ≠ reqWord 1 n seq ((code % 4096) * 2 ^ 17 + (cls % 16) * 2 ^ 13 + notify.toNat * 2 ^ 12) ∧ d.owner n ≠ some k) : Bool),
  -- clause 4
  (let k : Nat := 1; let n : Nat := 2; let seq : Nat := 5; let code : Nat := 4000; let cls : Nat := 3; let notify : Bool := true; let d := seenBy (.setv now k n seq code cls notify) (((({ dev0 with sys.state := .run } : Dev).bits (aLCP_PORTCFG k) 0 0 1).bits (aYARD_CFG n) 0 0 1).bits (aLCP_RAILCFG n) 2 0 k)
   decide (d.lcpServed = true ∧ k < 4 ∧ d.portEn k = true ∧ d.owner n = some k ∧ d.inRange n (code % 4096) = false ∧ (d.port k).last ≠ reqWord 1 n seq ((code % 4096) * 2 ^ 17 + (cls % 16) * 2 ^ 13 + notify.toNat * 2 ^ 12)) : Bool),
  -- clause 5
  (let k : Nat := 1; let n : Nat := 2; let seq : Nat := 5; let code : Nat := 1000; let cls : Nat := 3; let notify : Bool := true; let d := seenBy (.setv now k n seq code cls notify) (({ dev0 with sys.state := .run } : Dev).onPort k fun x => { x with last := reqWord 1 n seq ((code % 4096) * 2 ^ 17 + (cls % 16) * 2 ^ 13 + notify.toNat * 2 ^ 12) })
   decide (d.lcpServed = true ∧ k < 4 ∧ (d.port k).last = reqWord 1 n seq ((code % 4096) * 2 ^ 17 + (cls % 16) * 2 ^ 13 + notify.toNat * 2 ^ 12)) : Bool)].all id) = true := by decide +kernel

/-- A state and operands for each hypothesis-bearing clause of `Obligations.StepAheadWarnsAndIsMissed`. -/
theorem test_meets_StepAheadWarnsAndIsMissed : ([
  -- clause 1
  (let k : Nat := 1; let n : Nat := 2; let seq : Nat := 5; let lead : Nat := 1; let dir : Nat := 1; let cls : Nat := 3; let d := seenBy (.stepAhead now k n seq lead dir cls) ((((({ dev0 with sys.state := .run } : Dev).bits (aLCP_PORTCFG k) 0 0 1).bits (aYARD_CFG n) 0 0 1).bits (aLCP_RAILCFG n) 2 0 k).onRail n fun x => { x with state := .reg, mode := .linear })
   decide (d.lcpServed = true ∧ k < 4 ∧ k < d.ports.length ∧ d.portEn k = true ∧ d.owner n = some k ∧ cls % 16 ≠ 0 ∧ (d.rail n).state = .reg ∧ (d.rail n).mode = .linear ∧ (d.port k).last ≠ reqWord 3 n seq ((lead % 64) * 2 ^ 23 + (dir % 2) * 2 ^ 22 + (cls % 16) * 2 ^ 18)) : Bool),
  -- clause 2
  (let k : Nat := 1; let n : Nat := 2; let seq : Nat := 5; let lead : Nat := 1; let dir : Nat := 1; let cls : Nat := 3; let d := seenBy (.stepAhead now k n seq lead dir cls) (((({ dev0 with sys.state := .run } : Dev).bits (aLCP_PORTCFG k) 0 0 1).bits (aYARD_CFG n) 0 0 1).bits (aLCP_RAILCFG n) 2 0 k)
   decide (d.lcpServed = true ∧ k < 4 ∧ d.portEn k = true ∧ d.owner n = some k ∧ cls % 16 ≠ 0 ∧ (d.rail n).state ≠ .reg ∧ (d.port k).last ≠ reqWord 3 n seq ((lead % 64) * 2 ^ 23 + (dir % 2) * 2 ^ 22 + (cls % 16) * 2 ^ 18)) : Bool),
  -- clause 3
  (let n : Nat := 2; let d := seenBy (.stepAheadMiss now n) (dev0.onRail n fun x => { x with warn := some ⟨0, 0, 1, 0, 0, false⟩, state := .reg })
   ((d.rail n).warn).any fun w => decide (d.isStandby = false ∧ (d.rail n).state = .reg ∧ d.now % d.p n = 0 ∧ w.ts + d.regs.act.LCP_STEPCFG_GRACE n * usEu ≤ d.now) : Bool)].all id) = true := by decide +kernel

/-- A state and operands for each hypothesis-bearing clause of `Obligations.EpisodesStartRenewAndEnd`. -/
theorem test_meets_EpisodesStartRenewAndEnd : ([
  -- clause 1
  (let n : Nat := 2; let d := seenBy (.episodeStart now n) (((dev0.onComp n fun x => { x with level := true, acted := false }).onRail n fun x => { x with state := .reg }).bits (aXNT_CFG n) 0 0 1)
   decide (d.isStandby = false ∧ d.dwellMet n = true ∧ d.dwellMet (8 + n) = false ∧ (d.rail n).state = .reg ∧ d.regs.act.XNT_CFG_UV_EN n = 1 ∧ ((d.rail n).episode.any fun x => !x.cut) = false) : Bool),
  -- clause 2
  (let n : Nat := 2; let d := seenBy (.episodeStart now n) (((dev0.onComp (8 + n) fun x => { x with level := true, acted := false }).onRail n fun x => { x with state := .reg }).bits (aXNT_CFG n) 1 1 1)
   decide (d.isStandby = false ∧ d.dwellMet (8 + n) = true ∧ (d.rail n).state = .reg ∧ d.regs.act.XNT_CFG_OV_EN n = 1 ∧ ((d.rail n).episode.any fun x => x.cut) = false) : Bool),
  -- clause 3
  (let n : Nat := 2; let d := seenBy (.episodeRenewal now n) ((((((dev0.onRail n fun x => { x with episode := some ⟨false, 0, 100, [37]⟩ }).onComp 2 fun x => { x with level := true }).onRail n fun x => { x with state := .reg }).bits (aXNT_CFG n) 0 0 1).onComp 0 fun x => { x with level := true }).onComp 2 fun x => { x with level := true })
   ((d.rail n).episode).any fun x => decide (d.isStandby = false ∧ x.ti + x.dur ≤ d.now ∧ (d.comp (if x.cut then 8 + n else n)).level = true ∧ d.epActs n x = true ∧ (d.rail n).nframes < atLeast1 (if x.cut then d.regs.act.XNT_CUT_MAXN n else d.regs.act.XNT_BURST_MAXN n)) : Bool),
  -- clause 4
  (let n : Nat := 2; let d := seenBy (.episodeRenewal now n) ((((((dev0.onRail n fun x => { x with episode := some ⟨false, 0, 100, [37]⟩ }).onComp 2 fun x => { x with level := true }).onRail n fun x => { x with state := .reg }).bits (aXNT_CFG n) 0 0 1).onComp 2 fun x => { x with level := true }).onRail n fun x => { x with nframes := 200 })
   ((d.rail n).episode).any fun x => decide (d.isStandby = false ∧ x.ti + x.dur ≤ d.now ∧ (d.comp (if x.cut then 8 + n else n)).level = true ∧ d.epActs n x = true ∧ atLeast1 (if x.cut then d.regs.act.XNT_CUT_MAXN n else d.regs.act.XNT_BURST_MAXN n) ≤ (d.rail n).nframes) : Bool),
  -- clause 5
  (let n : Nat := 2; let d := seenBy (.episodeEnd now n) ((dev0.onRail n fun x => { x with episode := some ⟨false, 0, 100, [37]⟩ }).onComp 2 fun x => { x with level := false })
   ((d.rail n).episode).any fun x => decide (d.isStandby = false ∧ (d.comp (if x.cut then 8 + n else n)).level = false ∧ (d.comp (if x.cut then 8 + n else n)).since + 1024 ≤ d.now) : Bool),
  -- clause 6
  (let n : Nat := 2; let d := seenBy (.episodeRenewal now n) ((((dev0.onRail n fun x => { x with episode := some ⟨false, 0, 100, [37]⟩ }).onComp 2 fun x => { x with level := true }).onRail n fun x => { x with state := .off }).onComp 2 fun x => { x with level := true })
   ((d.rail n).episode).any fun x => decide (d.isStandby = false ∧ x.ti + x.dur ≤ d.now ∧ (d.comp (if x.cut then 8 + n else n)).level = true ∧ d.epActs n x = false) : Bool)].all id) = true := by decide +kernel

/-- A state and operands for each hypothesis-bearing clause of `Obligations.ConversionsAndReturnedEnergyAccumulate`. -/
theorem test_meets_ConversionsAndReturnedEnergyAccumulate : ([
  -- clause 1
  (let n : Nat := 2; let code : Int := 5; let d := seenBy (.errorConversion now n code) (dev0)
   decide (d.tb.running = true ∧ d.now % 1024 = 0 ∧ d.sys.state ≠ .idle ∧ n < d.rails.length ∧ ((d.rail n).state ≠ .ramp ∨ (d.rail n).searched = true)) : Bool),
  -- clause 2
  (let n : Nat := 2; let code : Int := 5; let d := seenBy (.errorConversion now n code) (dev0.onRail n fun x => { x with state := .ramp, searched := false })
   decide (d.tb.running = true ∧ d.now % 1024 = 0 ∧ d.sys.state ≠ .idle ∧ n < d.rails.length ∧ (d.rail n).state = .ramp ∧ (d.rail n).searched = false) : Bool),
  -- clause 3
  (let d := seenBy (.returnedEnergyUpdate now) ((((dev0.onRail 2 fun x => { x with state := .reg, vt := 1000 }).onStall 37 fun x => { x with state := .conducting, cur := -160 }).bits (aYARD_BIND 37) 4 3 1).bits (aYARD_BIND 37) 2 0 2)
   decide (d.isStandby = false ∧ d.tb.running = true ∧ d.now % usEu = 0 ∧ d.pnet < 0) : Bool),
  -- clause 4
  (let d := seenBy (.returnedEnergyUpdate now) (dev0)
   decide (d.isStandby = false ∧ d.tb.running = true ∧ d.now % usEu = 0 ∧ 0 ≤ d.pnet) : Bool)].all id) = true := by decide +kernel

/-- A state and operands for each hypothesis-bearing clause of `Obligations.ProtectionTurnsRailsOff`. -/
theorem test_meets_ProtectionTurnsRailsOff : ([
  -- clause 1
  (let n : Nat := 2; let d := seenBy (.lawDeadlineTurnOff now n) ((dev0.onRail n fun x => { x with state := .reg }).onLaw n fun x => { x with missDue := true })
   decide (d.isStandby = false ∧ n < 8 ∧ (d.rail n).state = .reg ∧ d.missMet n = true) : Bool),
  -- clause 2
  (let n : Nat := 2; let d := seenBy (.overcurrentTurnOff now n) (((({ dev0.onRail n fun x => { x with state := .reg, ocRun := 300 } with pins.above := true, hsw.state := .on, hsw.vibSent := 40000 } : Dev).onLaw n fun x => { x with groups := [] }).bits (aPROT_HIC n) 15 12 3).bits (aPROT_HIC n) 3 0 0)
   decide (d.isStandby = false ∧ n < 8 ∧ (d.rail n).state = .reg ∧ d.ocMet n = true ∧ d.causesNow n = [3] ∧ (d.law n).groups = [] ∧ (d.rail n).retries < d.regs.act.PROT_HIC_RETRY_MAX n) : Bool),
  -- clause 3
  (let n : Nat := 2; let d := seenBy (.overcurrentTurnOff now n) (({ dev0.onRail n fun x => { x with state := .reg, ocRun := 300 } with pins.above := true, hsw.state := .on, hsw.vibSent := 40000 } : Dev).onLaw n fun x => { x with groups := [] })
   decide (d.isStandby = false ∧ n < 8 ∧ (d.rail n).state = .reg ∧ d.ocMet n = true ∧ d.causesNow n = [3] ∧ (d.law n).groups = [] ∧ d.regs.act.PROT_HIC_RETRY_MAX n ≤ (d.rail n).retries) : Bool),
  -- clause 4
  (let n : Nat := 2; let d := seenBy (.railOverTemperature now n) (dev0.onRail n fun x => { x with state := .reg, otRun := 300 })
   decide (d.isStandby = false ∧ n < 8 ∧ (d.rail n).state = .reg ∧ d.otMet n = true) : Bool),
  -- clause 5
  (let n : Nat := 2; let d := seenBy (.overvoltage now n) (dev0.onRail n fun x => { x with state := .reg, ovRun := 300 })
   decide (d.isStandby = false ∧ n < 8 ∧ (d.rail n).state = .reg ∧ d.ovMet n = true) : Bool),
  -- clause 6
  (let n : Nat := 2; let d := seenBy (.undervoltage now n) (((dev0.onRail n fun x => { x with state := .reg }).bits (aPROT_UV n) 16 16 1).onRail n fun x => { x with uvRun := 300 })
   decide (d.isStandby = false ∧ n < 8 ∧ (d.rail n).state = .reg ∧ d.regs.act.PROT_UV_UV_EN n = 1 ∧ atLeast1 (d.regs.act.PROT_UV_UVN n) ≤ (d.rail n).uvRun) : Bool),
  -- clause 7
  (let k : Nat := 1; let n : Nat := 2; let d := seenBy (.gpcPersistence now k) ((((dev0.onRail n fun x => { x with state := .reg }).bits (aPROT_GPC k) 12 11 1).bits (aPROT_GPC k) 23 16 (2 ^ n)).onComp (16 + k) fun x => { x with level := true })
   decide (d.isStandby = false ∧ n < 8 ∧ (d.rail n).state = .reg ∧ k < 8 ∧ d.gpcMet k = true ∧ d.regs.act.PROT_GPC_ACTION k = 1 ∧ d.regs.act.PROT_GPC_RAILMASK k = 2 ^ n) : Bool)].all id) = true := by decide +kernel

/-- A state and operands for each hypothesis-bearing clause of `Obligations.ProtectionCountsCapturesAndRecords`. -/
theorem test_meets_ProtectionCountsCapturesAndRecords : ([
  -- clause 1
  (let n : Nat := 2; let d := seenBy (.limitedIntervalCount now n) ((dev0.bits (aYARD_CFG n) 17 4 400).onRail n fun x => { x with state := .reg })
   decide (d.tb.running = true ∧ d.now % d.tp n = 0 ∧ (d.rail n).state = .reg ∧ d.activeSet n = []) : Bool),
  -- clause 2
  (let n : Nat := 2; let d := seenBy (.limitedIntervalCount now n) (((((dev0.bits (aYARD_CFG n) 17 4 400).onRail n fun x => { x with state := .reg }).onStall 37 fun x => { x with state := .conducting, lim := true, limPrev := true }).bits (aYARD_BIND 37) 4 3 1).bits (aYARD_BIND 37) 2 0 n)
   decide (d.tb.running = true ∧ d.now % d.tp n = 0 ∧ (d.rail n).state = .reg ∧ d.isStandby = false ∧ d.activeSet n ≠ [] ∧ atLeast1 (d.regs.act.PROT_OC_SHARE n) * (d.activeSet n).length ≤ ((d.activeSet n).filter d.limOf).length * 256) : Bool),
  -- clause 3
  (let n : Nat := 2; let d := seenBy (.crowbarRenewal now n) (dev0.onRail n fun x => { x with crowbar := some ⟨0, 0, 0, true⟩ })
   ((d.rail n).crowbar).any fun c => decide (d.isStandby = false ∧ c.ti + 16 * c.dur ≤ d.now ∧ c.sent < atLeast1 (d.regs.act.PROT_OV_NCUT n)) : Bool),
  -- clause 4
  (let n : Nat := 2; let d := seenBy (.crowbarRenewal now n) (dev0.onRail n fun x => { x with crowbar := some ⟨100, 0, 0, true⟩ })
   ((d.rail n).crowbar).any fun c => decide (d.isStandby = false ∧ c.ti + 16 * c.dur ≤ d.now ∧ atLeast1 (d.regs.act.PROT_OV_NCUT n) ≤ c.sent) : Bool),
  -- clause 5
  (let src : Nat := 20; let level : Bool := true; let d := seenBy (.comparatorEdge now src level) (dev0)
   decide (src < 27 ∧ (d.comp src).level ≠ level ∧ d.tb.running = true ∧ (src < 16 → d.sys.state ≠ .idle)) : Bool),
  -- clause 6
  (let src : Nat := 1; let level : Bool := true; let d := seenBy (.comparatorEdge now src level) ({ dev0 with tb.running := false })
   decide (src < 27 ∧ src ≠ 26 ∧ (d.comp src).level ≠ level ∧ d.tb.running = false ∧ d.compOff src = false) : Bool),
  -- clause 7
  (let d := seenBy (.ringFreeze now) ({ dev0 with prot.ring := .closing 0 })
   (match d.prot.ring with
   | .closing t0 => decide (t0 ≤ d.now)
   | _ => false) : Bool),
  -- clause 8
  (let d := seenBy (.lastFaultRecordWrite now) ({ dev0 with prot.pending := [⟨[], false, 1, 0, [], []⟩], prot.writing := false, prot.scanned := true })
   (match d.prot.pending with
   | r :: rs => decide (d.prot.writing = false ∧ d.recordReady r = true ∧ (d.prot.scanned = true ∨ d.loft.portOk = true) ∧ d.loft.bp ≠ 3)
   | _ => false) : Bool),
  -- clause 9
  (let d := seenBy (.archiveCopyWrite now) ((fun d : Dev => { d with prot.lfSlots := d.prot.lfSlots.set 3 (some 5) }) ({ dev0 with prot.archQueue := [5], prot.archBusy := false, loft.portOk := true }))
   (match d.prot.archQueue with
   | seq :: rs => (d.prot.lfSlots.findIdx? (· = some seq)).any fun slot => decide (d.prot.archBusy = false ∧ d.loft.portOk = true)
   | _ => false) : Bool),
  -- clause 10
  (let d := seenBy (.archiveCopyWrite now) ({ dev0 with prot.archQueue := [5], prot.archBusy := false, loft.portOk := true })
   (match d.prot.archQueue with
   | seq :: rs => decide (d.prot.archBusy = false ∧ d.loft.portOk = true ∧ d.prot.lfSlots.findIdx? (· = some seq) = none)
   | _ => false) : Bool)].all id) = true := by decide +kernel

/-- A state and operands for each hypothesis-bearing clause of `Obligations.TicksAndMeteringSamples`. -/
theorem test_meets_TicksAndMeteringSamples : ([
  -- clause 1
  (let vds : Nat := 1; let acting : Bool := true; let d := seenBy (.hvTick now vds acting) ({ dev0 with hsw.tickLost := false, hsw.pendTrip := 0, hsw.pendOn := false })
   decide (d.tb.running = true ∧ d.now % usEu = 0 ∧ d.hsw.tickLost = false ∧ d.hsw.pendTrip = 0 ∧ d.hsw.pendOn = false) : Bool),
  -- clause 2
  (let d := seenBy (.hvTickLoss now) ({ dev0 with hsw.tickLost := false })
   decide (d.tb.running = true ∧ d.hsw.tickLost = false ∧ d.hsw.lastTick + 4 * usEu ≤ d.tb.wall) : Bool),
  -- clause 3
  (let d := seenBy (.hvTickResumed now) ({ dev0 with hsw.tickLost := true, hsw.pendTrip := 0, hsw.pendOn := false, hsw.extCmd := false })
   decide (d.hsw.tickLost = true ∧ d.hsw.pendTrip = 0 ∧ d.hsw.pendOn = false ∧ d.rampOverdue = false ∧ d.busOvDue = false ∧ d.hsw.extCmd = false ∧ d.hsw.armWritten = false) : Bool),
  -- clause 4
  (let d := seenBy (.vinStale now) (dev0)
   decide (d.tb.running = true ∧ d.hsw.vibAt + 4 * usEu ≤ d.now) : Bool),
  -- clause 5
  (let v : Nat := 1; let i : Int := 0; let x : DieSample := ⟨1200, 3, true⟩; let d := seenBy (.meteringSample now v i x) ({ dev0 with pins.vbusHv := true })
   decide (d.pins.vbusHv = true ∧ d.tb.running = true) : Bool),
  -- clause 6
  (let v : Nat := 1; let i : Int := 0; let x : DieSample := ⟨1200, 3, true⟩; let d := seenBy (.meteringSample now v i x) ({ dev0 with pins.vbusHv := true, tb.running := false })
   decide (d.pins.vbusHv = true ∧ d.tb.running = false) : Bool),
  -- clause 7
  (let d := seenBy (.lifetimeEnergyFlush now) ({ dev0 with evt.released := true })
   decide (d.tb.running = true ∧ d.evt.released = true ∧ d.hsw.lifeFlush + atLeast1 d.regs.act.MEAS_INCFG_FLUSH * secEu ≤ d.now) : Bool)].all id) = true := by decide +kernel

/-- A state and operands for each hypothesis-bearing clause of `Obligations.TheGateRampsAndTrips`. -/
theorem test_meets_TheGateRampsAndTrips : ([
  -- clause 1
  (let d := seenBy (.inputRecordWritten now) ({ dev0 with hsw.recDone := true, hsw.state := .arm, hsw.recEnded := 1, hsw.tickLost := false })
   decide (d.hsw.recDone = true ∧ d.hsw.state = .arm ∧ d.hsw.recEnded = 1 ∧ d.hsw.tickLost = false) : Bool),
  -- clause 2
  (let d := seenBy (.rampFullyOn now) ({ dev0 with hsw.state := .ramp, hsw.pendTrip := 0, hsw.tickLost := false, hsw.vdsLowAt := some 0, sys.state := .run })
   decide (d.hsw.state = .ramp ∧ d.hsw.pendTrip = 0 ∧ d.hsw.tickLost = false ∧ d.mayReport = true ∧ (d.hsw.vdsLowAt.any fun a => decide (a + 100 * usEu ≤ d.tb.wall)) = true) : Bool),
  -- clause 3
  (let d := seenBy (.rampFullyOn now) ({ dev0 with hsw.state := .ramp, hsw.pendTrip := 0, hsw.tickLost := true, hsw.vdsLowAt := some 0 })
   decide (d.hsw.state = .ramp ∧ d.hsw.pendTrip = 0 ∧ d.hsw.tickLost = true ∧ d.fullyOn = true) : Bool),
  -- clause 4
  (let d := seenBy (.faultTimerTrip now) ({ ({ dev0 with hsw.state := .on, hsw.pendTrip := 0, hsw.tickLost := false, hsw.severe := false } : Dev).bits aHSW_RETRY 19 16 3 with hsw.efet := 10000000000 })
   decide (d.hsw.closed = true ∧ d.hsw.tickLost = false ∧ d.hsw.severe = false ∧ 10000000000 * atLeast1 d.regs.act.HSW_BUDGET_EBUDGET ≤ d.hsw.efet ∧ d.hsw.retries < d.regs.act.HSW_RETRY_RETRY_MAX) : Bool),
  -- clause 5
  (let d := seenBy (.faultTimerTrip now) ({ dev0 with hsw.state := .on, hsw.pendTrip := 0, hsw.tickLost := true, hsw.ilim := true, hsw.efet := 1000000000000000 })
   decide (d.hsw.closed = true ∧ d.hsw.tickLost = true ∧ d.timerDue = true) : Bool),
  -- clause 6
  (let d := seenBy (.rampTimeout now) ({ dev0 with hsw.state := .ramp, hsw.pendTrip := 0, hsw.tickLost := false, sys.state := .run })
   decide (d.hsw.state = .ramp ∧ d.hsw.pendTrip = 0 ∧ d.hsw.tickLost = false ∧ d.mayReport = true ∧ d.hsw.rampAt + atLeast1 d.regs.act.HSW_CFG_TMAX * 10 * msEu ≤ d.now ∧ d.regs.act.HSW_RETRY_RETRY_MAX ≤ d.hsw.retries) : Bool),
  -- clause 7
  (let d := seenBy (.rampTimeout now) ({ dev0 with hsw.tickLost := true })
   decide (d.hsw.tickLost = true) : Bool),
  -- clause 8
  (let d := seenBy (.severeCurrentTrip now) (({ dev0 with hsw.state := .on, hsw.pendTrip := 0, hsw.tickLost := false, hsw.severe := true } : Dev).bits aHSW_RETRY 19 16 3)
   decide (d.hsw.closed = true ∧ d.hsw.tickLost = false ∧ d.hsw.severe = true ∧ d.hsw.retries < d.regs.act.HSW_RETRY_RETRY_MAX) : Bool),
  -- clause 9
  (let d := seenBy (.busOvTrip now) ({ (({ dev0 with hsw.state := .on, hsw.pendTrip := 0, hsw.tickLost := false } : Dev).bits aHSW_BUSCMP 20 20 1).onComp 24 fun x => { x with level := true } with sys.state := .run })
   decide (d.hsw.closed = true ∧ d.hsw.tickLost = false ∧ d.mayReport = true ∧ d.rampOverdue = false ∧ d.regs.act.HSW_BUSCMP_OV_OFF = 1 ∧ (d.comp 24).level = true ∧ (d.comp 24).since + atLeast1 d.regs.act.HSW_BUSCMP_OVTIME * usEu ≤ d.now) : Bool),
  -- clause 10
  (let d := seenBy (.busOvTrip now) ({ dev0 with hsw.tickLost := true })
   decide (d.hsw.tickLost = true) : Bool),
  -- clause 11
  (let d := seenBy (.inputRecordWritten now) ({ dev0 with hsw.recDone := true, hsw.state := .arm, hsw.recEnded := 1, hsw.tickLost := true, hsw.ibcFall := none })
   decide (d.hsw.recDone = true ∧ d.hsw.state = .arm ∧ d.hsw.recEnded = 1 ∧ d.hsw.tickLost = true ∧ d.hsw.ibcFall = none) : Bool)].all id) = true := by decide +kernel

/-- A state and operands for each hypothesis-bearing clause of `Obligations.TheGateRearmsAndBleeds`. -/
theorem test_meets_TheGateRearmsAndBleeds : ([
  -- clause 1
  (let d := seenBy (.busOvRearm now) ({ ({ dev0 with hsw.ovTripped := true, hsw.state := .off, pins.above := true } : Dev).onComp 24 fun x => { x with level := false } with sys.state := .run })
   decide (d.hsw.ovTripped = true ∧ d.hsw.state = .off ∧ (d.sys.state = .run ∨ d.sys.state = .start ∧ d.sys.step = 8) ∧ d.drivesGate = true ∧ d.pins.above = true ∧ (d.comp 24).level = false ∧ (d.comp 24).since + 10 * msEu ≤ d.now) : Bool),
  -- clause 2
  (let d := seenBy (.retryPeriodExpiry now) ({ dev0 with hsw.state := .wait, sys.state := .run, pins.above := true })
   decide (d.hsw.state = .wait ∧ d.hsw.waitEnd ≤ d.now ∧ d.mayRamp = true ∧ d.pins.above = true) : Bool),
  -- clause 3
  (let d := seenBy (.retryPeriodExpiry now) ({ dev0 with hsw.state := .wait, pins.above := false })
   decide (d.hsw.state = .wait ∧ d.hsw.waitEnd ≤ d.now ∧ d.pins.above = false) : Bool),
  -- clause 4
  (let d := seenBy (.retriesReset now) ({ dev0 with hsw.state := .on })
   decide (d.hsw.state = .on ∧ d.hsw.onAt + d.retryPeriod ≤ d.now) : Bool),
  -- clause 5
  (let d := seenBy (.ibcEnReleaseTimeout now) ({ dev0 with hsw.ibcFall := some 0 })
   (d.hsw.ibcFall).any fun t0 => decide (t0 ≤ d.now) : Bool),
  -- clause 6
  (let shown : Bool := true; let d := seenBy (.gateOffConfirm now shown) ({ ({ dev0 with hsw.offCmd := some 0 } : Dev).bits aHSW_BLEED 0 0 1 with pins.vbusHv := true })
   (d.hsw.offCmd).any fun t0 => decide ((shown = true ∨ t0 + 10 * usEu ≤ d.now) ∧ d.regs.act.HSW_BLEED_EN = 1 ∧ d.drivesGate = true ∧ d.pins.vbusHv = true) : Bool),
  -- clause 7
  (let shown : Bool := true; let d := seenBy (.gateOffConfirm now shown) (({ dev0 with hsw.offCmd := some 0 } : Dev).bits aHSW_BLEED 0 0 0)
   (d.hsw.offCmd).any fun t0 => decide ((shown = true ∨ t0 + 10 * usEu ≤ d.now) ∧ d.regs.act.HSW_BLEED_EN = 0) : Bool),
  -- clause 8
  (let d := seenBy (.bleedStop now) ({ dev0 with hsw.state := .bleed, sys.state := .run })
   decide (d.hsw.state = .bleed ∧ d.hsw.hvV ≤ d.hsw.bleedV ∧ d.sys.state ≠ .start) : Bool),
  -- clause 9
  (let d := seenBy (.bleedStop now) ({ dev0 with hsw.state := .bleed, sys.state := .start, sys.step := 8, hsw.resume := .off, hsw.step8Due := true, sys.kind := 1 })
   decide (d.hsw.state = .bleed ∧ d.hsw.hvV ≤ d.hsw.bleedV ∧ d.sys.state = .start ∧ d.sys.step = 8 ∧ d.sys.kind ≠ 0 ∧ d.drivesGate = true ∧ d.hsw.resume = .off ∧ d.hsw.step8Due = true) : Bool),
  -- clause 10
  (let d := seenBy (.bleedTimeout now) ({ dev0 with hsw.state := .bleed, hsw.hvV := 1000, pins.vbusHv := true, sys.state := .run })
   decide (d.hsw.state = .bleed ∧ d.hsw.bleedEnd ≤ d.hvClock ∧ d.hsw.bleedV < d.hsw.hvV ∧ d.pins.vbusHv = true ∧ d.sys.state ≠ .start) : Bool),
  -- clause 11
  (let d := seenBy (.hswCtrlClear now) ({ dev0 with sys.state := .run, acc.level := 2, hsw.state := .latched, pins.above := true })
   decide (d.hears = true ∧ d.writeRefusal aHSW_CTRL 0x1 = 0 ∧ d.hsw.state = .latched ∧ d.pins.above = true ∧ d.drivesGate = true) : Bool),
  -- clause 12
  (let d := seenBy (.hswCtrlBleed now) ({ dev0 with sys.state := .run, acc.level := 2, hsw.state := .off, pins.vbusHv := true })
   decide (d.hears = true ∧ d.writeRefusal aHSW_CTRL 0x2 = 0 ∧ d.hsw.state = .off ∧ d.drivesGate = true ∧ d.pins.vbusHv = true) : Bool),
  -- clause 13
  (let d := seenBy (.bleedStop now) ({ dev0 with hsw.state := .bleed, sys.state := .start, sys.step := 8, hsw.step8Due := false })
   decide (d.hsw.state = .bleed ∧ d.hsw.hvV ≤ d.hsw.bleedV ∧ d.sys.state = .start ∧ d.sys.step = 8 ∧ d.hsw.step8Due = false) : Bool)].all id) = true := by decide +kernel

/-- A state and operands for each hypothesis-bearing clause of `Obligations.TriggersConvertAndPublish`. -/
theorem test_meets_TriggersConvertAndPublish : ([
  -- clause 1
  (let d := seenBy (.domainSnapshotTrigger now) ({ dev0 with dom.snapDue := [(5, 0)], meas.seq := none, meas.closing := none })
   (match d.dom.snapDue with
   | (seq, ts) :: rest => decide (ts ≤ d.now ∧ d.tb.running = true ∧ d.meas.seq = none ∧ d.meas.closing = none)
   | _ => false) : Bool),
  -- clause 2
  (let d := seenBy (.measSarctrlTrig now) ({ ({ dev0 with sys.state := .run, acc.level := 2 } : Dev).bits aMEAS_SARCFG 4 4 1 with tb.running := true, meas.seq := none, meas.closing := none })
   decide (d.hears = true ∧ d.writeRefusal aMEAS_SARCTRL 0x1 = 0 ∧ d.regs.act.MEAS_SARCFG_SWTRIG = 1 ∧ d.tb.running = true ∧ d.meas.seq = none ∧ d.meas.closing = none) : Bool),
  -- clause 3
  (let conv : Nat := 1; let code : Nat := 1000; let d := seenBy (.sarResult now conv code) ({ dev0 with meas.seq := some ⟨0, 5, false, [[], [(7, 2)], [], []], [0, 0, 0, 0]⟩ })
   (d.meas.seq).any fun q => (match (q.lists.getD conv [])[q.taken.getD conv 0]? with
   | some (input, queue) => decide (q.te + 2048 + (q.taken.getD conv 0 + 1) * q.tc ≤ d.now ∧ q.isNext conv = true ∧ queue < d.meas.queues.length ∧ (d.meas.queues.getD queue []).length < 256)
   | _ => false) : Bool),
  -- clause 4
  (let conv : Nat := 1; let code : Nat := 2000; let d := seenBy (.pathCheck now conv code) ({ dev0.bits aMEAS_CHKCFG 7 0 1 with meas.seq := none, tb.running := true })
   decide (conv < 4 ∧ conv < d.meas.conv.length ∧ d.regs.act.MEAS_CHKCFG_INT ≠ 0 ∧ d.meas.seq = none ∧ d.tb.running = true ∧ (d.meas.conv.getD conv {}).lastCheck + d.regs.act.MEAS_CHKCFG_INT * 10 * usEu ≤ d.now ∧ code = refCode conv ((d.meas.conv.getD conv {}).serves (d.meas.conv.getD conv {}).nextPath)) : Bool),
  -- clause 5
  (let conv : Nat := 1; let d := seenBy (.sparePathSwitch now conv) ((fun d : Dev => { d with meas.conv := modAt d.meas.conv conv (fun x => { x with pendingFail := [5] }) }) ({ dev0 with meas.seq := none }))
   (match (d.meas.conv.getD conv {}).pendingFail with
   | p :: ps => decide (conv < d.meas.conv.length ∧ d.meas.seq = none)
   | _ => false) : Bool),
  -- clause 6
  (let d := seenBy (.windowPublish now) ({ dev0 with meas.closing := some ⟨{}, 0, 5⟩ })
   (d.meas.closing).any fun c => true : Bool)].all id) = true := by decide +kernel

/-- A state and operands for each hypothesis-bearing clause of `Obligations.QueuesWideReadsAndCounters`. -/
theorem test_meets_QueuesWideReadsAndCounters : ([
  -- clause 1
  (let k : Nat := 1; let d := seenBy (.measQueueRead now k) ((fun d : Dev => { d with meas.queues := d.meas.queues.set k [7, 8] }) ({ dev0 with sys.state := .run }))
   (match d.meas.queues.getD k [] with
   | x :: xs => decide (k < 4 ∧ d.hears = true)
   | _ => false) : Bool),
  -- clause 2
  (let mask : Nat := 1; let d := seenBy (.measSarctrlClrq now mask) ({ dev0 with sys.state := .run, acc.level := 2 })
   decide (d.hears = true ∧ d.meas.queues.length = 4 ∧ d.writeRefusal aMEAS_SARCTRL (BitVec.ofNat 32 (mask % 16 * 2)) = 0) : Bool),
  -- clause 3
  (let d := seenBy (.splitReadLow now aTB_NOWL) ({ dev0 with sys.state := .run })
   decide (d.hears = true ∧ d.regs.hold.rd aTB_NOWL = 0 ∧ d.stat aTB_NOWL = 0) : Bool),
  -- clause 4
  (let d := seenBy (.splitReadHigh now aTB_NOWH) ({ dev0 with sys.state := .run, regs.fresh := [aTB_NOWH] })
   decide (d.hears = true ∧ aTB_NOWH ∈ d.regs.fresh) : Bool),
  -- clause 5
  (let d := seenBy (.splitReadHigh now aTB_NOWH) ({ dev0 with sys.state := .run })
   decide (d.hears = true ∧ aTB_NOWH ∉ d.regs.fresh) : Bool),
  -- clause 6
  (let d := seenBy (.perfCtrlSnap now) ({ dev0 with sys.state := .run, acc.level := 2, meas.snapBusy := none })
   decide (d.hears = true ∧ d.writeRefusal aPERF_CTRL 0x1 = 0 ∧ d.meas.snapBusy = none) : Bool),
  -- clause 7
  (let d := seenBy (.perfCtrlClrall now) ({ dev0 with sys.state := .run, acc.level := 2 })
   decide (d.hears = true ∧ d.writeRefusal aPERF_CTRL 0x2 = 0) : Bool),
  -- clause 8
  (let d := seenBy (.perfCtrlClrovf now) ({ dev0 with sys.state := .run, acc.level := 2 })
   decide (d.hears = true ∧ d.writeRefusal aPERF_CTRL 0x4 = 0) : Bool),
  -- clause 9
  (let d := seenBy (.perfCtrlWrite now) (({ dev0 with sys.state := .run, acc.level := 2 } : Dev).bits aPERF_WADDR 31 0 (aLANE_CRCERR 3))
   (findDesc (d.regs.act.PERF_WADDR_ADDR / 4 * 4)).any fun r => decide (d.hears = true ∧ d.writeRefusal aPERF_CTRL 0x8 = 0 ∧ r.kind = .counter) : Bool),
  -- clause 10
  (let d := seenBy (.perfSnapshotComplete now) ({ dev0 with meas.snapBusy := some (0, 5, [(0x1000, 7)]) })
   (match d.meas.snapBusy with
   | some (ts, label, table) => true
   | _ => false) : Bool)].all id) = true := by decide +kernel

/-- A state and operands for each hypothesis-bearing clause of `Obligations.PairMessagesAreTaken`. -/
theorem test_meets_PairMessagesAreTaken : ([
  -- clause 1
  (let bs : List Block := blk 1; let m : HelloMsg := ⟨2, 0, 1, 6, 0, false, false, 0, 0⟩; let d := seenBy (.hello now bs m) ({ dev0 with pins.role := 1, pair.link.state := 2, sys.state := .run })
   decide (carries bs 1 = true ∧ d.inPair = true ∧ d.pair.link.state = 2 ∧ d.awaitsRole = false ∧ d.leading = false) : Bool),
  -- clause 2
  (let bs : List Block := blk 2; let m : RcMsg := ⟨2, 100, 3, 3, 0, 0, true, 0, 500, 1, 2, 3, 4, 5, 6, 7, 256000, 1000, 0, 3, false, 0, 0, 0, [], 0, false, 0, 0, 0⟩; let d := seenBy (.rc now bs m) ({ dev0 with pair.link.state := 2, pins.role := 1, sys.state := .standby })
   decide (carries bs 2 = true ∧ d.pair.link.state = 2 ∧ d.standing = true ∧ m.rail < 8 ∧ m.rail < d.rails.length ∧ d.pair.dcAt < d.instantOf (d.p m.rail) m.boundary) : Bool),
  -- clause 3
  (let bs : List Block := blk 3; let m : DcMsg := ⟨5, 1, 3, 0, false, false, [], 0, [], 0, 0⟩; let d := seenBy (.dc now bs m) ({ dev0 with pair.link.state := 2, pins.role := 1, sys.state := .standby })
   decide (carries bs 3 = true ∧ d.pair.link.state = 2 ∧ d.standing = true ∧ m.unusable = false) : Bool),
  -- clause 4
  (let bs : List Block := blk 5; let m : JoinMsg := ⟨0, true, 9, []⟩; let d := seenBy (.join now bs m) ({ dev0 with pair.link.state := 2, pins.role := 1, sys.state := .standby })
   decide (carries bs 5 = true ∧ d.pair.link.state = 2 ∧ d.standing = true ∧ m.index = 0 ∧ m.items = [] ∧ m.final = true) : Bool),
  -- clause 5
  (let bs : List Block := blk 9; let a : Nat := aLANE_CRCERR 3; let k : Nat := 2; let d0 : Nat := 5; let d := seenBy (.deltas now bs ((d0 + 1) % 65536) [.count a k]) ({ dev0 with pair.link.state := 2, pins.role := 1, sys.state := .standby, pair.ack := d0 })
   decide (carries bs 9 = true ∧ d.pair.link.state = 2 ∧ d.standing = true ∧ d.pair.ack = d0 ∧ d0 < 65536) : Bool),
  -- clause 6
  (let bs : List Block := blk 4; let seq : Nat := 5; let d := seenBy (.ack now bs seq true) ({ dev0 with pair.link.state := 2, pins.role := 1, pair.primary := true, sys.state := .run })
   decide (carries bs 4 = true ∧ d.pair.link.state = 2 ∧ d.leading = true) : Bool),
  -- clause 7
  (let bs : List Block := blk 6; let term : Nat := 0; let d := seenBy (.taken now bs term) ({ dev0 with pair.link.state := 2, pins.role := 1 })
   decide (carries bs 6 = true ∧ d.pair.link.state = 2 ∧ d.inPair = true ∧ (d.sys.state ≠ .run ∨ term ≤ d.pair.term)) : Bool),
  -- clause 8
  (let bs : List Block := blk 8; let d := seenBy (.owner now bs true) ({ dev0 with pair.link.state := 2, pair.owner := true, pair.offered := true, pins.role := 1 })
   decide (carries bs 8 = true ∧ d.pair.link.state = 2 ∧ d.inPair = true ∧ d.pair.owner = true ∧ d.pair.offered = true ∧ d.isStandby = true) : Bool),
  -- clause 9
  (let bs : List Block := blk 8; let d := seenBy (.owner now bs false) ({ dev0 with pair.link.state := 2, pins.role := 1, pair.primary := true, sys.state := .run, pair.owner := false })
   decide (carries bs 8 = true ∧ d.pair.link.state = 2 ∧ d.leading = true ∧ d.pair.owner = false) : Bool),
  -- clause 10
  (let bs : List Block := []; let m : HelloMsg := ⟨2, 0, 1, 6, 0, false, false, 0, 0⟩; let d := seenBy (.hello now bs m) ({ dev0 with pins.role := 1, pair.link.state := 2 })
   decide (msgIntact bs = false ∧ d.inPair = true ∧ d.pair.link.state = 2) : Bool),
  -- clause 11
  (let bs : List Block := blk 6; let term : Nat := 5; let d := seenBy (.taken now bs term) ({ dev0 with pair.link.state := 2, pins.role := 1, sys.state := .run })
   decide (carries bs 6 = true ∧ d.pair.link.state = 2 ∧ d.inPair = true ∧ d.sys.state = .run ∧ d.pair.term < term) : Bool),
  -- clause 12
  (let bs : List Block := []; let m : RcMsg := ⟨2, 100, 3, 3, 0, 0, true, 0, 500, 1, 2, 3, 4, 5, 6, 7, 256000, 1000, 0, 3, false, 0, 0, 0, [], 0, false, 0, 0, 0⟩; let d := seenBy (.rc now bs m) ({ dev0 with pins.role := 1, pair.link.state := 2 })
   decide (msgIntact bs = false ∧ d.inPair = true ∧ d.pair.link.state = 2) : Bool),
  -- clause 13
  (let bs : List Block := []; let m : DcMsg := ⟨5, 1, 3, 0, false, false, [], 0, [], 0, 0⟩; let d := seenBy (.dc now bs m) ({ dev0 with pins.role := 1, pair.link.state := 2 })
   decide (msgIntact bs = false ∧ d.inPair = true ∧ d.pair.link.state = 2) : Bool),
  -- clause 14
  (let bs : List Block := []; let m : JoinMsg := ⟨0, true, 9, []⟩; let d := seenBy (.join now bs m) ({ dev0 with pins.role := 1, pair.link.state := 2 })
   decide (msgIntact bs = false ∧ d.inPair = true ∧ d.pair.link.state = 2) : Bool),
  -- clause 15
  (let bs : List Block := []; let first : Nat := 1; let ds : List Delta := []; let d := seenBy (.deltas now bs first ds) ({ dev0 with pins.role := 1, pair.link.state := 2 })
   decide (msgIntact bs = false ∧ d.inPair = true ∧ d.pair.link.state = 2) : Bool),
  -- clause 16
  (let bs : List Block := []; let seq : Nat := 5; let armed : Bool := true; let d := seenBy (.ack now bs seq armed) ({ dev0 with pins.role := 1, pair.link.state := 2 })
   decide (msgIntact bs = false ∧ d.inPair = true ∧ d.pair.link.state = 2) : Bool),
  -- clause 17
  (let bs : List Block := []; let term : Nat := 1; let d := seenBy (.taken now bs term) ({ dev0 with pins.role := 1, pair.link.state := 2 })
   decide (msgIntact bs = false ∧ d.inPair = true ∧ d.pair.link.state = 2) : Bool),
  -- clause 18
  (let bs : List Block := []; let accept : Bool := true; let d := seenBy (.owner now bs accept) ({ dev0 with pins.role := 1, pair.link.state := 2 })
   decide (msgIntact bs = false ∧ d.inPair = true ∧ d.pair.link.state = 2) : Bool),
  -- clause 19
  (let bs : List Block := []; let d := seenBy (.handover now bs) ({ dev0 with pins.role := 1, pair.link.state := 2 })
   decide (msgIntact bs = false ∧ d.inPair = true ∧ d.pair.link.state = 2) : Bool)].all id) = true := by decide +kernel

/-- A state and operands for each hypothesis-bearing clause of `Obligations.PairMembersSend`. -/
theorem test_meets_PairMembersSend : ([
  -- clause 1
  (let d := seenBy (.helloSend now) ({ dev0 with pins.role := 1 })
   decide (d.inPair = true ∧ d.pair.helloSent ≠ some d.helloMsg) : Bool),
  -- clause 2
  (let d := seenBy (.dcSend now) ({ dev0 with pins.role := 1, pair.primary := true, sys.state := .run })
   decide (d.leading = true ∧ d.now % usEu = 0 ∧ d.mirrors = false) : Bool),
  -- clause 3
  (let d := seenBy (.ackSend now) ({ dev0 with pins.role := 1, sys.state := .standby })
   decide (d.standing = true ∧ d.now % usEu = 0 ∧ d.mirrors = false) : Bool),
  -- clause 4
  (let d := seenBy (.takenSend now) ({ dev0 with pins.role := 1, pair.primary := true, sys.state := .run, pair.takenUntil := some (now + 51200) })
   (d.pair.takenUntil).any fun u => decide (d.leading = true ∧ d.now ≤ u ∧ (u - d.now) % usEu = 0 ∧ d.mirrors = false) : Bool),
  -- clause 5
  (let d := seenBy (.deltaResend now) ({ dev0 with pins.role := 1, pair.primary := true, sys.state := .run, pair.unacked := [⟨5, .count 0 1, 0, 0⟩] })
   (match (d.pair.unacked.takeWhile fun x => decide (x.latest + 10 * usEu ≤ d.now)).take 8 with
   | x :: xs => decide (d.leading = true ∧ d.mirrors = false)
   | _ => false) : Bool),
  -- clause 6
  (let d := seenBy (.armedLoss now) ({ dev0 with pins.role := 1, pair.primary := true, sys.state := .run, pair.unacked := [⟨5, .count 0 1, 0, 0⟩] })
   decide (d.leading = true ∧ d.pair.unacked.any (fun x => decide (x.first + 64 * usEu ≤ d.now)) = true) : Bool),
  -- clause 7
  (let d := seenBy (.armedLoss now) ({ dev0 with pins.role := 1, sys.state := .standby, pair.gapAt := some 0 })
   decide (d.standing = true ∧ d.leading = false ∧ d.pair.gapAt.all (fun a => decide (a + 64 * usEu ≤ d.now)) = true) : Bool),
  -- clause 8
  (let d := seenBy (.authorityCheck now) ((({ dev0 with pins.role := 1, pair.primary := true, sys.state := .run } : Dev).onLane 3 fun x => { x with state := .up, present := 16 }).bits (aLANE_CFG 3) 31 16 0xFFFF)
   (match d.upLanes with
   | [l] => decide (d.leading = true ∧ d.now % (atLeast1 d.regs.act.PAIR_CFG_ACHK * usEu) = 0 ∧ d.answering l ≠ [])
   | _ => false) : Bool),
  -- clause 9
  (let d := seenBy (.ownerOffer now) (({ dev0 with pins.role := 1, sys.state := .standby, pair.owner := true, hsw.state := .on } : Dev).bits aPAIR_CFG 1 1 1)
   decide (d.mayOffer = true) : Bool),
  -- clause 10
  (let d := seenBy (.pairLinkLossOfLock now) ({ dev0 with pins.role := 1, pair.link.state := 2 })
   decide (d.inPair = true ∧ d.pair.link.state = 2) : Bool)].all id) = true := by decide +kernel

/-- A state and operands for each hypothesis-bearing clause of `Obligations.StandbyTakesOver`. -/
theorem test_meets_StandbyTakesOver : ([
  -- clause 1
  (let d := seenBy (.pfltPersistence now) ({ ({ dev0 with pins.role := 1, sys.state := .standby } : Dev).bits aPAIR_CFG 0 0 1 with pair.pfltLowAt := some 0 })
   (d.pair.pfltLowAt).any fun t0 => decide (d.standing = true ∧ d.regs.act.PAIR_CFG_TAKE_EN = 1 ∧ t0 + atLeast1 d.regs.act.PAIR_CFG_FLTN * 512 ≤ d.now ∧ d.pair.dc.any (·.unusable) = false) : Bool),
  -- clause 2
  (let bs : List Block := blk 7; let d := seenBy (.handover now bs) (({ dev0 with pair.link.state := 2, pins.role := 1, sys.state := .standby } : Dev).bits aPAIR_CFG 0 0 1)
   decide (carries bs 7 = true ∧ d.pair.link.state = 2 ∧ d.standing = true ∧ d.regs.act.PAIR_CFG_TAKE_EN = 1) : Bool),
  -- clause 3
  (let bs : List Block := blk 7; let d := seenBy (.handover now bs) (({ dev0 with pair.link.state := 2, pins.role := 1, sys.state := .standby } : Dev).bits aPAIR_CFG 0 0 0)
   decide (carries bs 7 = true ∧ d.pair.link.state = 2 ∧ d.standing = true ∧ d.regs.act.PAIR_CFG_TAKE_EN = 0) : Bool),
  -- clause 4
  (let t : Nat := now + 56320; let d := seenBy (.messageDueMissed t none) ({ dev0 with pins.role := 1, sys.state := .standby })
   decide (d.standing = true ∧ 56320 ≤ d.now ∧ (d.now - 56320) % usEu = 0 ∧ d.pair.dcAt < d.now - 56320 ∧ d.pair.missRun < 2) : Bool),
  -- clause 5
  (let t : Nat := now + 56320; let d := seenBy (.messageDueMissed t none) (({ dev0 with pins.role := 1, sys.state := .standby, pair.missRun := 2 } : Dev).bits aPAIR_CFG 0 0 1)
   decide (d.standing = true ∧ 56320 ≤ d.now ∧ (d.now - 56320) % usEu = 0 ∧ d.pair.dcAt < d.now - 56320 ∧ d.pair.missRun = 2 ∧ d.regs.act.PAIR_CFG_TAKE_EN = 1) : Bool),
  -- clause 6
  (let d := seenBy (.handoverWaitExpiry now) ({ dev0 with pair.handoverAt := some 0, sys.state := .run })
   (d.pair.handoverAt).any fun t0 => decide (d.sys.state = .run ∧ t0 + 5 * usEu ≤ d.now) : Bool)].all id) = true := by decide +kernel

/-- A state and operands for each hypothesis-bearing clause of `Obligations.DomainMembersFollowTheirRoot`. -/
theorem test_meets_DomainMembersFollowTheirRoot : ([
  -- clause 1
  (let bs : List Block := blk 1; let base : Nat := 1; let size : Nat := 1; let depth : Nat := 1; let d := seenBy (.enum now bs base size depth) ({ dev0 with dom.dup.state := 2, pins.domRoot := false, dom.valid := false, sys.loaded := false })
   decide (carries bs 1 = true ∧ d.dom.dup.state = 2 ∧ d.pins.domRoot = false ∧ d.dom.valid = false ∧ d.imageHeld = false) : Bool),
  -- clause 2
  (let bs : List Block := blk 1; let base : Nat := 1; let size : Nat := 1; let depth : Nat := 1; let d := seenBy (.enum now bs base size depth) ({ ({ dev0 with dom.dup.state := 2, pins.domRoot := false, dom.valid := false, sys.loaded := true } : Dev).bits aDOM_CFG 1 0 1 with sys.state := .run })
   decide (carries bs 1 = true ∧ d.dom.dup.state = 2 ∧ d.pins.domRoot = false ∧ d.dom.valid = false ∧ d.imageHeld = true ∧ d.regs.act.DOM_CFG_MODE = 1 ∧ 0 < size) : Bool),
  -- clause 3
  (let d := seenBy (.settleExpiry now) ({ dev0 with dom.settleAt := some 0, dom.ddn0.state := 2, dom.ddn1.state := 2 })
   (d.dom.settleAt).any fun t0 => decide (t0 ≤ d.now ∧ d.dom.ddn0.state = 2 ∧ d.dom.ddn1.state = 2 ∧ d.dom.depth < 16) : Bool),
  -- clause 4
  (let bs : List Block := blk 7; let r : ReportMsg := ⟨1, 1, 1, 0⟩; let d := seenBy (.report now .ddn0 bs r) ({ dev0 with dom.ddn0.state := 2, pins.domRoot := false })
   decide (carries bs 7 = true ∧ d.dom.ddn0.state = 2 ∧ d.pins.domRoot = false) : Bool),
  -- clause 5
  (let bs : List Block := blk 3; let count : Nat := 1; let at_ : Nat := 1; let d := seenBy (.epoch now bs count at_) ({ dev0 with dom.dup.state := 2, pins.domRoot := false })
   decide (carries bs 3 = true ∧ d.dom.dup.state = 2 ∧ d.pins.domRoot = false) : Bool),
  -- clause 6
  (let d := seenBy (.epochAdopt now) ({ dev0 with dom.epochs := [(5, 0)], dom.ilvNext := none })
   (match (d.dom.epochs.find? fun x => decide (x.2 ≤ d.now)) with
   | some (n, at_) => decide (d.dom.ilvNext = none)
   | _ => false) : Bool),
  -- clause 7
  (let bs : List Block := blk 4; let target : Nat := 1; let group : Nat := 1; let delta : Nat := 1; let d := seenBy (.ilv now bs target group delta) ({ dev0 with dom.dup.state := 2, pins.domRoot := false, dom.valid := true, dom.id := target })
   decide (carries bs 4 = true ∧ d.dom.dup.state = 2 ∧ d.pins.domRoot = false ∧ d.dom.valid = true ∧ d.dom.id = target) : Bool),
  -- clause 8
  (let bs : List Block := blk 5; let seq : Nat := 5; let ts : Nat := now + 51200; let d := seenBy (.snap now bs seq ts) (({ dev0 with dom.dup.state := 2, pins.domRoot := false } : Dev).bits aMEAS_SARCFG 3 3 1)
   decide (carries bs 5 = true ∧ d.dom.dup.state = 2 ∧ d.pins.domRoot = false ∧ d.now + 5120 ≤ ts ∧ d.regs.act.MEAS_SARCFG_DOMTRIG = 1) : Bool),
  -- clause 9
  (let d := seenBy (.alarmSend now) ({ dev0 with pins.domRoot := false })
   decide (d.pins.domRoot = false ∧ d.dom.alarmSent ≠ some d.subAlarm) : Bool),
  -- clause 10
  (let bs : List Block := blk 6; let word : Nat := 1; let count : Nat := 1; let low : Nat := 1; let d := seenBy (.alarm now .ddn0 bs word count low) ({ dev0 with dom.ddn0.state := 2 })
   decide (carries bs 6 = true ∧ d.dom.ddn0.state = 2) : Bool),
  -- clause 11
  (let bs : List Block := []; let seq : Nat := 5; let ts : Nat := now + 51200; let d := seenBy (.snap now bs seq ts) ({ dev0 with dom.dup.state := 2, pins.domRoot := false })
   decide (msgIntact bs = false ∧ d.dom.dup.state = 2 ∧ d.pins.domRoot = false) : Bool),
  -- clause 12
  (let bs : List Block := []; let count : Nat := 1; let at_ : Nat := 1; let d := seenBy (.epoch now bs count at_) ({ dev0 with dom.dup.state := 2, pins.domRoot := false })
   decide (msgIntact bs = false ∧ d.dom.dup.state = 2 ∧ d.pins.domRoot = false) : Bool)].all id) = true := by decide +kernel

/-- A state and operands for each hypothesis-bearing clause of `Obligations.DomainLinksTimeAndRootCommands`. -/
theorem test_meets_DomainLinksTimeAndRootCommands : ([
  -- clause 1
  (let rt : Nat := 1; let d := seenBy (.linkTraining now .dup rt) ({ dev0 with dom.dup.state := 1 })
   decide (d.dom.dup.state = 1) : Bool),
  -- clause 2
  (let rt : Nat := 1; let d := seenBy (.linkTraining now .mirb rt) ({ dev0 with pins.role := 1, pair.link.state := 1 })
   decide (d.inPair = true ∧ d.pair.link.state = 1) : Bool),
  -- clause 3
  (let d := seenBy (.domainLinkLoss now .dup) ({ dev0 with dom.dup.state := 2 })
   decide (d.dom.dup.state = 2) : Bool),
  -- clause 4
  (let d := seenBy (.timeSend now) ({ dev0 with pins.domRoot := true, dom.ddn0.state := 2 })
   decide (d.tb.running = true ∧ d.pins.domRoot = true ∧ d.now % msEu = 0 ∧ d.dom.ddn0.state = 2) : Bool),
  -- clause 5
  (let bs : List Block := blk 2; let sender : Nat := 1; let d := seenBy (.time now .dup bs sender) ({ dev0 with dom.dup.state := 2, pins.domRoot := false, sys.state := .start, sys.step := 2, sys.kind := 0, tb.running := false, tb.mult := 64, tb.timeGot := none })
   decide (carries bs 2 = true ∧ d.dom.dup.state = 2 ∧ d.pins.domRoot = false ∧ d.locking = true ∧ d.tb.mult ≠ 0 ∧ d.tb.timeGot = none) : Bool),
  -- clause 6
  (let bs : List Block := blk 2; let sender : Nat := now; let d := seenBy (.time now .dup bs sender) ({ dev0 with dom.dup.state := 2, pins.domRoot := false, tb.slewing := false, dom.aligned := true })
   decide (carries bs 2 = true ∧ d.dom.dup.state = 2 ∧ d.pins.domRoot = false ∧ d.locking = false ∧ d.tb.running = true ∧ d.tb.slewing = false ∧ d.dom.aligned = true ∧ ((d.now : Int) - (sender + d.dom.dup.rt / 2 : Nat)).natAbs ≤ 16) : Bool),
  -- clause 7
  (let d := seenBy (.epochInterval now) ({ dev0.bits aDOM_EPOCHCFG 15 0 1 with tb.running := true, pins.domRoot := true })
   decide (d.regs.act.DOM_EPOCHCFG_LEN ≠ 0 ∧ d.tb.running = true ∧ d.pins.domRoot = true ∧ d.dom.epochAt + d.regs.act.DOM_EPOCHCFG_LEN * msEu ≤ d.now) : Bool),
  -- clause 8
  (let d := seenBy (.snapshotPeriod now) ({ dev0.bits aDOM_SNAPCFG 15 0 1 with tb.running := true, pins.domRoot := true })
   decide (d.regs.act.DOM_SNAPCFG_PERIOD ≠ 0 ∧ d.tb.running = true ∧ d.pins.domRoot = true ∧ d.dom.snapAt + d.regs.act.DOM_SNAPCFG_PERIOD * msEu ≤ d.now) : Bool),
  -- clause 9
  (let d := seenBy (.domCtrlSnap now) ({ dev0 with sys.state := .run, acc.level := 2, pins.domRoot := true })
   decide (d.hears = true ∧ d.writeRefusal aDOM_CTRL 0x1 = 0 ∧ d.pins.domRoot = true) : Bool),
  -- clause 10
  (let d := seenBy (.domCtrlEpoch now) ({ dev0 with sys.state := .run, acc.level := 2, pins.domRoot := true })
   decide (d.hears = true ∧ d.writeRefusal aDOM_CTRL 0x2 = 0 ∧ d.pins.domRoot = true) : Bool),
  -- clause 11
  (let d := seenBy (.domCtrlAlmclr now) ({ dev0 with sys.state := .run, acc.level := 2 })
   decide (d.hears = true ∧ d.writeRefusal aDOM_CTRL 0x4 = 0) : Bool),
  -- clause 12
  (let hz : Nat := 10000000; let d := seenBy (.timebaseLock now hz) ({ dev0 with sys.state := .start, sys.step := 2, sys.kind := 0, tb.running := false, tb.mult := 64, tb.timeGot := some (0, 700) })
   (multOf hz).any fun k => (match d.tb.timeGot with
   | some (w, time) => decide (d.locking = true ∧ d.tb.mult ≠ 0 ∧ d.tb.edgeAfter w ≤ d.tb.wall)
   | _ => false) : Bool),
  -- clause 13
  (let d := seenBy (.domainLinkLoss now .ddn0) ({ dev0 with dom.ddn0.state := 2 })
   decide (d.dom.ddn0.state = 2) : Bool)].all id) = true := by decide +kernel

/-- A state and operands for each hypothesis-bearing clause of `Obligations.LoftStepsStoreTheirBytes`. -/
theorem test_meets_LoftStepsStoreTheirBytes : ([
  -- clause 1
  (let d := seenBy (.loftStepComplete now [] []) ({ dev0 with loft.busy := true, loft.remap := [], loft.remapping := none, loft.jobs := [⟨4, .host, .plain, [(520, [1, 0, 3])], true⟩] })
   (match d.loft.jobs with
   | j :: js => (match j.steps with
   | [(a, bs)] => decide (d.loft.busy = true ∧ protEnd d.loft.bp ≤ a ∧ d.loft.remap = [] ∧ d.loft.remapping = none ∧ a % 512 + bs.length ≤ 512 ∧ bs ≠ [])
   | _ => false)
   | _ => false) : Bool),
  -- clause 2
  (let f1 : List Nat := []; let f2 : List Nat := []; let d := seenBy (.loftStepComplete now f1 f2) ({ dev0 with loft.busy := true, loft.remapping := none, loft.jobs := [⟨4, .host, .plain, [(520, [1, 0, 3])], true⟩], loft.bp := 1 })
   (match d.loft.jobs with
   | j :: js => (match j.steps with
   | (a, bs) :: rest => decide (d.loft.busy = true ∧ j.tag = .host ∧ d.loft.remapping = none ∧ a < protEnd d.loft.bp)
   | _ => false)
   | _ => false) : Bool)].all id) = true := by decide +kernel

/-- A state and operands for each hypothesis-bearing clause of `Obligations.TheRecorderAndItsPort`. -/
theorem test_meets_TheRecorderAndItsPort : ([
  -- clause 1
  (let d := seenBy (.loftPortTimeout now) ({ dev0 with loft.portOk := true, loft.busy := false, sys.tail := false, sys.state := .run })
   decide (d.loft.portOk = true ∧ d.loft.busy = false ∧ d.sys.state ≠ .start ∧ d.sys.tail = false) : Bool),
  -- clause 2
  (let answered : Bool := true; let d := seenBy (.loftPortRetry now answered) ({ dev0 with loft.portOk := false, evt.unusable := true })
   decide (d.loft.portOk = false ∧ d.evt.unusable = true ∧ d.loft.portRetry + msEu ≤ d.now) : Bool),
  -- clause 3
  (let d := seenBy (.eventRecordWritten now) ({ dev0 with evt.cur := some ⟨.queue 0, ⟨0, 0, 0x1000, 0, 0, 0, [], false⟩, 9, some .done⟩, evt.queue := [⟨0, 0, 0x1000, 0, 0, 0, [], false⟩, ⟨1, 0, 0x1001, 0, 0, 0, [], false⟩], evt.hold := [], evt.unusable := false, evt.lwWritten := 0 })
   (match d.evt.cur with
   | some ⟨.queue 0, ev, pos, some .done⟩ => (match d.evt.queue with
   | x :: xs => decide (d.evt.hold = [] ∧ d.evt.unusable = false ∧ d.evt.lwWritten = 0)
   | _ => false)
   | _ => false) : Bool),
  -- clause 4
  (let d := seenBy (.eventRecordWritten now) ({ dev0 with evt.cur := some ⟨.latch, ⟨0, 0, 0x1000, 0, 0, 0, [], false⟩, 9, some .done⟩, evt.latches := [⟨0, 0, 0x1000, 0, 0, 0, [], false⟩, ⟨1, 0, 0x1001, 0, 0, 0, [], false⟩] })
   (match d.evt.cur with
   | some ⟨.latch, ev, pos, some .done⟩ => (match d.evt.latches with
   | x :: xs => decide (xs ≠ [])
   | _ => false)
   | _ => false) : Bool),
  -- clause 5
  (let d := seenBy (.evtCtrlClear now) ({ dev0 with sys.state := .run, acc.level := 2 })
   decide (d.hears = true ∧ d.writeRefusal aEVT_CTRL 0x1 = 0 ∧ d.clearRefusal = 0) : Bool),
  -- clause 6
  (let d := seenBy (.evtCtrlClear now) ({ dev0 with sys.state := .run, acc.level := 2, loft.bp := 3 })
   decide (d.hears = true ∧ d.writeRefusal aEVT_CTRL 0x1 = 0 ∧ d.clearRefusal ≠ 0) : Bool),
  -- clause 7
  (let d := seenBy (.logClearComplete now) ({ dev0 with evt.clearing := true, evt.cleared := false, evt.cur := some ⟨.cleared, ⟨0, 0, 0x1000, 0, 0, 0, [], false⟩, 9, some .done⟩ })
   (match d.evt.cur with
   | some ⟨.cleared, ev, pos, some .done⟩ => decide (d.evt.clearing = true ∧ d.evt.cleared = false)
   | _ => false) : Bool),
  -- clause 8
  (let bp : Nat := 1; let d := seenBy (.loftProtWrite now bp) ({ dev0 with sys.state := .run, acc.level := 2 })
   decide (d.hears = true ∧ d.writeRefusal aLOFT_PROT (BitVec.ofNat 32 (bp % 4)) = 0) : Bool),
  -- clause 9
  (let d := seenBy (.protectionWordProgrammed now) ({ dev0 with loft.protPend := some 1, loft.busy := false })
   (d.loft.protPend).any fun bp => decide (d.loft.busy = false) : Bool),
  -- clause 10
  (let d := seenBy (.logClearComplete now) ({ dev0 with evt.clearing := true, evt.cleared := true })
   decide (d.evt.clearing = true ∧ d.evt.cleared = true ∧ d.loft.counting 515 = false) : Bool)].all id) = true := by decide +kernel

/-- A state and operands for each hypothesis-bearing clause of `Obligations.ReadsThatActAndTheHostStep`. -/
theorem test_meets_ReadsThatActAndTheHostStep : ([
  -- clause 1
  (let d := seenBy (.protCaplRead now) ({ dev0 with sys.state := .run, prot.capture := [7] })
   (match d.prot.capture with
   | x :: xs => decide (d.hears = true)
   | _ => false) : Bool),
  -- clause 2
  (let d := seenBy (.evtRdata0Read now) ({ dev0 with sys.state := .run, acc.level := 2 })
   decide (d.hears = true ∧ d.readsOnly = false ∧ 1 ≤ d.acc.level) : Bool),
  -- clause 3
  (let d := seenBy (.evtLwdataRead now) ({ dev0 with sys.state := .run })
   decide (d.hears = true) : Bool),
  -- clause 4
  (let d := seenBy (.loftRdataRead now) ({ dev0 with sys.state := .run, acc.level := 2, loft.portOk := true })
   decide (d.hears = true ∧ d.readsOnly = false ∧ 1 ≤ d.acc.level ∧ d.loft.portOk = true) : Bool),
  -- clause 5
  (let w : Word := 0; let d := seenBy (.loftWdataWrite now w) ({ dev0 with sys.state := .run, acc.level := 2 })
   decide (d.hears = true ∧ d.writeRefusal aLOFT_WDATA w = 0 ∧ d.loft.hostBuf.length < 1024) : Bool),
  -- clause 6
  (let d := seenBy (.loftWctlGo now) (({ dev0 with sys.state := .run, acc.level := 2, loft.hostBuf := [7] } : Dev).bits aLOFT_WADDR 25 0 0x40000)
   decide (d.hears = true ∧ d.writeRefusal aLOFT_WCTL 0x1 = 0 ∧ d.hostStarts = true ∧ d.hostFits = true) : Bool),
  -- clause 7
  (let d := seenBy (.loftWctlDiscard now) ({ dev0 with sys.state := .run, acc.level := 2 })
   decide (d.hears = true ∧ d.writeRefusal aLOFT_WCTL 0x2 = 0) : Bool)].all id) = true := by decide +kernel

/-- A state and operands for each hypothesis-bearing clause of `Obligations.TheRegisterWindow`. -/
theorem test_meets_TheRegisterWindow : ([
  -- clause 1
  (let x : Txn := ⟨true, List.replicate 3 1, none, false⟩; let d := seenBy (.regAddr now x) ({ dev0 with sys.state := .run })
   decide (d.takesWrite 0xD0 x = true ∧ x.data.length = 3 ∧ d.bars .other = false) : Bool),
  -- clause 2
  (let x : Txn := ⟨false, [], none, false⟩; let d := seenBy (.regData now x) ({ dev0 with sys.state := .run, mgmt.window := aSYS_STATE })
   decide (d.takesRead x = true ∧ d.mgmt.window = aSYS_STATE) : Bool),
  -- clause 3
  (let x : Txn := ⟨false, leBytes 3 aSYS_STATE, none, false⟩; let d := seenBy (.regRead now x) ({ dev0 with sys.state := .run })
   decide (d.takesRead x = true ∧ x.data = leBytes 3 aSYS_STATE) : Bool),
  -- clause 4
  (let x : Txn := ⟨false, [], none, false⟩; let d := seenBy (.regBurst now x) ({ dev0 with sys.state := .run })
   decide (d.takesRead x = true) : Bool),
  -- clause 5
  (let a : Nat := aPROT_CAPEN; let v : Nat := 5; let x : Txn := ⟨true, leBytes 3 a ++ leBytes 4 v, none, false⟩; let d := seenBy (.regWrite now x) ({ dev0 with sys.state := .run, acc.level := 2 })
   decide (d.takesWrite 0xD2 x = true ∧ x.data = leBytes 3 a ++ leBytes 4 v ∧ a ∈ [aPROT_CAPEN, aPROT_ALERTEN, aDOM_ALERTEN, aPERF_WADDR, aPERF_WDATA] ∧ d.writeRefusal a (BitVec.ofNat 32 v) = 0) : Bool),
  -- clause 6
  (let a : Nat := aPROT_CAPEN; let v : Word := 5; let d := seenBy (.registerWrite now a v) ({ dev0 with sys.state := .run, acc.level := 2 })
   decide (d.hears = true ∧ a ∈ [aPROT_CAPEN, aPROT_ALERTEN, aDOM_ALERTEN, aPERF_WADDR, aPERF_WDATA] ∧ d.writeRefusal a v = 0) : Bool),
  -- clause 7
  (let addr : Nat := 0; let v : Word := 5; let d := seenBy (.registerWrite now addr v) ({ dev0 with sys.state := .run })
   decide (d.hears = true ∧ d.writeRefusal (addr % 2 ^ 24 / 4 * 4) v ≠ 0) : Bool)].all id) = true := by decide +kernel

/-- A state and operands for each hypothesis-bearing clause of `Obligations.GroupCommitAndWarm`. -/
theorem test_meets_GroupCommitAndWarm : ([
  -- clause 1
  (let x : Txn := ⟨true, [0x33, 2], none, false⟩; let d := seenBy (.groupCommit now x) ({ dev0 with sys.state := .run, acc.level := 2 })
   decide (d.takesWrite 0xD5 x = true ∧ x.data.length = 2 ∧ d.writeRefusal aSYS_GCOMMIT (BitVec.ofNat 32 (leNat x.data)) = 0 ∧ (groupKnown (leNat x.data % 256) = false ∨ d.regs.act.YARD_CFG_EN (leNat x.data / 256 % 8) = 0)) : Bool),
  -- clause 2
  (let x : Txn := ⟨true, [0, 2], none, false⟩; let d := seenBy (.groupCommit now x) ((({ (({ dev0 with sys.state := .run, acc.level := 2 } : Dev).bits (aYARD_CFG (leNat x.data / 256 % 8)) 0 0 1).onRail (leNat x.data / 256 % 8) fun x => { x with state := .reg } with acc.level := 2 } : Dev).bits (aYARD_CFG 2) 0 0 1).onRail 2 fun x => { x with state := .reg })
   decide (d.takesWrite 0xD5 x = true ∧ x.data.length = 2 ∧ d.writeRefusal aSYS_GCOMMIT (BitVec.ofNat 32 (leNat x.data)) = 0 ∧ leNat x.data % 256 ≤ 9 ∧ leNat x.data / 256 % 8 < d.laws.length ∧ d.regs.act.YARD_CFG_EN (leNat x.data / 256 % 8) ≠ 0 ∧ d.engCheck (leNat x.data / 256 % 8) (leNat x.data % 256) = 0 ∧ (d.rail (leNat x.data / 256 % 8)).state = .reg) : Bool),
  -- clause 3
  (let x : Txn := ⟨true, [0xA5], none, false⟩; let d := seenBy (.warm now x) ({ dev0 with sys.state := .run, acc.level := 2, pair.partnerArmed := false })
   decide (d.takesWrite 0xD6 x = true ∧ x.data = [0xA5] ∧ d.sys.state = .run ∧ 1 ≤ d.acc.level ∧ d.pair.partnerArmed = false) : Bool),
  -- clause 4
  (let x : Txn := ⟨true, [0xA5], none, false⟩; let d := seenBy (.warm now x) ({ dev0 with sys.state := .idle, acc.level := 2 })
   decide (d.takesWrite 0xD6 x = true ∧ x.data = [0xA5] ∧ d.sys.state ≠ .run ∧ 1 ≤ d.acc.level) : Bool)].all id) = true := by decide +kernel

/-- A state and operands for each hypothesis-bearing clause of `Obligations.SessionsOpenAndClose`. -/
theorem test_meets_SessionsOpenAndClose : ([
  -- clause 1
  (let x : Txn := ⟨true, 1 :: [0x31, 0x32, 0x33, 0x34, 0x35, 0x36, 0x37, 0x38], none, false⟩; let d := seenBy (.login now x) ((fun d : Dev => { d with acc.key.hash := passwordHash d.acc.key.salt [0x31, 0x32, 0x33, 0x34, 0x35, 0x36, 0x37, 0x38] }) ({ dev0 with sys.state := .run, acc.level := 0, acc.lost := false, acc.fails := 0 }))
   decide (d.takesWrite 0xD7 x = true ∧ x.data.head? = some 1 ∧ isPassword x.data.tail = true ∧ d.bars .session = false ∧ d.inBackoff = false ∧ passwordHash d.acc.key.salt x.data.tail = d.acc.key.hash ∧ d.acc.level = 0) : Bool),
  -- clause 2
  (let x : Txn := ⟨true, 1 :: [0x31, 0x32, 0x33, 0x34, 0x35, 0x36, 0x37, 0x38], none, false⟩; let d := seenBy (.login now x) ({ dev0 with sys.state := .run, acc.lost := false, acc.fails := 0 })
   decide (d.takesWrite 0xD7 x = true ∧ x.data.head? = some 1 ∧ isPassword x.data.tail = true ∧ d.bars .session = false ∧ d.inBackoff = false ∧ passwordHash d.acc.key.salt x.data.tail ≠ d.acc.key.hash) : Bool),
  -- clause 3
  (let x : Txn := ⟨true, 1 :: [0x31, 0x32, 0x33, 0x34, 0x35, 0x36, 0x37, 0x38], none, false⟩; let d := seenBy (.login now x) ({ dev0 with sys.state := .run })
   decide (d.takesWrite 0xD7 x = true ∧ x.data.head? = some 1 ∧ isPassword x.data.tail = true ∧ d.bars .session = false ∧ d.inBackoff = true) : Bool),
  -- clause 4
  (let x : Txn := ⟨true, 2 :: [0x31, 0x32, 0x33, 0x34, 0x35, 0x36, 0x37, 0x38], none, false⟩; let d := seenBy (.passwordSet now x) ({ dev0 with sys.state := .run, acc.level := 2, loft.bp := 0 })
   decide (d.takesWrite 0xD7 x = true ∧ x.data.head? = some 2 ∧ isPassword x.data.tail = true ∧ d.bars .session = false ∧ d.acc.level = 2 ∧ d.loft.bp = 0) : Bool),
  -- clause 5
  (let x : Txn := ⟨false, [], none, false⟩; let d := seenBy (.challenge now x) ({ dev0 with sys.state := .run })
   decide (d.takesRead x = true) : Bool),
  -- clause 6
  (let d := seenBy (.challengeExpiry now) ({ dev0 with acc.chal := some (List.replicate 32 0, 0) })
   (match d.acc.chal with
   | some (c, t0) => decide (t0 + 60 * secEu ≤ d.now)
   | _ => false) : Bool),
  -- clause 7
  (let x : Txn := ⟨true, hmac (List.replicate 32 0) (challengeMessage (List.replicate 32 0) ((({} : Loft)).serial [])), none, false⟩; let M : Memory := []; let d := seenBy (.response now x) ({ dev0 with sys.state := .run, acc.lost := false, acc.fails := 0, acc.chal := some (List.replicate 32 0, now) })
   decide (d.takesWrite 0xD9 x = true ∧ x.data.length = 32 ∧ d.bars .session = false ∧ d.inBackoff = false ∧ d.responseOk M x.data = true) : Bool),
  -- clause 8
  (let x : Txn := ⟨true, List.replicate 32 1, none, false⟩; let M : Memory := []; let d := seenBy (.response now x) ({ dev0 with sys.state := .run, acc.lost := false, acc.fails := 0, acc.chal := some (List.replicate 32 0, now) })
   decide (d.takesWrite 0xD9 x = true ∧ x.data.length = 32 ∧ d.bars .session = false ∧ d.inBackoff = false ∧ d.responseOk M x.data = false) : Bool),
  -- clause 9
  (let x : Txn := ⟨true, [], none, false⟩; let d := seenBy (.logout now x) ({ dev0 with sys.state := .run, acc.level := 2, acc.key.lock := true, acc.inst.state := .idle, acc.inst.second := false })
   decide (d.takesWrite 0xDA x = true ∧ x.data = [] ∧ d.bars .session = false ∧ d.acc.level ≠ 0 ∧ d.acc.key.lock = true ∧ d.acc.inst.active = false) : Bool),
  -- clause 10
  (let d := seenBy (.sessionIdleTimeout now) ({ dev0 with acc.level := 2, acc.key.lock := true, acc.inst.state := .idle, acc.inst.second := false })
   decide (d.acc.lastTxn + 300 * secEu ≤ d.now ∧ d.acc.level ≠ 0 ∧ d.acc.key.lock = true ∧ d.acc.inst.active = false) : Bool),
  -- clause 11
  (let x : Txn := ⟨false, [], none, false⟩; let d := seenBy (.accessStatus now x) ({ dev0 with sys.state := .run })
   decide (d.takesRead x = true) : Bool),
  -- clause 12
  (let d := seenBy (.accCtrlLock now) ({ dev0 with sys.state := .run, acc.key.lock := false, acc.inst.state := .idle, acc.inst.second := false, acc.level := 2, acc.key.pwSet := true })
   decide (d.hears = true ∧ d.writeRefusal aACC_CTRL 0x2 = 0 ∧ d.acc.key.lock = false ∧ d.acc.inst.active = false) : Bool),
  -- clause 13
  (let d := seenBy (.accCtrlUnlock now) ({ dev0 with sys.state := .run, acc.key.lock := true, acc.level := 2 })
   decide (d.hears = true ∧ d.writeRefusal aACC_CTRL 0x4 = 0 ∧ d.acc.key.lock = true) : Bool),
  -- clause 14
  (let x : Txn := ⟨true, 1 :: [0x31, 0x32, 0x33, 0x34, 0x35, 0x36, 0x37, 0x38], none, false⟩; let d := seenBy (.login now x) ((fun d : Dev => { d with acc.key.hash := passwordHash d.acc.key.salt [0x31, 0x32, 0x33, 0x34, 0x35, 0x36, 0x37, 0x38] }) ({ dev0 with sys.state := .run, acc.level := 0, acc.lost := false, acc.fails := 3, acc.backEnd := now }))
   decide (d.takesWrite 0xD7 x = true ∧ x.data.head? = some 1 ∧ isPassword x.data.tail = true ∧ d.bars .session = false ∧ d.acc.lost = false ∧ d.acc.fails ≠ 0 ∧ d.now = d.acc.backEnd ∧ passwordHash d.acc.key.salt x.data.tail = d.acc.key.hash ∧ d.acc.level = 0) : Bool)].all id) = true := by decide +kernel

/-- A state and operands for each hypothesis-bearing clause of `Obligations.InstallsReceiveCommitAndEnd`. -/
theorem test_meets_InstallsReceiveCommitAndEnd : ([
  -- clause 1
  (let dual : Bool := true; let d := seenBy (.installBegin now dual) ({ dev0 with sys.state := .run, acc.level := 2, acc.inst.state := .idle, acc.inst.second := false })
   decide (d.hears = true ∧ d.writeRefusal aACC_INSTCTL (if dual then 0x9 else 0x1) = 0 ∧ d.acc.inst.active = false) : Bool),
  -- clause 2
  (let x : Txn := ⟨true, List.replicate 4 1, none, false⟩; let d := seenBy (.instData now x) ({ dev0 with sys.state := .run, acc.level := 2, acc.inst.state := .receiving })
   decide (d.takesWrite 0xDC x = true ∧ x.data.length = 4 ∧ d.bars .install = false ∧ d.acc.level = 2 ∧ d.acc.inst.state = .receiving ∧ d.acc.inst.words < 128) : Bool),
  -- clause 3
  (let d := seenBy (.installCommit now) ({ dev0 with sys.state := .run, acc.inst.state := .receiving, acc.level := 2, acc.inst.header := (List.range 128).map fun i => BitVec.ofNat 32 (numAt hdr (4 * i) 4), acc.inst.crc := crc32 body8 ^^^ 0xFFFFFFFF, acc.inst.words := 130 })
   decide (d.hears = true ∧ d.writeRefusal aACC_INSTCTL 0x2 = 0 ∧ d.acc.inst.state = .receiving ∧ d.commitCheck = 0) : Bool),
  -- clause 4
  (let d := seenBy (.installCommit now) ({ dev0 with sys.state := .run, acc.level := 2, acc.inst.state := .receiving })
   decide (d.hears = true ∧ d.writeRefusal aACC_INSTCTL 0x2 = 0 ∧ d.acc.inst.state = .receiving ∧ d.commitCheck ≠ 0) : Bool),
  -- clause 5
  (let d := seenBy (.installAbort now) ({ dev0 with sys.state := .run, acc.level := 2, acc.inst.state := .receiving })
   decide (d.hears = true ∧ d.writeRefusal aACC_INSTCTL 0x4 = 0 ∧ d.acc.inst.active = true) : Bool),
  -- clause 6
  (let d := seenBy (.imageInstallComplete now) ({ dev0 with loft.jobs := [], acc.inst.second := false, acc.inst.state := .writing, acc.inst.failed := false, acc.inst.dual := false })
   decide (d.loft.jobs = [] ∧ d.acc.inst.second = false ∧ d.acc.inst.state = .writing ∧ d.acc.inst.failed = false ∧ d.acc.inst.dual = false) : Bool),
  -- clause 7
  (let d := seenBy (.certificateInstall now) ({ dev0 with sys.state := .run, acc.level := 2 })
   decide (d.hears = true ∧ d.writeRefusal aACC_INSTCTL 0x10 = 0 ∧ d.acc.inst.certWords.length ≠ 24) : Bool),
  -- clause 8
  (let d := seenBy (.certificateInstall now) ({ dev0 with sys.state := .run, loft.bp := 0, acc.level := 2, acc.inst.certWords := certWords0 })
   let p := wordBytes d.acc.inst.certWords; decide (d.hears = true ∧ d.writeRefusal aACC_INSTCTL 0x10 = 0 ∧ d.acc.inst.certWords.length = 24 ∧ d.streamCodeOk p = true ∧ certFieldsOk p = true ∧ d.loft.bp = 0 ∧ (d.loft.winner (.cert (numAt p 0 2))).elim 0 (·.seq) + (d.loft.jobs.filter fun j => j.tag = .rec2 (.cert (numAt p 0 2))).length < 0xFFFFFFFF) : Bool),
  -- clause 9
  (let path : Nat := 2; let payload : List Byte := []; let d := seenBy (.loftStepComplete now [] []) ({ dev0 with loft.busy := true, loft.remap := [], loft.remapping := none, loft.jobs := [⟨4, .rec2 (.cert 2), .rec2 (.cert 2) [], [(8200, [1, 0, 3])], true⟩] })
   (match d.loft.jobs with
   | j :: js => (match j.steps with
   | [(a, bs)] => decide (d.loft.busy = true ∧ j.tag = .rec2 (.cert path) ∧ j.req = .rec2 (.cert path) payload ∧ protEnd d.loft.bp ≤ a ∧ d.loft.remap = [] ∧ d.loft.remapping = none ∧ a % 512 + bs.length ≤ 512 ∧ bs ≠ [])
   | _ => false)
   | _ => false) : Bool)].all id) = true := by decide +kernel

/-- A state and operands for each hypothesis-bearing clause of `Obligations.StatusCommandsReadAndClear`. -/
theorem test_meets_StatusCommandsReadAndClear : ([
  -- clause 1
  (let x : Txn := ⟨false, [], none, false⟩; let d := seenBy (.statusByte now x) (({ dev0 with sys.state := .run, mgmt.page := 2 } : Dev).bits (aYARD_CFG 2) 0 0 1)
   decide (d.takesRead x = true ∧ d.mgmt.page ≠ 0xFF ∧ d.regs.act.YARD_CFG_EN d.mgmt.page ≠ 0) : Bool),
  -- clause 2
  (let x : Txn := ⟨false, [], none, false⟩; let d := seenBy (.statusWord now x) (({ dev0 with sys.state := .run, mgmt.page := 2 } : Dev).bits (aYARD_CFG 2) 0 0 1)
   decide (d.takesRead x = true ∧ d.mgmt.page ≠ 0xFF ∧ d.regs.act.YARD_CFG_EN d.mgmt.page ≠ 0) : Bool),
  -- clause 3
  (let x : Txn := ⟨false, [], none, false⟩; let d := seenBy (.statusVout now x) (({ dev0 with sys.state := .run, mgmt.page := 2 } : Dev).bits (aYARD_CFG 2) 0 0 1)
   decide (d.takesRead x = true ∧ d.mgmt.page ≠ 0xFF ∧ d.regs.act.YARD_CFG_EN d.mgmt.page ≠ 0) : Bool),
  -- clause 4
  (let x : Txn := ⟨false, [], none, false⟩; let d := seenBy (.statusIout now x) (({ dev0 with sys.state := .run, mgmt.page := 2 } : Dev).bits (aYARD_CFG 2) 0 0 1)
   decide (d.takesRead x = true ∧ d.mgmt.page ≠ 0xFF ∧ d.regs.act.YARD_CFG_EN d.mgmt.page ≠ 0) : Bool),
  -- clause 5
  (let x : Txn := ⟨false, [], none, false⟩; let d := seenBy (.statusTemperature now x) (({ dev0 with sys.state := .run, mgmt.page := 2 } : Dev).bits (aYARD_CFG 2) 0 0 1)
   decide (d.takesRead x = true ∧ d.mgmt.page ≠ 0xFF ∧ d.regs.act.YARD_CFG_EN d.mgmt.page ≠ 0) : Bool),
  -- clause 6
  (let x : Txn := ⟨false, [], none, false⟩; let d := seenBy (.statusMfrSpecific now x) (({ dev0 with sys.state := .run, mgmt.page := 2 } : Dev).bits (aYARD_CFG 2) 0 0 1)
   decide (d.takesRead x = true ∧ d.mgmt.page ≠ 0xFF ∧ d.regs.act.YARD_CFG_EN d.mgmt.page ≠ 0) : Bool),
  -- clause 7
  (let x : Txn := ⟨false, [], none, false⟩; let d := seenBy (.statusInput now x) ({ dev0 with sys.state := .run })
   decide (d.takesRead x = true) : Bool),
  -- clause 8
  (let x : Txn := ⟨false, [], none, false⟩; let d := seenBy (.statusCml now x) ({ dev0 with sys.state := .run })
   decide (d.takesRead x = true) : Bool),
  -- clause 9
  (let x : Txn := ⟨true, List.replicate 1 1, none, false⟩; let d := seenBy (.statusVout now x) ({ dev0 with sys.state := .run, acc.level := 2, mgmt.page := 2 })
   decide (d.takesWrite 0x7A x = true ∧ x.data.length = 1 ∧ d.bars .other = false ∧ 1 ≤ d.acc.level ∧ d.mgmt.page ≠ 0xFF) : Bool),
  -- clause 10
  (let x : Txn := ⟨true, List.replicate 1 1, none, false⟩; let d := seenBy (.statusIout now x) ({ dev0 with sys.state := .run, acc.level := 2, mgmt.page := 2 })
   decide (d.takesWrite 0x7B x = true ∧ x.data.length = 1 ∧ d.bars .other = false ∧ 1 ≤ d.acc.level ∧ d.mgmt.page ≠ 0xFF) : Bool),
  -- clause 11
  (let x : Txn := ⟨true, List.replicate 1 1, none, false⟩; let d := seenBy (.statusTemperature now x) ({ dev0 with sys.state := .run, acc.level := 2, mgmt.page := 2 })
   decide (d.takesWrite 0x7D x = true ∧ x.data.length = 1 ∧ d.bars .other = false ∧ 1 ≤ d.acc.level ∧ d.mgmt.page ≠ 0xFF) : Bool),
  -- clause 12
  (let x : Txn := ⟨true, List.replicate 1 1, none, false⟩; let d := seenBy (.statusMfrSpecific now x) ({ dev0 with sys.state := .run, acc.level := 2, mgmt.page := 2 })
   decide (d.takesWrite 0x80 x = true ∧ x.data.length = 1 ∧ d.bars .other = false ∧ 1 ≤ d.acc.level ∧ d.mgmt.page ≠ 0xFF) : Bool),
  -- clause 13
  (let x : Txn := ⟨true, List.replicate 1 1, none, false⟩; let d := seenBy (.statusInput now x) ({ dev0 with sys.state := .run, acc.level := 2 })
   decide (d.takesWrite 0x7C x = true ∧ x.data.length = 1 ∧ d.bars .other = false ∧ 1 ≤ d.acc.level) : Bool),
  -- clause 14
  (let x : Txn := ⟨true, List.replicate 1 1, none, false⟩; let d := seenBy (.statusCml now x) ({ dev0 with sys.state := .run, acc.level := 2 })
   decide (d.takesWrite 0x7E x = true ∧ x.data.length = 1 ∧ d.bars .other = false ∧ 1 ≤ d.acc.level) : Bool),
  -- clause 15
  (let x : Txn := ⟨true, [0, 0x80], none, false⟩; let d := seenBy (.statusWord now x) ({ dev0 with sys.state := .run, acc.level := 2, mgmt.page := 2 })
   decide (d.takesWrite 0x79 x = true ∧ x.data.length = 2 ∧ d.bars .other = false ∧ 1 ≤ d.acc.level ∧ d.mgmt.page ≠ 0xFF ∧ leNat x.data = 2 ^ 15) : Bool),
  -- clause 16
  (let x : Txn := ⟨true, [], none, false⟩; let d := seenBy (.clearFaults now x) ({ dev0 with sys.state := .run, acc.level := 2, mgmt.page := 2 })
   decide (d.takesWrite 0x03 x = true ∧ x.data = [] ∧ d.bars .other = false ∧ 1 ≤ d.acc.level ∧ d.mgmt.page ≠ 0xFF) : Bool)].all id) = true := by decide +kernel

/-- A state and operands for each hypothesis-bearing clause of `Obligations.TelemetryReadsAnswer`. -/
theorem test_meets_TelemetryReadsAnswer : ([
  -- clause 1
  (let x : Txn := ⟨false, [], none, false⟩; let d := seenBy (.readVin now x) ({ dev0 with sys.state := .run })
   decide (d.takesRead x = true) : Bool),
  -- clause 2
  (let x : Txn := ⟨false, [], none, false⟩; let d := seenBy (.readIin now x) ({ dev0 with sys.state := .run })
   decide (d.takesRead x = true) : Bool),
  -- clause 3
  (let x : Txn := ⟨false, [], none, false⟩; let d := seenBy (.readPin now x) ({ dev0 with sys.state := .run })
   decide (d.takesRead x = true) : Bool),
  -- clause 4
  (let x : Txn := ⟨false, [], none, false⟩; let d := seenBy (.readVout now x) (({ dev0 with sys.state := .run, mgmt.page := 2 } : Dev).bits (aYARD_CFG 2) 0 0 1)
   decide (d.takesRead x = true ∧ d.mgmt.page ≠ 0xFF ∧ d.regs.act.YARD_CFG_EN d.mgmt.page ≠ 0) : Bool),
  -- clause 5
  (let x : Txn := ⟨false, [], none, false⟩; let d := seenBy (.readIout now x) (({ dev0 with sys.state := .run, mgmt.page := 2 } : Dev).bits (aYARD_CFG 2) 0 0 1)
   decide (d.takesRead x = true ∧ d.mgmt.page ≠ 0xFF ∧ d.regs.act.YARD_CFG_EN d.mgmt.page ≠ 0) : Bool),
  -- clause 6
  (let x : Txn := ⟨false, [], none, false⟩; let d := seenBy (.readPout now x) (({ dev0 with sys.state := .run, mgmt.page := 2 } : Dev).bits (aYARD_CFG 2) 0 0 1)
   decide (d.takesRead x = true ∧ d.mgmt.page ≠ 0xFF ∧ d.regs.act.YARD_CFG_EN d.mgmt.page ≠ 0) : Bool),
  -- clause 7
  (let x : Txn := ⟨false, [], none, false⟩; let d := seenBy (.readTemperature1 now x) (({ dev0 with sys.state := .run, mgmt.page := 2 } : Dev).bits (aYARD_CFG 2) 0 0 1)
   decide (d.takesRead x = true ∧ d.mgmt.page ≠ 0xFF ∧ d.regs.act.YARD_CFG_EN d.mgmt.page ≠ 0) : Bool),
  -- clause 8
  (let x : Txn := ⟨false, [], none, false⟩; let d := seenBy (.readTemperature2 now x) ({ dev0 with sys.state := .run })
   decide (d.takesRead x = true) : Bool),
  -- clause 9
  (let x : Txn := ⟨false, [], none, false⟩; let d := seenBy (.readFrequency now x) (({ dev0 with sys.state := .run, mgmt.page := 2 } : Dev).bits (aYARD_CFG 2) 0 0 1)
   decide (d.takesRead x = true ∧ d.mgmt.page ≠ 0xFF ∧ d.regs.act.YARD_CFG_EN d.mgmt.page ≠ 0) : Bool),
  -- clause 10
  (let x : Txn := ⟨false, [], none, false⟩; let d := seenBy (.readVout now x) ({ dev0 with sys.state := .run })
   decide (d.takesRead x = true ∧ (d.mgmt.page = 0xFF ∨ d.regs.act.YARD_CFG_EN d.mgmt.page = 0)) : Bool)].all id) = true := by decide +kernel

/-- A state and operands for each hypothesis-bearing clause of `Obligations.FixedAnswersAndTheBus`. -/
theorem test_meets_FixedAnswersAndTheBus : ([
  -- clause 1
  (let x : Txn := ⟨false, [], none, false⟩; let d := seenBy (.capability now x) ({ dev0 with sys.state := .run })
   decide (d.takesRead x = true) : Bool),
  -- clause 2
  (let x : Txn := ⟨false, [], none, false⟩; let d := seenBy (.voutMode now x) ({ dev0 with sys.state := .run })
   decide (d.takesRead x = true) : Bool),
  -- clause 3
  (let x : Txn := ⟨false, [], none, false⟩; let d := seenBy (.pmbusRevision now x) ({ dev0 with sys.state := .run })
   decide (d.takesRead x = true) : Bool),
  -- clause 4
  (let x : Txn := ⟨false, [], none, false⟩; let d := seenBy (.mfrId now x) ({ dev0 with sys.state := .run })
   decide (d.takesRead x = true) : Bool),
  -- clause 5
  (let x : Txn := ⟨false, [], none, false⟩; let d := seenBy (.mfrModel now x) ({ dev0 with sys.state := .run })
   decide (d.takesRead x = true) : Bool),
  -- clause 6
  (let x : Txn := ⟨false, [], none, false⟩; let d := seenBy (.mfrRevision now x) ({ dev0 with sys.state := .run })
   decide (d.takesRead x = true) : Bool),
  -- clause 7
  (let x : Txn := ⟨false, [], none, false⟩; let d := seenBy (.mfrSerial now x) ({ dev0 with sys.state := .run })
   decide (d.takesRead x = true) : Bool),
  -- clause 8
  (let x : Txn := ⟨false, [], none, false⟩; let d := seenBy (.icDeviceId now x) ({ dev0 with sys.state := .run })
   decide (d.takesRead x = true) : Bool),
  -- clause 9
  (let x : Txn := ⟨false, [], none, false⟩; let d := seenBy (.icDeviceRev now x) ({ dev0 with sys.state := .run })
   decide (d.takesRead x = true) : Bool),
  -- clause 10
  (let d := seenBy (.smbusAlertResponse now) ({ dev0 with sys.state := .run, tb.lossFault := true })
   decide (d.hears = true ∧ d.malertLow = true) : Bool),
  -- clause 11
  (let d := seenBy (.smbusAlertResponse now) ({ dev0 with sys.state := .run })
   decide (d.hears = true ∧ d.malertLow = false) : Bool),
  -- clause 13
  (let code : Nat := 0x4A; let x : Txn := ⟨false, [], none, false⟩; let d := seenBy (.unsupportedCommand now code x) ({ dev0 with sys.state := .run })
   decide (d.takesRead x = true ∧ supportedCodes.contains (code % 256) = false) : Bool)].all id) = true := by decide +kernel

/-- A state and operands for each hypothesis-bearing clause of `Obligations.PmbusControlsTheRails`. -/
theorem test_meets_PmbusControlsTheRails : ([
  -- clause 1
  (let x : Txn := ⟨true, List.replicate 1 1, none, false⟩; let d := seenBy (.page now x) ({ dev0 with sys.state := .run })
   decide (d.takesWrite 0x00 x = true ∧ x.data.length = 1 ∧ d.bars .page = false ∧ (leNat x.data ≤ 7 ∨ leNat x.data = 0xFF)) : Bool),
  -- clause 2
  (let x : Txn := ⟨true, [8], none, false⟩; let d := seenBy (.page now x) ({ dev0 with sys.state := .run })
   decide (d.takesWrite 0x00 x = true ∧ x.data.length = 1 ∧ d.bars .page = false ∧ 7 < leNat x.data ∧ leNat x.data ≠ 0xFF) : Bool),
  -- clause 3
  (let x : Txn := ⟨true, [0x80], none, false⟩; let n : Nat := 2; let d := seenBy (.operation now x) ((fun d : Dev => { d with regs.hold := d.regs.act }) (({ dev0 with sys.state := .run, acc.level := 2, mgmt.page := n } : Dev).bits (aSYS_RAILEN n) 31 0 0x18))
   decide (d.takesWrite 0x01 x = true ∧ x.data = [0x80] ∧ d.bars .other = false ∧ 1 ≤ d.acc.level ∧ n < 8 ∧ d.mgmt.page = n ∧ d.regs.act.rd (aSYS_RAILEN n) = d.regs.hold.rd (aSYS_RAILEN n) ∧ (d.regs.act.SYS_RAILEN_ONOFF n).testBit 4 = true ∧ (d.regs.act.SYS_RAILEN_ONOFF n).testBit 3 = true) : Bool),
  -- clause 4
  (let x : Txn := ⟨true, [0x40], none, false⟩; let n : Nat := 2; let d := seenBy (.operation now x) ((fun d : Dev => { d with regs.hold := d.regs.act }) (((({ dev0 with sys.state := .run, pins.above := true, hsw.state := .on, hsw.vibSent := 40000, acc.level := 2, mgmt.page := n } : Dev).bits (aSYS_RAILEN n) 15 8 0x80).onRail n fun x => { x with state := .reg, fired := true }).bits (aSYS_RAILEN n) 31 0 0x8018))
   decide (d.takesWrite 0x01 x = true ∧ x.data = [0x40] ∧ d.isStandby = false ∧ d.bars .other = false ∧ 1 ≤ d.acc.level ∧ n < 8 ∧ d.mgmt.page = n ∧ d.regs.act.rd (aSYS_RAILEN n) = d.regs.hold.rd (aSYS_RAILEN n) ∧ (d.regs.act.SYS_RAILEN_ONOFF n).testBit 4 = true ∧ (d.regs.act.SYS_RAILEN_ONOFF n).testBit 3 = true ∧ (d.regs.act.SYS_RAILEN_ONOFF n).testBit 2 = false ∧ d.regs.act.SYS_RAILEN_OPER n = 0x80 ∧ (d.rail n).state = .reg ∧ (d.rail n).fired = true ∧ d.leaderOf n = none ∧ d.causesNow n = []) : Bool),
  -- clause 5
  (let x : Txn := ⟨true, [2], none, false⟩; let n : Nat := 2; let d := seenBy (.onOffConfig now x) ({ dev0 with sys.state := .run, acc.level := 2, mgmt.page := n })
   decide (d.takesWrite 0x02 x = true ∧ x.data.length = 1 ∧ (leNat x.data).testBit 1 = true ∧ (leNat x.data).testBit 4 = false ∧ d.bars .other = false ∧ 1 ≤ d.acc.level ∧ n < 8 ∧ d.mgmt.page = n ∧ (d.regs.act.SYS_RAILEN_ONOFF n).testBit 4 = false) : Bool),
  -- clause 6
  (let x : Txn := ⟨true, List.replicate 1 1, none, false⟩; let d := seenBy (.onOffConfig now x) ({ dev0 with sys.state := .run, acc.level := 2 })
   decide (d.takesWrite 0x02 x = true ∧ x.data.length = 1 ∧ (leNat x.data).testBit 1 = false ∧ d.bars .other = false ∧ 1 ≤ d.acc.level) : Bool),
  -- clause 7
  (let x : Txn := ⟨true, [0, 8], none, false⟩; let n : Nat := 2; let d := seenBy (.voutCommand now x) ((((({ dev0 with sys.state := .run, acc.level := 2, mgmt.page := n } : Dev).bits (aYARD_CFG n) 0 0 1).bits (aLCP_RAILCFG n) 2 0 4).bits (aLCP_LIM n) 11 0 600).bits (aLCP_LIM n) 27 16 3000)
   decide (d.takesWrite 0x21 x = true ∧ x.data.length = 2 ∧ d.bars .other = false ∧ 1 ≤ d.acc.level ∧ n < d.rails.length ∧ d.mgmt.page = n ∧ n ≠ 0xFF ∧ d.owner n = some 4 ∧ d.inRange n (codeOfWord (leNat x.data)) = true ∧ codeOfWord (leNat x.data) ≠ 0) : Bool),
  -- clause 8
  (let x : Txn := ⟨true, List.replicate 2 1, none, false⟩; let n : Nat := 2; let d := seenBy (.voutCommand now x) ({ dev0 with sys.state := .run, acc.level := 2, mgmt.page := n })
   decide (d.takesWrite 0x21 x = true ∧ x.data.length = 2 ∧ d.bars .other = false ∧ 1 ≤ d.acc.level ∧ d.mgmt.page = n ∧ n ≠ 0xFF ∧ d.owner n ≠ some 4) : Bool),
  -- clause 9
  (let x : Txn := ⟨true, List.replicate 2 1, none, false⟩; let n : Nat := 2; let d := seenBy (.voutMax now x) ({ dev0 with sys.state := .run, acc.level := 2, mgmt.page := n })
   decide (d.takesWrite 0x24 x = true ∧ x.data.length = 2 ∧ d.bars .other = false ∧ 1 ≤ d.acc.level ∧ n < 8 ∧ d.mgmt.page = n ∧ codeOfWord (leNat x.data) ≤ 4095) : Bool),
  -- clause 10
  (let x : Txn := ⟨true, List.replicate 2 1, none, false⟩; let n : Nat := 2; let d := seenBy (.voutMin now x) ({ dev0 with sys.state := .run, acc.level := 2, mgmt.page := n })
   decide (d.takesWrite 0x2B x = true ∧ x.data.length = 2 ∧ d.bars .other = false ∧ 1 ≤ d.acc.level ∧ n < 8 ∧ d.mgmt.page = n ∧ codeOfWord (leNat x.data) ≤ 4095) : Bool),
  -- clause 11
  (let x : Txn := ⟨true, [], none, false⟩; let d := seenBy (.clearFaults now x) ({ dev0 with sys.state := .run, acc.level := 0 })
   decide (d.takesWrite 0x03 x = true ∧ x.data = [] ∧ d.bars .other = false ∧ d.acc.level = 0) : Bool)].all id) = true := by decide +kernel

end Sys2Proof.Machine
end

section
/-! SUPPORT. The global address word of R4 to R6, field by field, and the obligation about it. -/

namespace Sys2Proof.Machine

section
variable (d : Dev) {kind : Nat} (hk : kind < 8) (stall seg : Nat)
include hk

/-- With a KIND of three bits the fields do not carry out of the 32-bit word, so it is their plain sum. -/
theorem gaWord_toNat : (d.gaWord kind stall seg).toNat =
    kind * 2 ^ 29 + (d.dom.id % 65536) * 2 ^ 11 + (stall % 512) * 4 + seg % 4 := by
  rw [Dev.gaWord, BitVec.toNat_ofNat, Nat.mod_eq_of_lt]
  omega

theorem gaWord_kind : (d.gaWord kind stall seg).toNat / 2 ^ 29 = kind := by
  rw [gaWord_toNat d hk]
  omega

theorem gaWord_reserved : (d.gaWord kind stall seg).toNat / 2 ^ 27 % 4 = 0 := by
  rw [gaWord_toNat d hk]
  omega

theorem gaWord_domain : (d.gaWord kind stall seg).toNat / 2 ^ 11 % 2 ^ 16 = d.dom.id % 2 ^ 16 := by
  rw [gaWord_toNat d hk]
  omega

theorem gaWord_stall : (d.gaWord kind stall seg).toNat / 4 % 2 ^ 9 = stall % 2 ^ 9 := by
  rw [gaWord_toNat d hk]
  omega

theorem gaWord_segment : (d.gaWord kind stall seg).toNat % 4 = seg % 4 := by
  rw [gaWord_toNat d hk]
  omega

end

/-- R4: bits [8:4] of the stall number are the lane, bits [3:0] the position on its ring. -/
theorem gaStall_fields (d : Dev) {lane pos : Nat} (hl : lane < 32) (hp : pos < 16) :
    (d.gaStall (lane * 16 + pos)).toNat / 64 % 32 = lane ∧ (d.gaStall (lane * 16 + pos)).toNat / 4 % 16 = pos := by
  have hs : (d.gaStall (lane * 16 + pos)).toNat / 4 % 2 ^ 9 = (lane * 16 + pos) % 2 ^ 9 :=
    gaWord_stall d (by decide) _ _
  constructor <;> omega

/-- A lane's word is that of the stall at position 0 but for its KIND. -/
theorem gaLane_fields (d : Dev) {lane : Nat} (hl : lane < 32) :
    (d.gaLane lane).toNat / 64 % 32 = lane ∧ (d.gaLane lane).toNat / 4 % 16 = 0 := by
  have hs : (d.gaLane lane).toNat / 4 % 2 ^ 9 = (16 * lane) % 2 ^ 9 := gaWord_stall d (by decide) _ _
  constructor <;> omega

/-- A rail's number stands in the low three bits of the stall field, and the other six are 0. -/
theorem gaRail_fields (d : Dev) {rail : Nat} (hr : rail < 8) :
    (d.gaRail rail).toNat / 4 % 8 = rail ∧ (d.gaRail rail).toNat / 32 % 64 = 0 := by
  have hs : (d.gaRail rail).toNat / 4 % 2 ^ 9 = rail % 2 ^ 9 := gaWord_stall d (by decide) _ _
  constructor <;> omega

/-- Settles O57: each kind's word is a `gaWord`, whose fields stand side by side; a finer cut of the stall field (lane and
position, or a rail's three bits) follows from that field as a whole. -/
theorem addressWordsCarryTheirFields : Obligations.AddressWordsCarryTheirFields := by
  refine ⟨fun d kind stall seg hk => ?word, fun d lane pos hl hp => ?stall, fun d lane hl => ?lane,
    fun d rail hr => ?rail, fun d => ?dev⟩
  case word =>
    exact ⟨gaWord_kind d hk _ _, gaWord_reserved d hk _ _, gaWord_domain d hk _ _, gaWord_stall d hk _ _,
      gaWord_segment d hk _ _⟩
  case stall =>
    obtain ⟨hlane, hpos⟩ := gaStall_fields d hl hp
    exact ⟨gaWord_kind d (by decide) _ _, hlane, hpos, gaWord_segment d (by decide) _ _⟩
  case lane =>
    obtain ⟨hlane, hpos⟩ := gaLane_fields d hl
    exact ⟨gaWord_kind d (by decide) _ _, hlane, hpos, gaWord_segment d (by decide) _ _⟩
  case rail =>
    obtain ⟨hrail, hzero⟩ := gaRail_fields d hr
    exact ⟨gaWord_kind d (by decide) _ _, hrail, hzero, gaWord_segment d (by decide) _ _⟩
  case dev =>
    exact ⟨gaWord_kind d (by decide) _ _, gaWord_stall d (by decide) _ _, gaWord_segment d (by decide) _ _⟩

end Sys2Proof.Machine
end
